-- ==== Sys2Proof/Config.lean ====
section
/-! DEFINITION. What the part fixes once and for all: how many gates, lanes, slots, rows and steps it has.
The spec leaves no value to the implementation (notes/assumptions/2.md), so this file holds no free value. -/

namespace Sys2Proof

/-- A gate address. Address g of the manual (1 to 12) is the index g - 1 (R17). -/
abbrev Gate := Fin 12

/-- A known lane. Lane L of the manual (1 to 6, and P carried as 7) is the index L - 1 (R18, R63). -/
abbrev Lane := Fin 7

/-- A roster slot: 0 to 63 are the home slots, 64 to 71 the overflow slots (R59). -/
abbrev Slot := Fin 72

/-- A drive slot as an index: drive slot s of the manual (1 to 32) is the index s - 1 (R163). -/
abbrev DriveIx := Fin 32

end Sys2Proof
end

