-- ==== Sys2Proof/Word.lean ====
section
/-! DEFINITION. The word types of the LT6: the units in which its links and clocks count.
Everything a later test could show wrong (byte order, clamping, arithmetic) stands in Machine/. -/

namespace Sys2Proof

/-- A byte on one of the serial links (R184, R168, R198). -/
abbrev Byte := BitVec 8

/-- A session time: a value read from the 32-bit session clock, in ticks of 10 µs (R1). -/
abbrev Time := BitVec 32

/-- A transponder code, 0x0000 to 0xFFFF (R18, R63). -/
abbrev Code := BitVec 16

end Sys2Proof
end

