-- ==== Sys2Proof/Syntax.lean ====
section
/-! DEFINITION. The commands of the LT6, one constructor per row of spec/opcode_table.json, in the table's order.

Four kinds of operand occur.
* An event of the part itself (a deadline, a timer, a lapse) names the gate, lane, record or car it belongs to.
* A gate bus reply carries the head address of the frame and its payload bytes; the frame's KIND is the row.
* A console request carries the port it arrived on, its TAG and its payload bytes; its KIND is the row. Nothing is
  decoded here: the length check, the field decoding, the clamping and every refusal are part of the meaning (R186,
  R192, R199).
* A frame drop or gap carries the bytes that reached the receiver since its last event. -/

namespace Sys2Proof

/-- The two console ports (R184). Port A is race control, port B the marshal. -/
inductive PortId where
  | A
  | B
  deriving DecidableEq, Repr

/-- One command or event of the part: a row of spec/opcode_table.json. -/
inductive Instr where
  /-- HARD_RESET (R1): power-on or the reset input; the operands are the levels of the two baud straps. -/
  | hardReset (strapA strapB : Bool)
  /-- STROBE_EDGE (R10): the rising edge recognised at this tick on the gate's strobe input is taken. -/
  | strobeEdge (g : Gate)
  /-- GUARD_REFERENCE_LAPSE (R11). -/
  | guardReferenceLapse (g : Gate)
  /-- PAIRING_LIMIT (R14), of the oldest capture on the gate's stack. -/
  | pairingLimit (g : Gate)
  /-- LAST_CAPTURE_LAPSE (R13). -/
  | lastCaptureLapse (g : Gate)
  /-- ATTEMPT_TIMEOUT (R19), of the transaction on the line. -/
  | attemptTimeout
  /-- GATE_BUS_UNMATCHED_FRAME (R17): a frame with this TAG, KIND and payload. -/
  | gateBusUnmatchedFrame (tag kind : Byte) (payload : List Byte)
  /-- PROBE (R22): a reply frame of the head at g with this payload. -/
  | probe (g : Gate) (payload : List Byte)
  /-- SET_LANES (R23). -/
  | setLanes (g : Gate) (payload : List Byte)
  /-- SET_THRESHOLD (R23). -/
  | setThreshold (g : Gate) (payload : List Byte)
  /-- ENABLE (R23). -/
  | enable (g : Gate) (payload : List Byte)
  /-- FETCH (R27), of the fetch class. -/
  | fetch (g : Gate) (payload : List Byte)
  /-- STATUS (R25). -/
  | status (g : Gate) (payload : List Byte)
  /-- PATTERN_ON (R33). -/
  | patternOn (g : Gate) (payload : List Byte)
  /-- CHECK_FETCH (R33): a FETCH of a gate check. -/
  | checkFetch (g : Gate) (payload : List Byte)
  /-- PATTERN_OFF (R33). -/
  | patternOff (g : Gate) (payload : List Byte)
  /-- SETTLE_DEADLINE (R24). -/
  | settleDeadline (g : Gate)
  /-- STATUS_POLL_TIMER (R25). -/
  | statusPollTimer (g : Gate)
  /-- FAULT_PROBE_TIMER (R28). -/
  | faultProbeTimer (g : Gate)
  /-- QUIET_DEADLINE (R38), of one lane of one gate. -/
  | quietDeadline (g : Gate) (lane : Lane)
  /-- STRAY_MEMORY_LAPSE (R44). -/
  | strayMemoryLapse
  /-- UNATTRIBUTED_EXPIRY (R53), of the record with this id. -/
  | unattributedExpiry (id : Nat)
  /-- AGING_CHECK (R70). -/
  | agingCheck
  /-- SILENCE_DEADLINE (R108), of the car with this code. -/
  | silenceDeadline (code : Code)
  /-- STEP_DEADLINE (R118). -/
  | stepDeadline
  /-- PRACTICE_LIMIT (R114). -/
  | practiceLimit
  /-- RACE_LIMIT_DEADLINE (R128). -/
  | raceLimitDeadline
  /-- FINISH_WINDOW (R130). -/
  | finishWindow
  /-- ELAPSED_LIMIT (R131). -/
  | elapsedLimit
  /-- REVIEW_DEADLINE_EXPIRY (R144), of the penalty record with this id. -/
  | reviewDeadlineExpiry (id : Nat)
  /-- STOP_GO_END (R152), of the penalty record with this id. -/
  | stopGoEnd (id : Nat)
  /-- PB_POLL (R169): a power link frame of KIND PB_POLL with this TAG and payload. -/
  | pbPoll (tag : Byte) (payload : List Byte)
  /-- POWER_LINK_FRAME_DROP (R168): the bytes received since the receiver's last event. -/
  | powerLinkFrameDrop (bytes : List Byte)
  /-- POWER_LINK_GAP (R168): the bytes received since the receiver's last event, and when the last of them came. -/
  | powerLinkGap (bytes : List Byte) (lastAt : Time)
  /-- PERMITS (R170): the end of a PERMITS transmission. -/
  | permits
  /-- LINK_SILENCE_DEADLINE (R171). -/
  | linkSilenceDeadline
  /-- CONSOLE_FRAME_DROP (R185): the bytes received since the receiver's last event. -/
  | consoleFrameDrop (p : PortId) (bytes : List Byte)
  /-- CONSOLE_GAP (R185): the bytes received since the receiver's last event, and when the last of them came. -/
  | consoleGap (p : PortId) (bytes : List Byte) (lastAt : Time)
  /-- BUSY (R188): a valid frame taken while the port is engaged. -/
  | busy (p : PortId) (kind tag : Byte) (payload : List Byte)
  /-- UNKNOWN_KIND (R186): a valid frame whose KIND is not a request. -/
  | unknownKind (p : PortId) (kind tag : Byte) (payload : List Byte)
  /-- TRANSMIT_END (R189). -/
  | transmitEnd (p : PortId)
  /-- HOLD_DEADLINE (R196). -/
  | holdDeadline (p : PortId)
  /-- OPEN_PRACTICE (R113). -/
  | openPractice (p : PortId) (tag : Byte) (payload : List Byte)
  /-- END_PRACTICE (R114). -/
  | endPractice (p : PortId) (tag : Byte) (payload : List Byte)
  /-- FORM_GRID (R115). -/
  | formGrid (p : PortId) (tag : Byte) (payload : List Byte)
  /-- STAND_DOWN (R116). -/
  | standDown (p : PortId) (tag : Byte) (payload : List Byte)
  /-- START (R119). -/
  | start (p : PortId) (tag : Byte) (payload : List Byte)
  /-- ABORT_START (R122). -/
  | abortStart (p : PortId) (tag : Byte) (payload : List Byte)
  /-- CAUTION (R123, R124, R126). -/
  | caution (p : PortId) (tag : Byte) (payload : List Byte)
  /-- LIFT (R123, R124, R126). -/
  | lift (p : PortId) (tag : Byte) (payload : List Byte)
  /-- SUSPEND (R125). -/
  | suspend (p : PortId) (tag : Byte) (payload : List Byte)
  /-- RESUME (R127). -/
  | resume (p : PortId) (tag : Byte) (payload : List Byte)
  /-- CLOSE (R131). -/
  | close (p : PortId) (tag : Byte) (payload : List Byte)
  /-- RELEASE (R133). -/
  | release (p : PortId) (tag : Byte) (payload : List Byte)
  /-- SOFT_RESET (R134). -/
  | softReset (p : PortId) (tag : Byte) (payload : List Byte)
  /-- SET_START_PROGRAM (R117). -/
  | setStartProgram (p : PortId) (tag : Byte) (payload : List Byte)
  /-- SET_RACE_SETTINGS (R87). -/
  | setRaceSettings (p : PortId) (tag : Byte) (payload : List Byte)
  /-- SET_POINT_COUNT (R82). -/
  | setPointCount (p : PortId) (tag : Byte) (payload : List Byte)
  /-- SET_COURSE_POINT (R83). -/
  | setCoursePoint (p : PortId) (tag : Byte) (payload : List Byte)
  /-- SET_SECTION (R84). -/
  | setSection (p : PortId) (tag : Byte) (payload : List Byte)
  /-- SET_GATE (R21). -/
  | setGate (p : PortId) (tag : Byte) (payload : List Byte)
  /-- REMOVE_GATE (R29). -/
  | removeGate (p : PortId) (tag : Byte) (payload : List Byte)
  /-- GATE_CHECK (R33). -/
  | gateCheck (p : PortId) (tag : Byte) (payload : List Byte)
  /-- SET_COUNTERS (R35). -/
  | setCounters (p : PortId) (tag : Byte) (payload : List Byte)
  /-- CLEAR_COUNTERS (R35). -/
  | clearCounters (p : PortId) (tag : Byte) (payload : List Byte)
  /-- CLEAR_STUCK (R39). -/
  | clearStuck (p : PortId) (tag : Byte) (payload : List Byte)
  /-- REGISTER_CAR (R66). -/
  | registerCar (p : PortId) (tag : Byte) (payload : List Byte)
  /-- REMOVE_CAR (R67). -/
  | removeCar (p : PortId) (tag : Byte) (payload : List Byte)
  /-- SET_LEARNING (R68). -/
  | setLearning (p : PortId) (tag : Byte) (payload : List Byte)
  /-- SET_AGE_LIMIT (R69). -/
  | setAgeLimit (p : PortId) (tag : Byte) (payload : List Byte)
  /-- ENTER (R71). -/
  | enter (p : PortId) (tag : Byte) (payload : List Byte)
  /-- WITHDRAW (R72). -/
  | withdraw (p : PortId) (tag : Byte) (payload : List Byte)
  /-- RETIRE (R75). -/
  | retire (p : PortId) (tag : Byte) (payload : List Byte)
  /-- ADJUST_LAPS (R109). -/
  | adjustLaps (p : PortId) (tag : Byte) (payload : List Byte)
  /-- SET_SCHEDULE (R138). -/
  | setSchedule (p : PortId) (tag : Byte) (payload : List Byte)
  /-- ASSIGN (R54). -/
  | assign (p : PortId) (tag : Byte) (payload : List Byte)
  /-- DISCARD (R55). -/
  | discard (p : PortId) (tag : Byte) (payload : List Byte)
  /-- CALL (R149). -/
  | call (p : PortId) (tag : Byte) (payload : List Byte)
  /-- CONFIRM (R145). -/
  | confirm (p : PortId) (tag : Byte) (payload : List Byte)
  /-- WAIVE (R146, R158). -/
  | waive (p : PortId) (tag : Byte) (payload : List Byte)
  /-- HOLD (R196). -/
  | hold (p : PortId) (tag : Byte) (payload : List Byte)
  /-- QUERY_GATE (R36). -/
  | queryGate (p : PortId) (tag : Byte) (payload : List Byte)
  /-- QUERY_UNATTRIBUTED (R57). -/
  | queryUnattributed (p : PortId) (tag : Byte) (payload : List Byte)
  /-- QUERY_CAR (R76). -/
  | queryCar (p : PortId) (tag : Byte) (payload : List Byte)
  /-- QUERY_ROSTER (R77). -/
  | queryRoster (p : PortId) (tag : Byte) (payload : List Byte)
  /-- QUERY_ENTRIES (R77). -/
  | queryEntries (p : PortId) (tag : Byte) (payload : List Byte)
  /-- QUERY_COURSE (R88). -/
  | queryCourse (p : PortId) (tag : Byte) (payload : List Byte)
  /-- QUERY_RACE (R136). -/
  | queryRace (p : PortId) (tag : Byte) (payload : List Byte)
  /-- QUERY_PENALTY (R161). -/
  | queryPenalty (p : PortId) (tag : Byte) (payload : List Byte)
  /-- QUERY_PENALTIES (R162). -/
  | queryPenalties (p : PortId) (tag : Byte) (payload : List Byte)
  /-- QUERY_SCHEDULE (R162). -/
  | querySchedule (p : PortId) (tag : Byte) (payload : List Byte)
  /-- QUERY_PERMITS (R174). -/
  | queryPermits (p : PortId) (tag : Byte) (payload : List Byte)
  /-- QUERY_STANDINGS (R183). -/
  | queryStandings (p : PortId) (tag : Byte) (payload : List Byte)
  /-- QUERY_PORT (R197). -/
  | queryPort (p : PortId) (tag : Byte) (payload : List Byte)
  /-- TICK (R1, R16, R10): one tick passes; the operand is the sample of the 12 strobe inputs taken at it. -/
  | tick (strobes : BitVec 12)
  /-- BAD_SUM_REPLY (R19): a frame that ends the open attempt as failed. -/
  | badSumReply
  /-- COMMAND_SENT (R19): the last byte of the open command has left the line. -/
  | commandSent
  deriving DecidableEq, Repr

end Sys2Proof
end

