-- ==== Sys2Proof/Decode.lean ====
section
/-! DEFINITION. From bits to commands. The opcode table gives no row any bits, so no word spells a command; the part
itself tells console requests apart by the KIND byte of their frame (spec/11, Request codes and payloads). -/

namespace Sys2Proof

/-- The command a table word spells: the table gives bits to no row, so none. -/
def decodeTableWord (_nbits _w : Nat) : Option Instr := none

/-- The request of a KIND with its port, TAG and payload; `none` for a KIND that is no request (R186 step 2). -/
def decodeRequest (kind : Byte) (p : PortId) (tag : Byte) (payload : List Byte) : Option Instr :=
  match kind.toNat with
  | 0x1 => some (.openPractice p tag payload)
  | 0x2 => some (.endPractice p tag payload)
  | 0x3 => some (.formGrid p tag payload)
  | 0x4 => some (.standDown p tag payload)
  | 0x5 => some (.start p tag payload)
  | 0x6 => some (.abortStart p tag payload)
  | 0x7 => some (.caution p tag payload)
  | 0x8 => some (.lift p tag payload)
  | 0x9 => some (.suspend p tag payload)
  | 0xa => some (.resume p tag payload)
  | 0xb => some (.close p tag payload)
  | 0xc => some (.release p tag payload)
  | 0xd => some (.softReset p tag payload)
  | 0xe => some (.setStartProgram p tag payload)
  | 0xf => some (.setRaceSettings p tag payload)
  | 0x10 => some (.setPointCount p tag payload)
  | 0x11 => some (.setCoursePoint p tag payload)
  | 0x12 => some (.setSection p tag payload)
  | 0x13 => some (.setGate p tag payload)
  | 0x14 => some (.removeGate p tag payload)
  | 0x15 => some (.gateCheck p tag payload)
  | 0x16 => some (.setCounters p tag payload)
  | 0x17 => some (.clearCounters p tag payload)
  | 0x18 => some (.clearStuck p tag payload)
  | 0x19 => some (.registerCar p tag payload)
  | 0x1a => some (.removeCar p tag payload)
  | 0x1b => some (.setLearning p tag payload)
  | 0x1c => some (.setAgeLimit p tag payload)
  | 0x1d => some (.enter p tag payload)
  | 0x1e => some (.withdraw p tag payload)
  | 0x1f => some (.retire p tag payload)
  | 0x20 => some (.adjustLaps p tag payload)
  | 0x21 => some (.setSchedule p tag payload)
  | 0x22 => some (.assign p tag payload)
  | 0x23 => some (.discard p tag payload)
  | 0x24 => some (.call p tag payload)
  | 0x25 => some (.confirm p tag payload)
  | 0x26 => some (.waive p tag payload)
  | 0x27 => some (.hold p tag payload)
  | 0x28 => some (.queryGate p tag payload)
  | 0x29 => some (.queryUnattributed p tag payload)
  | 0x2a => some (.queryCar p tag payload)
  | 0x2b => some (.queryRoster p tag payload)
  | 0x2c => some (.queryEntries p tag payload)
  | 0x2d => some (.queryCourse p tag payload)
  | 0x2e => some (.queryRace p tag payload)
  | 0x2f => some (.queryPenalty p tag payload)
  | 0x30 => some (.queryPenalties p tag payload)
  | 0x31 => some (.querySchedule p tag payload)
  | 0x32 => some (.queryPermits p tag payload)
  | 0x33 => some (.queryStandings p tag payload)
  | 0x34 => some (.queryPort p tag payload)
  | _ => none

/-- The KIND, port, TAG and payload of a request; `none` for every other command. -/
def Instr.request : Instr → Option (Byte × PortId × Byte × List Byte)
  | .hardReset _ _ => none
  | .strobeEdge _ => none
  | .guardReferenceLapse _ => none
  | .pairingLimit _ => none
  | .lastCaptureLapse _ => none
  | .attemptTimeout => none
  | .gateBusUnmatchedFrame _ _ _ => none
  | .probe _ _ => none
  | .setLanes _ _ => none
  | .setThreshold _ _ => none
  | .enable _ _ => none
  | .fetch _ _ => none
  | .status _ _ => none
  | .patternOn _ _ => none
  | .checkFetch _ _ => none
  | .patternOff _ _ => none
  | .settleDeadline _ => none
  | .statusPollTimer _ => none
  | .faultProbeTimer _ => none
  | .quietDeadline _ _ => none
  | .strayMemoryLapse => none
  | .unattributedExpiry _ => none
  | .agingCheck => none
  | .silenceDeadline _ => none
  | .stepDeadline => none
  | .practiceLimit => none
  | .raceLimitDeadline => none
  | .finishWindow => none
  | .elapsedLimit => none
  | .reviewDeadlineExpiry _ => none
  | .stopGoEnd _ => none
  | .pbPoll _ _ => none
  | .powerLinkFrameDrop _ => none
  | .powerLinkGap _ _ => none
  | .permits => none
  | .linkSilenceDeadline => none
  | .consoleFrameDrop _ _ => none
  | .consoleGap _ _ _ => none
  | .busy _ _ _ _ => none
  | .unknownKind _ _ _ _ => none
  | .transmitEnd _ => none
  | .holdDeadline _ => none
  | .openPractice p tag payload => some (0x1, p, tag, payload)
  | .endPractice p tag payload => some (0x2, p, tag, payload)
  | .formGrid p tag payload => some (0x3, p, tag, payload)
  | .standDown p tag payload => some (0x4, p, tag, payload)
  | .start p tag payload => some (0x5, p, tag, payload)
  | .abortStart p tag payload => some (0x6, p, tag, payload)
  | .caution p tag payload => some (0x7, p, tag, payload)
  | .lift p tag payload => some (0x8, p, tag, payload)
  | .suspend p tag payload => some (0x9, p, tag, payload)
  | .resume p tag payload => some (0xa, p, tag, payload)
  | .close p tag payload => some (0xb, p, tag, payload)
  | .release p tag payload => some (0xc, p, tag, payload)
  | .softReset p tag payload => some (0xd, p, tag, payload)
  | .setStartProgram p tag payload => some (0xe, p, tag, payload)
  | .setRaceSettings p tag payload => some (0xf, p, tag, payload)
  | .setPointCount p tag payload => some (0x10, p, tag, payload)
  | .setCoursePoint p tag payload => some (0x11, p, tag, payload)
  | .setSection p tag payload => some (0x12, p, tag, payload)
  | .setGate p tag payload => some (0x13, p, tag, payload)
  | .removeGate p tag payload => some (0x14, p, tag, payload)
  | .gateCheck p tag payload => some (0x15, p, tag, payload)
  | .setCounters p tag payload => some (0x16, p, tag, payload)
  | .clearCounters p tag payload => some (0x17, p, tag, payload)
  | .clearStuck p tag payload => some (0x18, p, tag, payload)
  | .registerCar p tag payload => some (0x19, p, tag, payload)
  | .removeCar p tag payload => some (0x1a, p, tag, payload)
  | .setLearning p tag payload => some (0x1b, p, tag, payload)
  | .setAgeLimit p tag payload => some (0x1c, p, tag, payload)
  | .enter p tag payload => some (0x1d, p, tag, payload)
  | .withdraw p tag payload => some (0x1e, p, tag, payload)
  | .retire p tag payload => some (0x1f, p, tag, payload)
  | .adjustLaps p tag payload => some (0x20, p, tag, payload)
  | .setSchedule p tag payload => some (0x21, p, tag, payload)
  | .assign p tag payload => some (0x22, p, tag, payload)
  | .discard p tag payload => some (0x23, p, tag, payload)
  | .call p tag payload => some (0x24, p, tag, payload)
  | .confirm p tag payload => some (0x25, p, tag, payload)
  | .waive p tag payload => some (0x26, p, tag, payload)
  | .hold p tag payload => some (0x27, p, tag, payload)
  | .queryGate p tag payload => some (0x28, p, tag, payload)
  | .queryUnattributed p tag payload => some (0x29, p, tag, payload)
  | .queryCar p tag payload => some (0x2a, p, tag, payload)
  | .queryRoster p tag payload => some (0x2b, p, tag, payload)
  | .queryEntries p tag payload => some (0x2c, p, tag, payload)
  | .queryCourse p tag payload => some (0x2d, p, tag, payload)
  | .queryRace p tag payload => some (0x2e, p, tag, payload)
  | .queryPenalty p tag payload => some (0x2f, p, tag, payload)
  | .queryPenalties p tag payload => some (0x30, p, tag, payload)
  | .querySchedule p tag payload => some (0x31, p, tag, payload)
  | .queryPermits p tag payload => some (0x32, p, tag, payload)
  | .queryStandings p tag payload => some (0x33, p, tag, payload)
  | .queryPort p tag payload => some (0x34, p, tag, payload)
  | .tick _ => none
  | .badSumReply => none
  | .commandSent => none

end Sys2Proof
end

