-- ==== Sys2Proof/Machine/State.lean ====
section
/-! DEFINITION. The state of the LT6 as plain data: block by block, every piece of state spec/ gives the part, and
the queue of waiting commands. INVENTORY.md lists the fields with their rules and reset values. Counts, sizes and
deadlines on the race clock are numbers; what the manual wraps (clocks, epochs, counters) is a bit vector. -/

namespace Sys2Proof.Machine

open Sys2Proof

/-! ## Time base and captures (R1 to R16) -/

/-- The nine race states (R110), in the order of R200's codes. -/
inductive RaceState where
  | idle | practice | grid | countdown | green | caution | suspended | chequered | closed
  deriving DecidableEq, Repr

/-- The phase tag a capture takes (R8). -/
structure PhaseTag where
  race : RaceState
  held : Bool
  cautionEpoch : BitVec 8
  suspensionEpoch : BitVec 8
  deriving DecidableEq, Repr

/-- A capture record (R12): the time of its edge, its neutral stamp and phase tag, and its merged count, 0 to 15. -/
structure Capture where
  time : Time
  neutral : Time
  tag : PhaseTag
  merged : Nat
  deriving DecidableEq, Repr

/-- A deadline on the session clock: the session time at which it was started and its length in ticks (R2). -/
structure Timer where
  start : Time
  len : Nat
  deriving DecidableEq, Repr

/-- What the Time Base holds for one gate (R11 to R14): guard interval in units of 0.1 ms, guard reference, capture
stack oldest first, last capture. -/
structure GateCapture where
  guardUnits : Nat
  guardRef : Option Time
  stack : List Capture
  last : Option Capture
  deriving DecidableEq, Repr

/-- The Time Base and Capture Unit. `strobePrev` is the previous sample of each strobe input and `edges` the rising
edges recognised at the present tick and not yet taken (R10). -/
structure TimeBase where
  session : Time
  green : Time
  nClosed : Time
  s0 : Time
  latched : Option Nat
  cautionEpoch : BitVec 8
  suspensionEpoch : BitVec 8
  rng : BitVec 16
  gates : Vector GateCapture 12
  strobePrev : BitVec 12
  edges : BitVec 12
  deriving DecidableEq, Repr

/-! ## Gate bus (R17 to R36) -/

/-- Head states (R20). -/
inductive HeadState where
  | off | probing | setup | settling | ready | pattern | fault
  deriving DecidableEq, Repr

/-- Reasons of a GATE notice (R20); absent is `none` of an Option. -/
inductive GateReason where
  | request | probed | recovered | headReset | enabled | checkEnd | settled | check | noReply | capacity | rejected
  | removed
  deriving DecidableEq, Repr

/-- Objects a head counter can select (R35). -/
inductive CounterObject where
  | strobes | merged | fetched | orphans | blanks | anon | strays | suppressed | overflows | failures
  deriving DecidableEq, Repr

/-- One of a head's three counters (R35). -/
structure HeadCounter where
  select : CounterObject
  count : BitVec 32
  deriving DecidableEq, Repr

/-- The per-lane sensor state of a head (R38): stuck counter 0 to 16, stuck flag, quiet deadline. -/
structure LaneSensor where
  count : Nat
  stuck : Bool
  quiet : Option Timer
  deriving DecidableEq, Repr

/-- A head record (R19 to R36). `reason` is the reason of the last GATE notice for the head. -/
structure Head where
  state : HeadState
  reason : Option GateReason
  mask : BitVec 7
  threshold : Nat
  sensors : Option Nat
  failures : Nat
  rejects : Nat
  fetchPending : Bool
  overflow : Nat
  counters : Vector HeadCounter 3
  lanes : Vector LaneSensor 7
  settle : Option Timer
  poll : Option Timer
  faultProbe : Option Timer
  deriving DecidableEq, Repr

/-- Transactions of the gate bus (R18, R31). `fetch` is of the fetch class; `checkFetch` is the FETCH of a gate
check, a service entry. -/
inductive BusKind where
  | probe | setLanes | setThreshold | enable | fetch | status | patternOn | checkFetch | patternOff
  deriving DecidableEq, Repr

/-- An entry of the service queue (R31). -/
structure ServiceEntry where
  gate : Gate
  kind : BusKind
  deriving DecidableEq, Repr

/-- The transaction on the line (R17, R19, R30): its command frame, whether this is the second attempt, the wait
for the reply (present once the last byte of the command has been sent), and whether R30 discards its outcome. -/
structure Transaction where
  gate : Gate
  kind : BusKind
  command : List Byte
  second : Bool
  wait : Option Timer
  discarded : Bool
  deriving DecidableEq, Repr

/-- A running gate check (R33): the TAG of the request whose reply is deferred, and the three counts. -/
structure GateCheck where
  gate : Gate
  tag : Byte
  mismatches : Nat
  failed : Nat
  fetches : Nat
  deriving DecidableEq, Repr

/-- The Gate Bus Controller. -/
structure GateBus where
  heads : Vector Head 12
  queue : List ServiceEntry
  pointer : Gate
  runCount : Nat
  line : Option Transaction
  check : Option GateCheck
  deriving DecidableEq, Repr

/-! ## Passage Former (R37 to R58) -/

/-- Origin of an unattributed record (R51). -/
inductive UnattrOrigin where
  | anon | blank
  deriving DecidableEq, Repr

/-- A record of the unattributed list (R51). Its expiry is the timer of 3,000,000 ticks from its capture. -/
structure Unattr where
  id : Nat
  gate : Gate
  point : Nat
  lane : Option Lane
  capture : Capture
  raceMs : Nat
  origin : UnattrOrigin
  expiry : Timer
  deriving DecidableEq, Repr

/-- The stray memory (R44): the code of the last STRAY notice and the lapse deadline. -/
structure StrayMemory where
  code : Code
  lapse : Timer
  deriving DecidableEq, Repr

/-- The passage tallies (R57). -/
structure PassageTallies where
  orphaned : BitVec 32
  stuckSuppressed : BitVec 32
  sharedAnon : BitVec 32
  badLane : BitVec 32
  noPoint : BitVec 32
  quiet : BitVec 32
  unentered : BitVec 32
  rearmSuppressed : BitVec 32
  predicted : BitVec 32
  joined : BitVec 32
  dropped : BitVec 32
  expired : BitVec 32
  assigned : BitVec 32
  discarded : BitVec 32
  resumed : BitVec 32
  deriving DecidableEq, Repr

/-- The Passage Former. -/
structure Former where
  list : List Unattr
  nextId : Nat
  stray : Option StrayMemory
  tallies : PassageTallies
  deriving DecidableEq, Repr

/-! ## Roster (R59 to R77) -/

/-- Origin of a car record (R63). -/
inductive CarOrigin where
  | registered | learned
  deriving DecidableEq, Repr

/-- Car states (R73), in the order of R200's codes. -/
inductive CarState where
  | idle | grid | running | offTrack | retired | finished
  deriving DecidableEq, Repr

/-- Lap states (R65). -/
inductive LapState where
  | closed | openTimed | openUntimed
  deriving DecidableEq, Repr

/-- A lap start (R65, R97): the capture that opened the lap, less its merged count. -/
structure LapStart where
  time : Time
  neutral : Time
  tag : PhaseTag
  deriving DecidableEq, Repr

/-- The last passage of a car (R65, R104). -/
structure LastPassage where
  point : Nat
  lane : Option Lane
  capture : Capture
  raceMs : Nat
  deriving DecidableEq, Repr

/-- The race part of a car record (R65). -/
structure RacePart where
  state : CarState
  lapState : LapState
  lapStart : Option LapStart
  counted : Nat
  adjust : Int
  deductions : Nat
  last : Option LastPassage
  lastLapMs : Option Nat
  bestLapMs : Option Nat
  refTicks : Option Nat
  timePenalty : Nat
  silence : Option Nat
  crossedEarly : Bool
  jumpCalled : Bool
  lastCountedMs : Nat
  finishPos : Option Nat
  missed : Nat
  serving : Bool
  deriving DecidableEq, Repr

/-- The initial values of a race part (R65). -/
def RacePart.initial : RacePart where
  state := .idle
  lapState := .closed
  lapStart := none
  counted := 0
  adjust := 0
  deductions := 0
  last := none
  lastLapMs := none
  bestLapMs := none
  refTicks := none
  timePenalty := 0
  silence := none
  crossedEarly := false
  jumpCalled := false
  lastCountedMs := 0
  finishPos := none
  missed := 0
  serving := false

/-- A car record: its static part (R63) and its race part (R65). -/
structure Car where
  code : Code
  number : Option Nat
  drive : Nat
  origin : CarOrigin
  lastSeen : Time
  entered : Bool
  gridSlot : Option Nat
  race : RacePart
  deriving DecidableEq, Repr

/-- The Roster. The entry list (R71) is the entered records in grid-slot order: it is read from the slots, not held
twice. -/
structure Roster where
  slots : Vector (Option Car) 72
  learning : Bool
  ageLimit : Nat
  aging : Timer
  tallyLearned : BitVec 32
  tallyLearnRefused : BitVec 32
  tallyAged : BitVec 32
  deriving DecidableEq, Repr

/-! ## Course map and race settings (R78 to R109) -/

/-- A course point (R78). -/
structure CoursePoint where
  gate : Option Gate
  serving : Bool
  pit : Bool
  deriving DecidableEq, Repr

/-- Lane rule of a section (R79). -/
inductive LaneRule where
  | opened | closed
  deriving DecidableEq, Repr

/-- Pit rule of a section (R79). -/
inductive PitRule where
  | none | entry | within | exit
  deriving DecidableEq, Repr

/-- The five fields of a section, times in ms (R79). -/
structure Sector where
  laneRule : LaneRule
  pitRule : PitRule
  minimum : Nat
  nominal : Nat
  pitMinimum : Nat
  deriving DecidableEq, Repr

/-- A section's initial values (R79). -/
def Sector.initial : Sector := ⟨.opened, .none, 0, 1000, 0⟩

/-- Race mode (R87). -/
inductive RaceMode where
  | laps | time
  deriving DecidableEq, Repr

/-- Grid position (R87). -/
inductive GridPosition where
  | behindLine | atLine
  deriving DecidableEq, Repr

/-- De-slot action (R87). -/
inductive DeslotAction where
  | notice | caution
  deriving DecidableEq, Repr

/-- Jump action (R87). -/
inductive JumpAction where
  | call | restart
  deriving DecidableEq, Repr

/-- The race settings in the units of SET_RACE_SETTINGS (R87): the limit in laps or s, the finish window in s, the
silence limit and the re-arm time in units of 0.1 s. -/
structure Settings where
  mode : RaceMode
  limit : Nat
  finishWindow : Nat
  gridPosition : GridPosition
  missTolerance : Nat
  silenceLimit : Nat
  rearm : Nat
  deslot : DeslotAction
  jump : JumpAction
  cautionCap : Nat
  driveCap : Nat
  pitCap : Nat
  coolCap : Nat
  practiceCap : Nat
  laneCount : Nat
  deriving DecidableEq, Repr

/-- The defaults of R87. -/
def Settings.default : Settings where
  mode := .laps
  limit := 20
  finishWindow := 30
  gridPosition := .behindLine
  missTolerance := 1
  silenceLimit := 50
  rearm := 10
  deslot := .notice
  jump := .call
  cautionCap := 20
  driveCap := 30
  pitCap := 15
  coolCap := 15
  practiceCap := 63
  laneCount := 4

/-- The Lap Accounting tallies (R88). -/
structure LapTallies where
  late : BitVec 32
  moved : BitVec 32
  early : BitVec 32
  relocated : BitVec 32
  implausible : BitVec 32
  lost : BitVec 32
  deriving DecidableEq, Repr

/-- Course Map and Lap Accounting. `points` and `sectors` (the sections) have the point count P as their length; the shadow map is
present exactly while its pending flag is set (R85). -/
structure Course where
  points : List CoursePoint
  sectors : List Sector
  shadow : Option (List Sector)
  settings : Settings
  tallies : LapTallies
  deriving DecidableEq, Repr

/-! ## Race State Controller (R110 to R136) -/

/-- The saved return state of a suspension (R125, R126). -/
inductive SavedState where
  | green | caution | chequered (held : Bool)
  deriving DecidableEq, Repr

/-- Reasons of a STATE notice (R110). -/
inductive StateReason where
  | none | request | countdownEnd | limit | deslot | link | power | base | jump | finished | window | softReset
  deriving DecidableEq, Repr

/-- A step of the start program (R117): pattern bits 0 to 4 START1 to START5 and bit 5 GREEN; times in units of
10 ms. -/
structure ProgramStep where
  pattern : BitVec 6
  duration : Nat
  extension : Nat
  jumpWatch : Bool
  deriving DecidableEq, Repr

/-- The start program and its two ranges (R117). -/
structure StartProgram where
  steps : Vector ProgramStep 16
  g0 : Fin 16
  g1 : Fin 16
  c0 : Fin 16
  c1 : Fin 16
  deriving DecidableEq, Repr

/-- The default start program (R117). -/
def StartProgram.default : StartProgram where
  steps := #v[⟨0x00, 50, 0, false⟩, ⟨0x01, 100, 0, true⟩, ⟨0x03, 100, 0, true⟩, ⟨0x07, 100, 0, true⟩,
    ⟨0x0F, 100, 0, true⟩, ⟨0x1F, 100, 0, true⟩, ⟨0x1F, 0, 200, true⟩, ⟨0x00, 100, 0, false⟩,
    ⟨0x00, 100, 0, false⟩, ⟨0x00, 100, 0, false⟩, ⟨0x00, 100, 0, false⟩, ⟨0x00, 100, 0, false⟩,
    ⟨0x00, 100, 0, false⟩, ⟨0x00, 100, 0, false⟩, ⟨0x00, 100, 0, false⟩, ⟨0x00, 100, 0, false⟩]
  g0 := 0
  g1 := 0
  c0 := 1
  c1 := 6

/-- The step timer (R118): the step playing and its deadline. -/
structure StepTimer where
  index : Fin 16
  deadline : Timer
  deriving DecidableEq, Repr

/-- The Race State Controller. Lamp bits 0 to 4 are START1 to START5 and bit 5 GREEN, as in a step pattern (R200); bit 6
CAUTION and bit 7 STOP are the model's places for them (DESIGN CHOICE, notes/assumptions/26.md). -/
structure RaceCtl where
  state : RaceState
  held : Bool
  saved : Option SavedState
  reason : StateReason
  program : StartProgram
  step : Option StepTimer
  jumpWatch : Bool
  watchStart : Option Time
  raceLimit : Option Nat
  finishWindow : Option Nat
  practiceLimit : Option Nat
  lamps : BitVec 8
  deriving DecidableEq, Repr

/-! ## Penalties (R137 to R162) -/

/-- Penalty kinds (R137); the first six are automatic. -/
inductive PenaltyKind where
  | jump | cut | lane | cautionLane | pitSpeed | rejoin | manual
  deriving DecidableEq, Repr

/-- Outcomes (R137), in the order of R200's codes. -/
inductive PenaltyOutcome where
  | time | stopGo | driveThrough | lockout | lapDeduct | warning
  deriving DecidableEq, Repr

/-- Review modes (R138). -/
inductive ReviewMode where
  | immediate | autoConfirm | autoWaive
  deriving DecidableEq, Repr

/-- States of a penalty record (R139). -/
inductive PenaltyState where
  | review | confirmed | serving | served | waived | converted
  deriving DecidableEq, Repr

/-- Who decided a record (R139). -/
inductive Decider where
  | auto | portA | portB
  deriving DecidableEq, Repr

/-- A row of the schedule (R138): window in units of 0.1 s, conversion in s. -/
structure ScheduleRow where
  outcome : PenaltyOutcome
  amount : Nat
  mode : ReviewMode
  window : Nat
  conversion : Nat
  deriving DecidableEq, Repr

/-- The default schedule (R138), by kind JUMP, CUT, LANE, CAUTION_LANE, PIT_SPEED, REJOIN. -/
def defaultSchedule : Vector ScheduleRow 6 :=
  #v[⟨.stopGo, 5, .autoConfirm, 50, 15⟩, ⟨.driveThrough, 0, .autoConfirm, 50, 10⟩,
    ⟨.lockout, 2, .autoConfirm, 30, 5⟩, ⟨.stopGo, 3, .autoConfirm, 50, 10⟩,
    ⟨.time, 5, .immediate, 0, 5⟩, ⟨.lockout, 1, .autoWaive, 100, 5⟩]

/-- A penalty record (R139). `place` is the course point and lane of the passage, absent for a MANUAL record; the
lane inside it is absent when unknown. -/
structure Penalty where
  id : Nat
  kind : PenaltyKind
  code : Code
  place : Option (Nat × Option Lane)
  raisedMs : Nat
  state : PenaltyState
  outcome : PenaltyOutcome
  amount : Nat
  mode : Option ReviewMode
  conversion : Nat
  review : Option Nat
  decided : Option Decider
  lapsAsHead : Option Nat
  stopGoEnd : Option Nat
  lockoutLeft : Option Nat
  deriving DecidableEq, Repr

/-- The Penalty Unit. -/
structure PenaltyUnit where
  schedule : Vector ScheduleRow 6
  list : List Penalty
  nextId : Nat
  tallyRaised : BitVec 32
  tallyDropped : BitVec 32
  tallyEvicted : BitVec 32
  deriving DecidableEq, Repr

/-! ## Permit table and power link (R163 to R174) -/

/-- The flag of a permit row (R163). -/
inductive PermitFlag where
  | none | called | serving | finished
  deriving DecidableEq, Repr

/-- A permit row (R163); `laneChange` is true for ALLOWED. -/
structure PermitRow where
  cap : Nat
  laneChange : Bool
  flag : PermitFlag
  deriving DecidableEq, Repr

/-- The base status (R168). -/
inductive BaseStatus where
  | normal | overload | fault
  deriving DecidableEq, Repr

/-- A serial receiver: the bytes of the frame in progress, SYNC first (empty while hunting), and the session time
of the latest byte that arrived (R168, R185). -/
structure Receiver where
  bytes : List Byte
  lastAt : Time
  deriving DecidableEq, Repr

/-- A receiver hunting with no frame in progress. -/
def Receiver.hunting : Receiver := ⟨[], 0⟩

/-- The Permit Table and Power Link. `sending` is the PERMITS frame being transmitted, `slot` the TAG waiting in the
reply slot (R170). -/
structure Power where
  rows : Vector PermitRow 32
  epoch : BitVec 16
  linkUp : Bool
  status : Option BaseStatus
  silence : Option Timer
  lastPoll : Option Time
  rx : Receiver
  sending : Option (List Byte)
  slot : Option Byte
  trackEnable : Bool
  tallyPolls : BitVec 32
  tallyBadFrames : BitVec 32
  tallyUnanswered : BitVec 32
  tallyLinkLosses : BitVec 32
  deriving DecidableEq, Repr

/-! ## Standings (R175 to R183) -/

/-- An entry of the standings list with its stored key (R176). -/
structure StandEntry where
  code : Code
  laps : Nat
  time : Nat
  grid : Nat
  deriving DecidableEq, Repr

/-- The Standings Unit. -/
structure Standings where
  list : List StandEntry
  formed : Bool
  fixed : Bool
  amendments : Nat
  deriving DecidableEq, Repr

/-! ## Console ports and journal (R184 to R197) -/

/-- What a console transmitter is sending (R189). -/
inductive TxKind where
  | busy | reply | gap | notice
  deriving DecidableEq, Repr

/-- The frame a console transmitter is sending. -/
structure TxFrame where
  kind : TxKind
  bytes : List Byte
  deriving DecidableEq, Repr

/-- The eight counters of a port (R197). -/
structure PortCounters where
  framesTaken : BitVec 32
  droppedLen : BitVec 32
  droppedGap : BitVec 32
  droppedSum : BitVec 32
  busy : BitVec 32
  noticesSent : BitVec 32
  gapsSent : BitVec 32
  noticesLost : BitVec 32
  deriving DecidableEq, Repr

/-- A console port (R184). `fast` is the baud rate its strap selected at the last hard reset: 460,800 when true,
115,200 otherwise. `reply` is the reply waiting in the reply place. -/
structure Port where
  fast : Bool
  rx : Receiver
  engaged : Bool
  busyList : List Byte
  reply : Option (List Byte)
  tx : Option TxFrame
  cursor : BitVec 16
  lost : Nat
  hold : Option Timer
  counters : PortCounters
  deriving DecidableEq, Repr

/-- Origin of an attributed passage (R58). -/
inductive PassageOrigin where
  | coded | shared | predicted | assigned
  deriving DecidableEq, Repr

/-- Reasons an unattributed record leaves the list (R51). -/
inductive GoneReason where
  | dropped | expired | assigned | discarded | resumed
  deriving DecidableEq, Repr

/-- Stray reasons (R44). -/
inductive StrayReason where
  | reserved | unknown | unentered | learnRefused
  deriving DecidableEq, Repr

/-- Reasons of a STUCK notice (R38, R39). -/
inductive StuckReason where
  | count | coded | request | bringUp
  deriving DecidableEq, Repr

/-- Causes of a PENALTY notice (R159). -/
inductive PenaltyCause where
  | raised | reviewEnd | decision | serveBegin | serveEnd | deadline | finish | retire | close | reversal
  deriving DecidableEq, Repr

/-- Causes of a LEADER notice (R179). -/
inductive LeaderCause where
  | lap | penalty | adjust | retire | close
  deriving DecidableEq, Repr

/-- The notices (R193, R200), each with the fields of its payload in the order of R200's table. Car numbers are
fixed when the notice is appended. `flags` is the lap flags byte. -/
inductive Notice where
  | state (left entered : RaceState) (held : Bool) (saved : Option SavedState) (reason : StateReason)
  | lap (code : Code) (number : Option Nat) (counted effective : Nat) (lapMs : Nat) (flags : Byte) (point : Nat)
      (lane : Option Lane) (origin : PassageOrigin) (merged : Nat) (raceMs : Nat)
  | penalty (cause : PenaltyCause) (number : Option Nat) (record : Penalty)
  | deslot (code : Code) (number : Option Nat) (point : Option Nat) (lane : Option Lane)
  | rejoin (code : Code) (number : Option Nat) (point : Nat) (lane : Option Lane) (origin : PassageOrigin)
      (flags : Byte) (merged : Nat) (raceMs : Nat)
  | unattributed (record : Unattr) (msLeft : Nat)
  | unattributedGone (id : Nat) (origin : UnattrOrigin) (reason : GoneReason) (code : Code)
  | leader (code : Code) (number : Option Nat) (laps time : Nat) (prevCode : Code) (prevNumber : Option Nat)
      (cause : LeaderCause)
  | finish (code : Code) (number : Option Nat) (position : Nat) (counted effective time lastMs : Nat)
  | gate (g : Gate) (state : HeadState) (reason : GateReason)
  | stuck (g : Gate) (lane : Lane) (condition : Bool) (reason : StuckReason)
  | stray (code : Code) (g : Gate) (lane : Option Lane) (reason : StrayReason)
  | lostLap (code : Code) (number : Option Nat) (point missed : Nat) (flags : Byte) (raceMs : Nat)
  | jumpAbort (code : Code) (number : Option Nat) (point : Nat) (lane : Option Lane)
  | listFull (kind : PenaltyKind) (code : Code) (number : Option Nat) (point : Nat) (lane : Option Lane)
  deriving DecidableEq, Repr

/-- A notice record of the journal (R193). -/
structure NoticeRec where
  seq : BitVec 16
  raceMs : Nat
  notice : Notice
  deriving DecidableEq, Repr

/-- The journal (R193): the newest 256 notice records, oldest first. The record with sequence number n is the one
ring slot n mod 256 holds. -/
structure Journal where
  ring : List NoticeRec
  next : BitVec 16
  deriving DecidableEq, Repr

/-! ## The machine -/

/-- The state of the LT6 and the queue of waiting commands, first in, first out. -/
structure State where
  time : TimeBase
  bus : GateBus
  former : Former
  roster : Roster
  course : Course
  race : RaceCtl
  pen : PenaltyUnit
  power : Power
  stand : Standings
  portA : Port
  portB : Port
  journal : Journal
  pending : List Instr
  deriving DecidableEq, Repr

/-- Why a step can stop. One reason only; every other command completes in every state. -/
inductive Fault where
  /-- Raised by a valid frame taken on an engaged port whose BUSY list already holds 50 TAGs. R188 shows from the
  line rates that this cannot happen ("a frame answered BUSY always finds room in it"); a queue of commands has no
  line rate, so a sender can ask for it. Safe: the model stops where the part cannot be. -/
  | busyListOverrun
  deriving DecidableEq, Repr

/-- Why a command can be refused. -/
inductive Refusal where
  /-- Raised by an arm of exec whose command has no meaning yet; no arm does. Safe: nothing is claimed of such a
  command. -/
  | notModelled (mnemonic : String)
  deriving DecidableEq, Repr

/-! ## Reset values -/

/-- A gate's capture state after a hard reset (R11, R15). -/
def GateCapture.reset : GateCapture := ⟨20, none, [], none⟩

/-- The Time Base after a hard reset (R1, R3, R7, R10, R15, R16). -/
def TimeBase.reset : TimeBase where
  session := 0
  green := 0
  nClosed := 0
  s0 := 0
  latched := none
  cautionEpoch := 0
  suspensionEpoch := 0
  rng := 0x5D3B
  gates := Vector.replicate 12 GateCapture.reset
  strobePrev := 0xFFF
  edges := 0

/-- A head record after a hard reset (R20, R35). -/
def Head.reset : Head where
  state := .off
  reason := none
  mask := 0
  threshold := 0
  sensors := none
  failures := 0
  rejects := 0
  fetchPending := false
  overflow := 0
  counters := #v[⟨.strobes, 0⟩, ⟨.fetched, 0⟩, ⟨.blanks, 0⟩]
  lanes := Vector.replicate 7 ⟨0, false, none⟩
  settle := none
  poll := none
  faultProbe := none

/-- The Gate Bus Controller after a hard reset (R20, R31, R32). The pointer stands at address 12. -/
def GateBus.reset : GateBus where
  heads := Vector.replicate 12 Head.reset
  queue := []
  pointer := 11
  runCount := 0
  line := none
  check := none

/-- The Passage Former after a hard reset (R44, R51, R56, R57). -/
def Former.reset : Former := ⟨[], 1, none, ⟨0, 0, 0, 0, 0, 0, 0, 0, 0, 0, 0, 0, 0, 0, 0⟩⟩

/-- The Roster after a hard reset (R59, R68 to R70, R77). -/
def Roster.reset : Roster where
  slots := Vector.replicate 72 none
  learning := false
  ageLimit := 20
  aging := ⟨0, 6000000⟩
  tallyLearned := 0
  tallyLearnRefused := 0
  tallyAged := 0

/-- Course Map and Lap Accounting after a hard reset (R78, R85, R87, R88). -/
def Course.reset : Course := ⟨[], [], none, Settings.default, ⟨0, 0, 0, 0, 0, 0⟩⟩

/-- The Race State Controller after a hard reset (R110, R117, R135). -/
def RaceCtl.reset : RaceCtl where
  state := .idle
  held := false
  saved := none
  reason := .none
  program := StartProgram.default
  step := none
  jumpWatch := false
  watchStart := none
  raceLimit := none
  finishWindow := none
  practiceLimit := none
  lamps := 0

/-- The Penalty Unit after a hard reset (R138, R160). -/
def PenaltyUnit.reset : PenaltyUnit := ⟨defaultSchedule, [], 1, 0, 0, 0⟩

/-- The Permit Table and Power Link after a hard reset (R163, R168 to R174). -/
def Power.reset : Power where
  rows := Vector.replicate 32 ⟨0, false, .none⟩
  epoch := 0
  linkUp := false
  status := none
  silence := none
  lastPoll := none
  rx := Receiver.hunting
  sending := none
  slot := none
  trackEnable := false
  tallyPolls := 0
  tallyBadFrames := 0
  tallyUnanswered := 0
  tallyLinkLosses := 0

/-- The Standings Unit after a hard reset (R176, R181, R182). -/
def Standings.reset : Standings := ⟨[], false, false, 0⟩

/-- A console port after a hard reset that sampled this strap level (R184, R197). -/
def Port.reset (strap : Bool) : Port where
  fast := strap
  rx := Receiver.hunting
  engaged := false
  busyList := []
  reply := none
  tx := none
  cursor := 0
  lost := 0
  hold := none
  counters := ⟨0, 0, 0, 0, 0, 0, 0, 0⟩

/-- The journal after a hard reset (R193): no notice has been appended, the next sequence number is 0. -/
def Journal.reset : Journal := ⟨[], 0⟩

/-- The machine right after a hard reset with both baud straps low (notes/assumptions/3.md), no command waiting. -/
def State.reset : State where
  time := TimeBase.reset
  bus := GateBus.reset
  former := Former.reset
  roster := Roster.reset
  course := Course.reset
  race := RaceCtl.reset
  pen := PenaltyUnit.reset
  power := Power.reset
  stand := Standings.reset
  portA := Port.reset false
  portB := Port.reset false
  journal := Journal.reset
  pending := []

end Sys2Proof.Machine
end

