-- ==== Sys2Proof/Machine/Clock.lean ====
section
/-! DEFINITION. Clocks, deadlines and stamps (R1 to R9, R16): session-clock timers, the neutral total, the race clock,
the phase tag, the comparison of captures, and the random source. -/

namespace Sys2Proof.Machine

open Sys2Proof

/-! ## Session-clock deadlines (R2) -/

/-- Session time elapsed since the timer was started, mod 2³² (R2). -/
def Timer.elapsed (t : Timer) (now : Time) : Nat := (now - t.start).toNat

/-- The deadline has been reached (R2). An expiry delivered after its tick is still taken
(notes/assumptions/4.md). -/
def Timer.due (t : Timer) (now : Time) : Bool := t.len ≤ t.elapsed now

/-- Ticks left on the deadline. -/
def Timer.left (t : Timer) (now : Time) : Nat := t.len - t.elapsed now

/-- A present deadline that has been reached. -/
def timerDue (t : Option Timer) (now : Time) : Bool :=
  match t with
  | some t => t.due now
  | none => false

/-- A timer of this length started now. -/
def State.timer (s : State) (len : Nat) : Timer := ⟨s.time.session, len⟩

/-! ## Lengths in ticks -/

/-- The pairing limit and the lifetime of the last capture, 20 ms (R13, R14). -/
def pairingTicks : Nat := 2000
/-- A gate bus attempt, 0.5 ms (R19). -/
def attemptTicks : Nat := 50
/-- The settle deadline, 50 ms (R24). -/
def settleTicks : Nat := 5000
/-- The status-poll period, 250 ms (R25). -/
def pollTicks : Nat := 25000
/-- The fault-probe period, 1 s (R28). -/
def faultProbeTicks : Nat := 100000
/-- The quiet deadline of a lane, 2.0 s (R38). -/
def quietTicks : Nat := 200000
/-- The lapse of the stray memory, 10 s (R44). -/
def strayTicks : Nat := 1000000
/-- The expiry of an unattributed record, 30 s (R51). -/
def unattrTicks : Nat := 3000000
/-- The aging period, one minute (R70). -/
def agingTicks : Nat := 6000000
/-- The link-silence deadline, 100 ms (R169). -/
def linkSilenceTicks : Nat := 10000
/-- The inter-byte gap limit, 2 ms (R168, R185). -/
def gapTicks : Nat := 200
/-- 36,000 s, the practice limit and the race limit of the LAPS mode (R113, R128). -/
def longLimitTicks : Nat := 3600000000
/-- The elapsed limit, 42,000 s (R131). -/
def elapsedLimitTicks : Nat := 4200000000
/-- Ticks in a second (R9). -/
def secondTicks : Nat := 100000
/-- Ticks in a unit of 0.1 s (R9). -/
def tenthTicks : Nat := 10000
/-- Ticks in a unit of 10 ms (R9). -/
def centiTicks : Nat := 1000
/-- Ticks in a unit of 0.1 ms (R9). -/
def guardTicks : Nat := 10

/-! ## Race states -/

/-- The states in which a race is running (R110). -/
def RaceState.racing : RaceState → Bool
  | .green | .caution | .suspended | .chequered => true
  | _ => false

/-- The states in which the race clock runs (R5). -/
def RaceState.clockRuns : RaceState → Bool
  | .practice | .green | .caution | .chequered => true
  | _ => false

/-! ## The race clock -/

/-- The neutral total at the present session time (R4). -/
def State.neutral (s : State) : Time :=
  if s.race.state = .suspended then s.time.nClosed + (s.time.session - s.time.s0) else s.time.nClosed

/-- The race clock (R5). -/
def State.raceClock (s : State) : Nat :=
  match s.race.state with
  | .idle | .grid | .countdown => 0
  | .closed => s.time.latched.getD 0
  | _ => (s.time.session - s.time.green - s.neutral).toNat

/-- The race ms (R9). -/
def State.raceMs (s : State) : Nat := s.raceClock / 100

/-- The elapsed session time since the green origin (R5). -/
def State.elapsed (s : State) : Nat := (s.time.session - s.time.green).toNat

/-- A race-clock deadline that has been reached while the race clock runs (R6). -/
def State.raceDue (s : State) (d : Option Nat) : Bool :=
  match d with
  | some d => s.race.state.clockRuns && decide (d ≤ s.raceClock)
  | none => false

/-- Ms left on a race-clock deadline. -/
def State.raceMsLeft (s : State) (d : Nat) : Nat := (d - s.raceClock) / 100

/-- The silence limit of the race settings in ticks (R87). -/
def State.silenceTicks (s : State) : Nat := s.course.settings.silenceLimit * tenthTicks

/-! ## Captures -/

/-- The phase tag of the present tick (R8). -/
def State.phaseTag (s : State) : PhaseTag :=
  ⟨s.race.state, s.race.held, s.time.cautionEpoch, s.time.suspensionEpoch⟩

/-- A capture recognised at the present tick (R8, R12). -/
def State.newCapture (s : State) : Capture := ⟨s.time.session, s.neutral, s.phaseTag, 0⟩

/-- A session time as an age from the green origin (R8). -/
def State.sinceGreen (s : State) (t : Time) : Nat := (t - s.time.green).toNat

/-- Capture a is later than capture b (R8). -/
def State.laterThan (s : State) (a b : Time) : Bool := s.sinceGreen b < s.sinceGreen a

/-- The capture was made before the green origin (R9). -/
def State.beforeGreen (s : State) (t : Time) : Bool := s.elapsed < s.sinceGreen t

/-- The race ms of a capture (R9). -/
def State.captureMs (s : State) (c : Capture) : Nat :=
  match c.tag.race with
  | .idle | .grid | .countdown => 0
  | _ => if s.beforeGreen c.time then 0 else (s.sinceGreen c.time - c.neutral.toNat) / 100

/-- Race ticks from one stamp to another: ((C - C₀) mod 2³²) - (N - N₀) (R94, R98). -/
def raceTicksBetween (t0 n0 t1 n1 : Time) : Nat := (t1 - t0).toNat - (n1 - n0).toNat

/-- The tag shows a caution: CAUTION, or CHEQUERED with caution held (R95, R99). -/
def PhaseTag.underCaution (t : PhaseTag) : Bool :=
  match t.race with
  | .caution => true
  | .chequered => t.held
  | _ => false

/-! ## The random source (R16) -/

/-- One step of the 16-bit linear-feedback shift register, taps 16, 14, 13 and 11. -/
def lfsrStep (v : BitVec 16) : BitVec 16 :=
  (v <<< 1) ||| (BitVec.ofBool (v[15] ^^ v[13] ^^ v[12] ^^ v[10])).setWidth 16

end Sys2Proof.Machine
end

