-- ==== Sys2Proof/Machine/Wire.lean ====
section
/-! DEFINITION. Bytes on the links (R198, R200 and the tables of spec/11): field encodings, enumeration codes, frames,
notice payloads, the penalty record and the gate bus command frames. -/

namespace Sys2Proof.Machine

open Sys2Proof

/-! ## Fields (R198, R200, Field encodings) -/

/-- A one-byte count. -/
def u8 (n : Nat) : List Byte := [BitVec.ofNat 8 n]

/-- A two-byte count, least-significant byte first (R198). -/
def u16 (n : Nat) : List Byte := [BitVec.ofNat 8 n, BitVec.ofNat 8 (n / 256)]

/-- A three-byte count, least-significant byte first. -/
def u24 (n : Nat) : List Byte := u16 n ++ u8 (n / 65536)

/-- A four-byte count, least-significant byte first. -/
def u32 (n : Nat) : List Byte := u16 n ++ u16 (n / 65536)

/-- A two-byte signed field in two's complement (R198). -/
def i16 (n : Int) : List Byte := u16 (BitVec.ofInt 16 n).toNat

/-- A yes/no byte. -/
def yesNo (b : Bool) : List Byte := if b then [1] else [0]

/-- An optional one-byte field: 0xFF when absent. -/
def opt8 (n : Option Nat) : List Byte := u8 (n.getD 0xFF)

/-- An optional four-byte time: 0xFFFFFFFF when absent. -/
def opt32 (n : Option Nat) : List Byte := u32 (n.getD 0xFFFFFFFF)

/-- A code field. -/
def codeBytes (c : Code) : List Byte := u16 c.toNat

/-- A car number field: 0 when absent. -/
def numberBytes (n : Option Nat) : List Byte := u16 (n.getD 0)

/-- A lane: 1 to 6, P = 7; 0 unknown. -/
def laneByte (l : Option Lane) : List Byte :=
  match l with
  | some l => u8 (l.val + 1)
  | none => [0]

/-- A gate address byte. -/
def gateByte (g : Gate) : Byte := BitVec.ofNat 8 (g.val + 1)

/-! ## Enumeration codes (R200): from 0 in the order listed -/

def RaceState.toCode : RaceState → Nat
  | .idle => 0 | .practice => 1 | .grid => 2 | .countdown => 3 | .green => 4 | .caution => 5 | .suspended => 6
  | .chequered => 7 | .closed => 8

def StateReason.toCode : StateReason → Nat
  | .none => 0 | .request => 1 | .countdownEnd => 2 | .limit => 3 | .deslot => 4 | .link => 5 | .power => 6
  | .base => 7 | .jump => 8 | .finished => 9 | .window => 10 | .softReset => 11

def PenaltyKind.toCode : PenaltyKind → Nat
  | .jump => 0 | .cut => 1 | .lane => 2 | .cautionLane => 3 | .pitSpeed => 4 | .rejoin => 5 | .manual => 6

def PenaltyOutcome.toCode : PenaltyOutcome → Nat
  | .time => 0 | .stopGo => 1 | .driveThrough => 2 | .lockout => 3 | .lapDeduct => 4 | .warning => 5

def ReviewMode.toCode : ReviewMode → Nat
  | .immediate => 0 | .autoConfirm => 1 | .autoWaive => 2

def PenaltyState.toCode : PenaltyState → Nat
  | .review => 0 | .confirmed => 1 | .serving => 2 | .served => 3 | .waived => 4 | .converted => 5

/-- Decided by: absent 0, AUTO 1, A 2, B 3. -/
def deciderCode : Option Decider → Nat
  | none => 0 | some .auto => 1 | some .portA => 2 | some .portB => 3

def PenaltyCause.toCode : PenaltyCause → Nat
  | .raised => 0 | .reviewEnd => 1 | .decision => 2 | .serveBegin => 3 | .serveEnd => 4 | .deadline => 5
  | .finish => 6 | .retire => 7 | .close => 8 | .reversal => 9

def PassageOrigin.toCode : PassageOrigin → Nat
  | .coded => 0 | .shared => 1 | .predicted => 2 | .assigned => 3

def UnattrOrigin.toCode : UnattrOrigin → Nat
  | .anon => 0 | .blank => 1

def GoneReason.toCode : GoneReason → Nat
  | .dropped => 0 | .expired => 1 | .assigned => 2 | .discarded => 3 | .resumed => 4

def StrayReason.toCode : StrayReason → Nat
  | .reserved => 0 | .unknown => 1 | .unentered => 2 | .learnRefused => 3

def StuckReason.toCode : StuckReason → Nat
  | .count => 0 | .coded => 1 | .request => 2 | .bringUp => 3

def LeaderCause.toCode : LeaderCause → Nat
  | .lap => 0 | .penalty => 1 | .adjust => 2 | .retire => 3 | .close => 4

def HeadState.toCode : HeadState → Nat
  | .off => 0 | .probing => 1 | .setup => 2 | .settling => 3 | .ready => 4 | .pattern => 5 | .fault => 6

/-- GATE reason: none 0, then the reasons in order. -/
def gateReasonCode : Option GateReason → Nat
  | none => 0 | some .request => 1 | some .probed => 2 | some .recovered => 3 | some .headReset => 4
  | some .enabled => 5 | some .checkEnd => 6 | some .settled => 7 | some .check => 8 | some .noReply => 9
  | some .capacity => 10 | some .rejected => 11 | some .removed => 12

def CounterObject.toCode : CounterObject → Nat
  | .strobes => 0 | .merged => 1 | .fetched => 2 | .orphans => 3 | .blanks => 4 | .anon => 5 | .strays => 6
  | .suppressed => 7 | .overflows => 8 | .failures => 9

def CarState.toCode : CarState → Nat
  | .idle => 0 | .grid => 1 | .running => 2 | .offTrack => 3 | .retired => 4 | .finished => 5

def LapState.toCode : LapState → Nat
  | .closed => 0 | .openTimed => 1 | .openUntimed => 2

def CarOrigin.toCode : CarOrigin → Nat
  | .registered => 0 | .learned => 1

def LaneRule.toCode : LaneRule → Nat
  | .opened => 0 | .closed => 1

def PitRule.toCode : PitRule → Nat
  | .none => 0 | .entry => 1 | .within => 2 | .exit => 3

def RaceMode.toCode : RaceMode → Nat
  | .laps => 0 | .time => 1

def GridPosition.toCode : GridPosition → Nat
  | .behindLine => 0 | .atLine => 1

def DeslotAction.toCode : DeslotAction → Nat
  | .notice => 0 | .caution => 1

def JumpAction.toCode : JumpAction → Nat
  | .call => 0 | .restart => 1

def BaseStatus.toCode : BaseStatus → Nat
  | .normal => 0 | .overload => 1 | .fault => 2

def PermitFlag.toCode : PermitFlag → Nat
  | .none => 0 | .called => 1 | .serving => 2 | .finished => 3

/-! ## Frames -/

/-- SYNC (spec/11, The LT frame). -/
def syncByte : Byte := 0xC3

/-- LEN + KIND + TAG + the payload bytes, mod 256. -/
def byteSum (bytes : List Byte) : Byte := bytes.foldl (· + ·) 0

/-- An LT frame with its SUM (R198). -/
def ltFrame (kind tag : Byte) (payload : List Byte) : List Byte :=
  let body := BitVec.ofNat 8 payload.length :: kind :: tag :: payload
  syncByte :: body ++ [- byteSum body]

def kindReply : Byte := 0x70
def kindBusy : Byte := 0x71
def kindNotice : Byte := 0x72
def kindGap : Byte := 0x73
def kindPoll : Byte := 0x60
def kindPermits : Byte := 0x61

/-- A BUSY frame carries only the TAG (R188). -/
def busyFrame (tag : Byte) : List Byte := ltFrame kindBusy tag []

/-- A GAP frame carries TAG 0, the lost count and the sequence number at the cursor (R195, R200). -/
def gapFrame (lost : Nat) (cursor : BitVec 16) : List Byte :=
  ltFrame kindGap 0 (u16 lost ++ u16 cursor.toNat)

/-! ## The penalty record -/

/-- Point and lane of a penalty record: both 0xFF when absent; an unknown lane is 0. -/
def placeBytes : Option (Nat × Option Lane) → List Byte
  | some (q, l) => u8 q ++ laneByte l
  | none => [0xFF, 0xFF]

/-- The 28-byte penalty record, with its two deadline fields given by the caller: the race ms at which they fall in a
notice, the ms remaining in the penalty queries (spec/11, The penalty record). -/
def Penalty.encode (r : Penalty) (number : Option Nat) (reviewMs endMs : Option Nat) : List Byte :=
  u8 r.id ++ u8 r.kind.toCode ++ codeBytes r.code ++ numberBytes number ++ placeBytes r.place ++ u32 r.raisedMs
    ++ u8 r.state.toCode ++ u8 r.outcome.toCode ++ u8 r.amount ++ opt8 (r.mode.map ReviewMode.toCode)
    ++ u8 r.conversion ++ opt32 reviewMs ++ u8 (deciderCode r.decided) ++ opt8 r.lapsAsHead ++ opt32 endMs
    ++ opt8 r.lockoutLeft

/-- The record with its deadlines as the race ms at which they fall. -/
def Penalty.encodeAt (r : Penalty) (number : Option Nat) : List Byte :=
  r.encode number (r.review.map (· / 100)) (r.stopGoEnd.map (· / 100))

/-! ## Notices -/

/-- A race state byte with bit 7 for caution held. -/
def raceStateByte (st : RaceState) (held : Bool) : List Byte :=
  u8 (st.toCode + if held then 0x80 else 0)

/-- The saved return state byte: bit 7 caution held, 0xFF absent. -/
def savedByte : Option SavedState → List Byte
  | none => [0xFF]
  | some .green => raceStateByte .green false
  | some .caution => raceStateByte .caution false
  | some (.chequered h) => raceStateByte .chequered h

/-- A phase tag: race state with bit 7 for caution held, caution epoch, suspension epoch. -/
def PhaseTag.encode (t : PhaseTag) : List Byte :=
  raceStateByte t.race t.held ++ [t.cautionEpoch, t.suspensionEpoch]

/-- An unattributed record as the UNATTRIBUTED notice carries it. -/
def Unattr.encode (r : Unattr) (msLeft : Nat) : List Byte :=
  u8 r.id ++ [gateByte r.gate] ++ u8 r.point ++ laneByte r.lane ++ u8 r.origin.toCode ++ u8 r.capture.merged
    ++ r.capture.tag.encode ++ u32 r.raceMs ++ u16 msLeft

/-- Notice kind codes (R200). -/
def Notice.kindCode : Notice → Nat
  | .state .. => 0
  | .lap .. => 1
  | .penalty .. => 2
  | .deslot .. => 3
  | .rejoin .. => 4
  | .unattributed .. => 5
  | .unattributedGone .. => 6
  | .leader .. => 7
  | .finish .. => 8
  | .gate .. => 9
  | .stuck .. => 10
  | .stray .. => 11
  | .lostLap .. => 12
  | .jumpAbort .. => 13
  | .listFull .. => 14

/-- Notice payloads (spec/11, Notice payloads). -/
def Notice.payload : Notice → List Byte
  | .state left entered held saved reason =>
    u8 left.toCode ++ raceStateByte entered held ++ savedByte saved ++ u8 reason.toCode
  | .lap code number counted effective lapMs flags point lane origin merged raceMs =>
    codeBytes code ++ numberBytes number ++ u16 counted ++ u16 effective ++ u24 lapMs ++ [flags] ++ u8 point
      ++ laneByte lane ++ u8 origin.toCode ++ u8 merged ++ u32 raceMs
  | .penalty cause number record => u8 cause.toCode ++ record.encodeAt number
  | .deslot code number point lane => codeBytes code ++ numberBytes number ++ opt8 point ++ laneByte lane
  | .rejoin code number point lane origin flags merged raceMs =>
    codeBytes code ++ numberBytes number ++ u8 point ++ laneByte lane ++ u8 origin.toCode ++ [flags] ++ u8 merged
      ++ u32 raceMs
  | .unattributed record msLeft => record.encode msLeft
  | .unattributedGone id origin reason code =>
    u8 id ++ u8 origin.toCode ++ u8 reason.toCode ++ codeBytes code
  | .leader code number laps time prevCode prevNumber cause =>
    codeBytes code ++ numberBytes number ++ u16 laps ++ u32 time ++ codeBytes prevCode ++ numberBytes prevNumber
      ++ u8 cause.toCode
  | .finish code number position counted effective time lastMs =>
    codeBytes code ++ numberBytes number ++ u8 position ++ u16 counted ++ u16 effective ++ u32 time ++ u32 lastMs
  | .gate g st reason => [gateByte g] ++ u8 st.toCode ++ u8 (gateReasonCode (some reason))
  | .stuck g lane condition reason =>
    [gateByte g] ++ laneByte (some lane) ++ yesNo condition ++ u8 reason.toCode
  | .stray code g lane reason => codeBytes code ++ [gateByte g] ++ laneByte lane ++ u8 reason.toCode
  | .lostLap code number point missed flags raceMs =>
    codeBytes code ++ numberBytes number ++ u8 point ++ u8 missed ++ [flags] ++ u32 raceMs
  | .jumpAbort code number point lane => codeBytes code ++ numberBytes number ++ u8 point ++ laneByte lane
  | .listFull kind code number point lane =>
    u8 kind.toCode ++ codeBytes code ++ numberBytes number ++ u8 point ++ laneByte lane

/-- A NOTICE frame: TAG 0; sequence number, race ms at append, notice kind, notice payload (R200). -/
def noticeFrame (r : NoticeRec) : List Byte :=
  ltFrame kindNotice 0 (u16 r.seq.toNat ++ u32 r.raceMs ++ u8 r.notice.kindCode ++ r.notice.payload)

/-! ## Groups carried in a request's layout (R200) -/

/-- The race settings as in SET_RACE_SETTINGS. -/
def Settings.encode (t : Settings) : List Byte :=
  u8 t.mode.toCode ++ u16 t.limit ++ u8 t.finishWindow ++ u8 t.gridPosition.toCode ++ u8 t.missTolerance
    ++ u8 t.silenceLimit ++ u8 t.rearm ++ u8 t.deslot.toCode ++ u8 t.jump.toCode ++ u8 t.cautionCap ++ u8 t.driveCap
    ++ u8 t.pitCap ++ u8 t.coolCap ++ u8 t.practiceCap ++ u8 t.laneCount

/-- A start program step as in SET_START_PROGRAM: bit 7 of the pattern byte is JUMP_WATCH. -/
def ProgramStep.encode (t : ProgramStep) : List Byte :=
  u8 (t.pattern.toNat + if t.jumpWatch then 0x80 else 0) ++ u16 t.duration ++ u8 t.extension

/-- The start program as in SET_START_PROGRAM. -/
def StartProgram.encode (t : StartProgram) : List Byte :=
  t.steps.toList.flatMap ProgramStep.encode ++ u8 t.g0.val ++ u8 t.g1.val ++ u8 t.c0.val ++ u8 t.c1.val

/-- A schedule row as in SET_SCHEDULE, its kind first. -/
def ScheduleRow.encode (kind : Nat) (t : ScheduleRow) : List Byte :=
  u8 kind ++ u8 t.outcome.toCode ++ u8 t.amount ++ u8 t.mode.toCode ++ u8 t.window ++ u8 t.conversion

/-- A permit row as in PERMITS: cap in bits 0 to 5, bit 7 for lane change ALLOWED; then the flag. -/
def PermitRow.encode (t : PermitRow) : List Byte :=
  u8 (t.cap + if t.laneChange then 0x80 else 0) ++ u8 t.flag.toCode

/-- A PERMITS frame (R170): the poll's TAG, the epoch and the 32 rows in drive-slot order. -/
def permitsFrame (tag : Byte) (epoch : BitVec 16) (rows : Vector PermitRow 32) : List Byte :=
  ltFrame kindPermits tag (u16 epoch.toNat ++ rows.toList.flatMap PermitRow.encode)

/-! ## Gate bus frames -/

/-- The KIND of a gate bus transaction; a check FETCH is a FETCH on the line. -/
def BusKind.wireKind : BusKind → Byte
  | .probe => 0x01
  | .setLanes => 0x02
  | .setThreshold => 0x03
  | .enable => 0x04
  | .fetch => 0x05
  | .checkFetch => 0x05
  | .status => 0x06
  | .patternOn => 0x07
  | .patternOff => 0x08

/-- The command frame of a transaction: its TAG is the head address (R17, R198). -/
def commandFrame (g : Gate) (k : BusKind) (h : Head) : List Byte :=
  ltFrame k.wireKind (gateByte g)
    (match k with
    | .setLanes => u8 h.mask.toNat
    | .setThreshold => u8 h.threshold
    | _ => [])

end Sys2Proof.Machine
end

