-- ==== Sys2Proof/Machine/Ops.lean ====
section
/-! DEFINITION. Operations every block shares: counters, cars in the roster, head counters, the journal, the console
transmitters, the receivers, and the service of one request from frame to reply. -/

namespace Sys2Proof.Machine

open Sys2Proof

/-! ## Small operations -/

/-- A map over a vector that evaluates by recursion on its list. -/
def mapVec {α β : Type} {n : Nat} (f : α → β) (xs : Vector α n) : Vector β n :=
  ⟨⟨xs.toList.map f⟩, by simp⟩

/-- Insertion into a list ordered by `before`: the new element stands ahead of the first element it is before. -/
def insertBy {α : Type} (before : α → α → Bool) (x : α) : List α → List α
  | [] => [x]
  | y :: ys => if before x y then x :: y :: ys else y :: insertBy before x ys

/-- A list put in order by repeated insertion. -/
def sortBy {α : Type} (before : α → α → Bool) : List α → List α
  | [] => []
  | x :: xs => insertBy before x (sortBy before xs)

/-- The first identifier at or after `start` that `used` does not hold, counting 1 to 255 and from 255 back to 1
(R51, R140); `start` itself when every one is held. -/
def freeId (used : List Nat) (start : Nat) : Nat :=
  ((List.range 255).map (fun k => (start - 1 + k) % 255 + 1)).find? (fun i => !used.contains i) |>.getD start

/-- The identifier after this one: 1 after 255. -/
def nextIdAfter (i : Nat) : Nat := if i = 255 then 1 else i + 1

/-! ## Cars in the roster (R59, R60) -/

/-- The home slot of a code (R59). -/
def homeSlot (c : Code) : Slot :=
  ⟨((c ^^^ (c >>> 6) ^^^ (c >>> 12)).toNat) % 64, by omega⟩

/-- The overflow slots in order (R59). -/
def overflowSlots : List Slot := [64, 65, 66, 67, 68, 69, 70, 71]

/-- The code a slot holds. -/
def Roster.codeAt (r : Roster) (i : Slot) : Option Code := r.slots[i].map Car.code

/-- Lookup by code: the home slot, then the overflow slots in order (R60). -/
def Roster.find (r : Roster) (c : Code) : Option Slot :=
  if r.codeAt (homeSlot c) = some c then some (homeSlot c)
  else overflowSlots.find? (fun i => r.codeAt i == some c)

/-- The record of a code. -/
def State.car (s : State) (c : Code) : Option Car := (s.roster.find c).bind (fun i => s.roster.slots[i])

/-- Change the record of a code; nothing when the roster does not hold it. -/
def State.modCar (s : State) (c : Code) (f : Car → Car) : State :=
  match s.roster.find c with
  | some i => { s with roster.slots := s.roster.slots.set i (s.roster.slots[i].map f) }
  | none => s

/-- Change the race part of a car. -/
def State.modRace (s : State) (c : Code) (f : RacePart → RacePart) : State :=
  s.modCar c (fun x => { x with race := f x.race })

/-- Change every record of the roster (R74). -/
def State.mapCars (s : State) (f : Car → Car) : State :=
  { s with roster.slots := mapVec (fun o => o.map f) s.roster.slots }

/-- Every record, in slot order. -/
def State.cars (s : State) : List Car := s.roster.slots.toList.filterMap id

/-- The entry list: the entered cars in order of grid slot (R71). -/
def State.entries (s : State) : List Car :=
  sortBy (fun a b => decide (a.gridSlot.getD 0 < b.gridSlot.getD 0)) (s.cars.filter Car.entered)

/-- The car number of a code, as the roster holds it. -/
def State.numberOf (s : State) (c : Code) : Option Nat := (s.car c).bind Car.number

/-- The last-seen time becomes this capture's session time (R64). -/
def State.setLastSeen (s : State) (c : Code) (t : Time) : State := s.modCar c (fun x => { x with lastSeen := t })

/-- A valid car code, 0x0001 to 0xEFFF. -/
def validCode (c : Code) : Bool := decide (0x0001 ≤ c.toNat ∧ c.toNat ≤ 0xEFFF)

/-! ## Head counters (R35) -/

/-- Change a head record. -/
def State.modHead (s : State) (g : Gate) (f : Head → Head) : State :=
  { s with bus.heads := s.bus.heads.set g (f s.bus.heads[g]) }

/-- A counter gains `n` when it selects the object. -/
def HeadCounter.gain (o : CounterObject) (n : Nat) (c : HeadCounter) : HeadCounter :=
  if c.select = o then { c with count := c.count + BitVec.ofNat 32 n } else c

/-- Each counter of the head that selects the object gains `n` (R35). -/
def State.countBy (s : State) (g : Gate) (o : CounterObject) (n : Nat) : State :=
  s.modHead g (fun h => { h with counters := mapVec (HeadCounter.gain o n) h.counters })

/-- Each counter of the head that selects the object gains 1 (R35). -/
def State.countObj (s : State) (g : Gate) (o : CounterObject) : State := s.countBy g o 1

/-- Change a gate's capture state. -/
def State.modGate (s : State) (g : Gate) (f : GateCapture → GateCapture) : State :=
  { s with time.gates := s.time.gates.set g (f s.time.gates[g]) }

/-! ## The journal (R193, R194) -/

/-- The number of notices a port has yet to be sent (R194). -/
def Port.unsent (p : Port) (j : Journal) : Nat := (j.next - p.cursor).toNat

/-- A port with 256 unsent notices passes over its oldest one at an append (R194). -/
def Port.overrun (p : Port) (j : Journal) : Port :=
  if p.unsent j = 256 then
    { p with
      cursor := p.cursor + 1
      lost := min 65535 (p.lost + 1)
      counters := { p.counters with noticesLost := p.counters.noticesLost + 1 } }
  else p

/-- The newest 256 records of a list whose newest stand last. -/
def newest256 (l : List NoticeRec) : List NoticeRec := l.drop (l.length - 256)

/-- Append a notice with this race ms (R193): overrun of each port, then the record, then the sequence number. -/
def State.appendAt (s : State) (ms : Nat) (n : Notice) : State :=
  { s with
    portA := s.portA.overrun s.journal
    portB := s.portB.overrun s.journal
    journal := ⟨newest256 (s.journal.ring ++ [⟨s.journal.next, ms, n⟩]), s.journal.next + 1⟩ }

/-- Append a notice (R193). Its race ms is the race clock's at the append. -/
def State.append (s : State) (n : Notice) : State := s.appendAt s.raceMs n

/-! ## Console transmitters (R189, R195) -/

/-- The frame an idle transmitter chooses, and the port after its transmission has begun (R189): BUSY, reply, GAP,
notice. A TAG leaves the BUSY list when its frame begins (DESIGN CHOICE, notes/assumptions/35.md). A busy transmitter is
left as it stands. -/
def Port.choose (p : Port) (j : Journal) : Port :=
  match p.tx with
  | some _ => p
  | none =>
    match p.busyList, p.reply with
    | t :: rest, _ => { p with busyList := rest, tx := some ⟨.busy, busyFrame t⟩ }
    | [], some r => { p with reply := none, tx := some ⟨.reply, r⟩ }
    | [], none =>
      if p.hold.isSome || p.cursor == j.next then p
      else if 0 < p.lost then
        { p with
          lost := 0
          tx := some ⟨.gap, gapFrame p.lost p.cursor⟩
          counters := { p.counters with gapsSent := p.counters.gapsSent + 1 } }
      else
        match j.ring.find? (fun r => r.seq == p.cursor) with
        | some r =>
          { p with
            cursor := p.cursor + 1
            tx := some ⟨.notice, noticeFrame r⟩
            counters := { p.counters with noticesSent := p.counters.noticesSent + 1 } }
        | none => p

/-- Both transmitters choose, if idle. Each event ends so when it may have made a frame ready. -/
def State.transmit (s : State) : State :=
  { s with portA := s.portA.choose s.journal, portB := s.portB.choose s.journal }

/-- A console port by name. -/
def State.port (s : State) : PortId → Port
  | .A => s.portA
  | .B => s.portB

/-- Change a console port. -/
def State.modPort (s : State) (p : PortId) (f : Port → Port) : State :=
  match p with
  | .A => { s with portA := f s.portA }
  | .B => { s with portB := f s.portB }

/-! ## Receivers (R168, R185) -/

/-- Hunting: bytes before the first SYNC are discarded. -/
def hunt (bytes : List Byte) : List Byte := bytes.dropWhile (fun b => b != syncByte)

/-- The receiver with these bytes of a frame in progress; a hunting receiver holds no time. -/
def Receiver.holding (bytes : List Byte) (lastAt : Time) : Receiver :=
  if bytes.isEmpty then Receiver.hunting else ⟨bytes, lastAt⟩

/-- The bytes of the frame in progress once more bytes have arrived. -/
def Receiver.extended (r : Receiver) (bytes : List Byte) : List Byte :=
  if r.bytes.isEmpty then hunt bytes else r.bytes ++ bytes

/-- What the bytes of a frame in progress amount to: not complete yet; LEN greater than 240; complete with a wrong SUM;
complete and good, with the bytes after it. -/
inductive FrameCheck where
  | partly
  | badLen
  | badSum
  | valid (kind tag : Byte) (payload : List Byte) (rest : List Byte)
  deriving DecidableEq, Repr

/-- The receiver's checks in the order in which the bytes come (R168, R185). -/
def checkFrame (bytes : List Byte) : FrameCheck :=
  match bytes with
  | _ :: len :: tail =>
    if 240 < len.toNat then .badLen
    else
      match tail with
      | kind :: tag :: body =>
        if body.length < len.toNat + 1 then .partly
        else if byteSum (len :: kind :: tag :: body.take (len.toNat + 1)) = 0 then
          .valid kind tag (body.take len.toNat) (body.drop (len.toNat + 1))
        else .badSum
      | _ => .partly
  | _ => .partly

/-- After a drop the receiver hunts again from the byte after the SYNC that began the dropped frame; the gap limit
runs from the latest byte that arrived on the line (R185). -/
def rescan (bytes : List Byte) (lastAt : Time) : Receiver := Receiver.holding (hunt (bytes.drop 1)) lastAt

/-- The frame may be the one the receiver completes next: the bytes it holds begin the frame, or the frame begins
the bytes it holds. -/
def Receiver.accepts (r : Receiver) (frame : List Byte) : Bool :=
  r.bytes.isPrefixOf frame || frame.isPrefixOf r.bytes

/-- The frame with this payload can be the next one to complete: LEN is at most 240, and the bytes fit. -/
def Receiver.completes (r : Receiver) (payload frame : List Byte) : Bool :=
  decide (payload.length ≤ 240) && r.accepts frame

/-- The receiver after that frame has been taken. -/
def Receiver.taken (r : Receiver) (frame : List Byte) : Receiver :=
  Receiver.holding (hunt (r.bytes.drop frame.length)) r.lastAt

/-! ## Requests and replies (R186 to R190) -/

/-- The reply statuses (R190), in the order of R200's codes. -/
inductive ReplyStatus where
  | ok | already | refusedState | refusedPort | badArgument | notFound | alreadyDecided | tooLate | stale | full
  | conflict | busy | notReady | unknownKind
  deriving DecidableEq, Repr

/-- Codes of the reply statuses. -/
def ReplyStatus.toCode : ReplyStatus → Nat
  | .ok => 0 | .already => 1 | .refusedState => 2 | .refusedPort => 3 | .badArgument => 4 | .notFound => 5
  | .alreadyDecided => 6 | .tooLate => 7 | .stale => 8 | .full => 9 | .conflict => 10 | .busy => 11
  | .notReady => 12 | .unknownKind => 13

/-- An answer to a request: its status and the data its owning rule names. -/
structure Answer where
  status : ReplyStatus
  data : List Byte
  deriving DecidableEq, Repr

/-- A REPLY frame (R187, R200): the request's TAG; the request's KIND, the status, the data. -/
def replyFrame (kind tag : Byte) (a : Answer) : List Byte :=
  ltFrame kindReply tag (kind :: BitVec.ofNat 8 a.status.toCode :: a.data)

/-- What a request does: the state after it, and its answer unless the reply is deferred (R187). -/
abbrev Served := State × Option Answer

/-- Answered OK with these data. -/
def ok (data : List Byte) (s : State) : Served := (s, some ⟨.ok, data⟩)

/-- Answered with a status and data; the state as the caller gives it. -/
def answer (st : ReplyStatus) (data : List Byte) (s : State) : Served := (s, some ⟨st, data⟩)

/-- Refused: nothing but the answer. -/
def refuse (st : ReplyStatus) (s : State) : Served := (s, some ⟨st, []⟩)

/-- The frame is taken by the receiver and counted (R185). -/
def State.frameTaken (s : State) (p : PortId) (frame : List Byte) : State :=
  s.modPort p (fun q =>
    { q with
      rx := q.rx.taken frame
      counters := { q.counters with framesTaken := q.counters.framesTaken + 1 } })

/-- A frame taken while the port is engaged is answered BUSY (R186 step 1, R188). -/
def State.answerBusy (s : State) (p : PortId) (tag : Byte) : Host.Outcome State Fault Refusal :=
  if 50 ≤ (s.port p).busyList.length then .fault .busyListOverrun
  else
    .next (s.modPort p (fun q =>
      { q with
        busyList := q.busyList ++ [tag]
        counters := { q.counters with busy := q.counters.busy + 1 } })).transmit

/-- The port becomes engaged (R187). -/
def State.engage (s : State) (p : PortId) : State := s.modPort p (fun q => { q with engaged := true })

/-- A reply waits in the port's reply place (R187). -/
def State.putReply (s : State) (p : PortId) (frame : List Byte) : State :=
  s.modPort p (fun q => { q with reply := some frame })

/-- The reply of a served request is produced; a deferred one is not (R187). -/
def State.replied (p : PortId) (kind tag : Byte) (r : Served) : State :=
  match r.2 with
  | some a => r.1.putReply p (replyFrame kind tag a)
  | none => r.1

/-- Steps 3 to 5 of R186: port, length, then the request's own rule. -/
def judge (p : PortId) (payload : List Byte) (onlyA : Bool) (len : Nat) (body : State → Served) (s : State) :
    Served :=
  if onlyA && decide (p = .B) then refuse .refusedPort s
  else if payload.length ≠ len then refuse .badArgument s
  else body s

/-- A console frame of this KIND from its SUM byte to its reply (R185 to R187). A frame that cannot be the one the
receiver completes does nothing (notes/assumptions/5.md). -/
def State.takeFrame (s : State) (p : PortId) (kind tag : Byte) (payload : List Byte) (body : State → Served) :
    Host.Outcome State Fault Refusal :=
  let frame := ltFrame kind tag payload
  if !(s.port p).rx.completes payload frame then .next s
  else
    let s1 := s.frameTaken p frame
    if (s1.port p).engaged then s1.answerBusy p tag
    else .next (State.replied p kind tag (body (s1.engage p))).transmit

/-- A request of the catalogue (R186). -/
def State.serve (s : State) (p : PortId) (kind tag : Byte) (payload : List Byte) (onlyA : Bool) (len : Nat)
    (body : State → Served) : Host.Outcome State Fault Refusal :=
  s.takeFrame p kind tag payload (judge p payload onlyA len body)

end Sys2Proof.Machine
end

