-- ==== Sys2Proof/Machine/Flags.lean ====
section
/-! DEFINITION. Flags the manual computes: the flags of a lap (R99), its flags byte (R200), and the serve-type and
open-state distinctions of penalties (R137, R139). -/

namespace Sys2Proof.Machine

open Sys2Proof

/-- The flags of a counted lap (R99), the IMPLAUSIBLE mark (R94), and whether the lap time is present. -/
structure LapFlags where
  caution : Bool
  neutral : Bool
  missed : Bool
  overMax : Bool
  predicted : Bool
  serving : Bool
  implausible : Bool
  timed : Bool
  deriving DecidableEq, Repr

/-- A flag's weight. -/
def bitIf (b : Bool) (w : Nat) : Nat := if b then w else 0

/-- The lap flags byte (R200). -/
def LapFlags.toByte (f : LapFlags) : Byte :=
  BitVec.ofNat 8 (bitIf f.caution 1 + bitIf f.neutral 2 + bitIf f.missed 4 + bitIf f.overMax 8 + bitIf f.predicted 16
    + bitIf f.serving 32 + bitIf f.implausible 64 + bitIf f.timed 128)

/-- CAUTION of a lap (R99): by the epochs and tags of its ends, or by its end alone when it has no lap start. -/
def cautionFlag (start : Option LapStart) (tag : PhaseTag) : Bool :=
  match start with
  | some l => decide (l.tag.cautionEpoch ≠ tag.cautionEpoch) || l.tag.underCaution || tag.underCaution
  | none => tag.underCaution

/-- NEUTRAL of a lap (R99). -/
def neutralFlag (start : Option LapStart) (tag : PhaseTag) (neutral : Bool) : Bool :=
  match start with
  | some l =>
    decide (l.tag.suspensionEpoch ≠ tag.suspensionEpoch) || decide (l.tag.race = .suspended)
      || decide (tag.race = .suspended) || neutral
  | none => decide (tag.race = .suspended) || neutral

/-- A timed lap with none of the flags CAUTION, NEUTRAL, OVER, PREDICTED and SERVING is eligible (R100). -/
def LapFlags.eligible (f : LapFlags) : Bool :=
  f.timed && !f.caution && !f.neutral && !f.overMax && !f.predicted && !f.serving

/-- The largest lap time reported (R98). -/
def maxLapMs : Nat := 16777215

/-- The serve-type outcomes (R137). -/
def PenaltyOutcome.isServe : PenaltyOutcome → Bool
  | .stopGo | .driveThrough | .lockout => true
  | .time | .lapDeduct | .warning => false

/-- The final states (R139). -/
def PenaltyState.isFinal : PenaltyState → Bool
  | .served | .waived | .converted => true
  | .review | .confirmed | .serving => false

end Sys2Proof.Machine
end

