-- ==== Sys2Proof/Machine/Permit.lean ====
section
/-! DEFINITION. The permit table (R163 to R167), the track-enable line (R173) and the lamps (R135): what each shows is
computed from the other blocks. -/

namespace Sys2Proof.Machine

open Sys2Proof

/-! ## A car's penalty records -/

/-- The car has a SERVING record with this property. -/
def State.servingRecord (s : State) (c : Code) : Option Penalty :=
  s.pen.list.find? (fun r => r.code == c && r.state == .serving)

/-- The car has a record in REVIEW or CONFIRMED. -/
def State.hasCalled (s : State) (c : Code) : Bool :=
  s.pen.list.any (fun r => r.code == c && (r.state == .review || r.state == .confirmed))

/-! ## The terms of a cap (R165) -/

/-- The state cap. -/
def State.stateCap (s : State) : Nat :=
  match s.race.state with
  | .practice => s.course.settings.practiceCap
  | .green => 63
  | .caution => s.course.settings.cautionCap
  | .chequered => if s.race.held then s.course.settings.cautionCap else 63
  | _ => 0

/-- The car cap. -/
def State.carCap (s : State) (k : CarState) : Nat :=
  match k with
  | .idle | .running | .offTrack => 63
  | .grid => 0
  | .finished => s.course.settings.coolCap
  | .retired => 0

/-- The serving cap. -/
def State.servingCap (s : State) (r : Option Penalty) : Nat :=
  match r with
  | some r =>
    match r.outcome with
    | .stopGo => 0
    | .driveThrough => s.course.settings.driveCap
    | _ => 63
  | none => 63

/-- The pit lane P as a lane. -/
def pitLane : Lane := 6

/-- The pit cap: the lane of the last passage is P in GREEN, CAUTION or CHEQUERED. -/
def State.pitCap (s : State) (r : RacePart) : Nat :=
  match s.race.state with
  | .green | .caution | .chequered =>
    if r.last.bind LastPassage.lane = some pitLane then s.course.settings.pitCap else 63
  | _ => 63

/-! ## Rows -/

/-- The lane change of an occupied row (R166). -/
def State.laneAllowed (s : State) (x : Car) (serving : Option Penalty) : Bool :=
  (match s.race.state with
    | .practice | .green => true
    | .chequered => !s.race.held
    | _ => false)
    && decide (x.race.state = .running)
    && (match serving with
      | some r => decide (r.outcome ≠ .lockout) && decide (r.outcome ≠ .stopGo)
      | none => true)

/-- The flag of an occupied row (R166). -/
def State.rowFlag (s : State) (x : Car) (serving : Option Penalty) : PermitFlag :=
  if x.race.state = .finished then .finished
  else if serving.isSome then .serving
  else if s.hasCalled x.code then .called
  else .none

/-- The row of an entered car (R165, R166). -/
def State.occupiedRow (s : State) (x : Car) : PermitRow :=
  let serving := s.servingRecord x.code
  ⟨min (min s.stateCap (s.carCap x.race.state)) (min (s.servingCap serving) (s.pitCap x.race)),
    s.laneAllowed x serving, s.rowFlag x serving⟩

/-- The row of a drive slot no entered car holds (R164). -/
def State.freeRow (s : State) : PermitRow :=
  ⟨if s.race.state = .practice then s.course.settings.practiceCap else 0, false, .none⟩

/-- The entered car of a drive slot (R164). -/
def State.driver (s : State) (d : DriveIx) : Option Car :=
  s.cars.find? (fun x => x.entered && x.drive == d.val + 1)

/-- The row a drive slot has by the state of the other blocks (R164). -/
def State.rowOf (s : State) (d : DriveIx) : PermitRow :=
  match s.driver d with
  | some x => s.occupiedRow x
  | none => s.freeRow

/-! ## Recomputation (R167) -/

/-- The rows are replaced; the epoch grows by 1 when any field of any row changes (R167). -/
def State.putRows (s : State) (rows : Vector PermitRow 32) : State :=
  if rows.toList = s.power.rows.toList then s
  else { s with power.rows := rows, power.epoch := s.power.epoch + 1 }

/-- The drive slots in order. -/
def driveSlots : Vector DriveIx 32 :=
  #v[0, 1, 2, 3, 4, 5, 6, 7, 8, 9, 10, 11, 12, 13, 14, 15, 16, 17, 18, 19, 20, 21, 22, 23, 24, 25, 26, 27, 28, 29, 30,
    31]

/-- Recompute all 32 rows. -/
def State.recomputeAll (s : State) : State := s.putRows (mapVec s.rowOf driveSlots)

/-- Recompute the row of a drive slot, 1 to 32; drive slot 0 is none. -/
def State.recomputeDrive (s : State) (drive : Nat) : State :=
  if h : 1 ≤ drive ∧ drive ≤ 32 then
    s.putRows (s.power.rows.set (drive - 1) (s.rowOf ⟨drive - 1, by omega⟩) (by omega))
  else s

/-- Recompute the row of a car. A car that is not entered drives no row (R164). -/
def State.recomputeCar (s : State) (c : Code) : State :=
  match s.car c with
  | some x => if x.entered then s.recomputeDrive x.drive else s
  | none => s

/-! ## Output lines -/

/-- Track-enable is high when the race state is PRACTICE, GREEN, CAUTION or CHEQUERED and the link is UP (R173). -/
def State.setTrackEnable (s : State) : State :=
  { s with power.trackEnable := s.race.state.clockRuns && s.power.linkUp }

/-- The lamp pattern of the race state or of the step playing (R135). -/
def State.lampPattern (s : State) : BitVec 8 :=
  match s.race.state with
  | .idle => 0
  | .practice | .green => 0x20
  | .grid | .countdown =>
    match s.race.step with
    | some t => s.race.program.steps[t.index].pattern.setWidth 8
    | none => 0
  | .caution => 0x40
  | .suspended | .closed => 0x80
  | .chequered => if s.race.held then 0x60 else 0x20

/-- The lamp outputs take their pattern. -/
def State.setLamps (s : State) : State := { s with race.lamps := s.lampPattern }

/-- Steps 4 and 5 of a change of race state (R111): every row, the track-enable line, the lamps. -/
def State.showState (s : State) : State := s.recomputeAll.setTrackEnable.setLamps

end Sys2Proof.Machine
end

