-- ==== Sys2Proof/Machine/Standing.lean ====
section
/-! DEFINITION. The standings (R175 to R182): the key, the list, the re-sort and its LEADER notice, finish positions. -/

namespace Sys2Proof.Machine

open Sys2Proof

/-- Effective laps: the signed sum limited to 0 to 65,535 (R102, R175). -/
def RacePart.effective (r : RacePart) : Nat :=
  (max 0 (min 65535 ((r.counted : Int) + r.adjust - (r.deductions : Int)))).toNat

/-- Adjusted time (R175). -/
def RacePart.adjustedTime (r : RacePart) : Nat :=
  if 1 ≤ r.counted then r.lastCountedMs + 1000 * r.timePenalty else 0

/-- The fresh key of a car (R175). -/
def Car.standKey (x : Car) : StandEntry :=
  ⟨x.code, x.race.effective, x.race.adjustedTime, x.gridSlot.getD 0⟩

/-- Car a stands ahead of car b (R175). -/
def StandEntry.ahead (a b : StandEntry) : Bool :=
  if a.laps ≠ b.laps then decide (b.laps < a.laps)
  else if a.time ≠ b.time then decide (a.time < b.time)
  else decide (a.grid < b.grid)

/-- An entry with its key computed afresh from the car record. -/
def State.freshEntry (s : State) (e : StandEntry) : StandEntry :=
  match s.car e.code with
  | some x => x.standKey
  | none => e

/-- The list with every key fresh, in key order (R178). -/
def State.resorted (s : State) : List StandEntry := sortBy StandEntry.ahead (s.stand.list.map s.freshEntry)

/-- A LEADER notice when the car in position 1 differs from `before` (R179). -/
def State.noticeLeader (s : State) (before : Option StandEntry) (cause : LeaderCause) : State :=
  match before, s.stand.list.head? with
  | some old, some new =>
    if old.code = new.code then s
    else
      s.append (.leader new.code (s.numberOf new.code) new.laps new.time old.code (s.numberOf old.code) cause)
  | _, _ => s

/-- A re-sort (R178): nothing while the list is not formed; otherwise fresh keys in order, the amendment count when
the classification is fixed and a stored key changed (R182), and the LEADER notice (R179). -/
def State.resort (s : State) (cause : LeaderCause) : State :=
  if s.stand.formed then
    let amended := s.stand.fixed && decide (s.stand.list.map s.freshEntry ≠ s.stand.list)
    let s1 : State := { s with
      stand.list := s.resorted
      stand.amendments := if amended then min 255 (s.stand.amendments + 1) else s.stand.amendments }
    s1.noticeLeader s.stand.list.head? cause
  else s

/-- Formation at FORM_GRID (R176): every entered car with its key, in key order; flags and count cleared. -/
def State.formStandings (s : State) : State :=
  { s with stand := ⟨sortBy StandEntry.ahead (s.entries.map Car.standKey), true, false, 0⟩ }

/-- The list emptied and not formed (R176, R181, R182). -/
def State.clearStandings (s : State) : State := { s with stand := Standings.reset }

/-- ENTER keeps a formed list in step: the car joins with a zero key (R177). -/
def State.standEnter (s : State) (c : Code) (grid : Nat) : State :=
  if s.stand.formed then { s with stand.list := insertBy StandEntry.ahead ⟨c, 0, 0, grid⟩ s.stand.list } else s

/-- WITHDRAW removes the car's entry from a formed list (R177). -/
def State.standWithdraw (s : State) (c : Code) : State :=
  if s.stand.formed then { s with stand.list := s.stand.list.filter (fun e => e.code != c) } else s

/-- A car's position in the list, counted from 1 (R176). -/
def State.position (s : State) (c : Code) : Option Nat :=
  (s.stand.list.findIdx? (fun e => e.code == c)).map (· + 1)

/-- A finishing car's position becomes its finish position, and a FINISH notice is appended (R180). -/
def State.recordFinish (s : State) (c : Code) : State :=
  match s.position c with
  | some n =>
    let s1 := s.modRace c (fun r => { r with finishPos := some n })
    match s1.car c with
    | some x =>
      s1.append (.finish c x.number n x.race.counted x.race.effective x.race.adjustedTime x.race.lastCountedMs)
    | none => s1
  | none => s

end Sys2Proof.Machine
end

