-- ==== Sys2Proof/Machine/Penalty.lean ====
section
/-! DEFINITION. The Penalty Unit's shared operations (R140 to R159): raising, confirming, serving, converting and
settling records, and what each change hands on to the permit table and the standings. -/

namespace Sys2Proof.Machine

open Sys2Proof

/-! ## The list -/

/-- The record with an id. -/
def State.penalty (s : State) (id : Nat) : Option Penalty := s.pen.list.find? (fun r => r.id == id)

/-- Replace the record with the same id. -/
def State.putPenalty (s : State) (r : Penalty) : State :=
  { s with pen.list := s.pen.list.map (fun x => if x.id = r.id then r else x) }

/-- The penalty list is emptied without notices; the next id, the schedule and the tallies stay (R160). -/
def State.clearPenalties (s : State) : State := { s with pen.list := [] }

/-! ## The serve queue (R140, R150) -/

/-- A record stands in its car's serve queue: serve-type, CONFIRMED or SERVING. -/
def Penalty.queued (r : Penalty) : Bool :=
  r.outcome.isServe && (decide (r.state = .confirmed) || decide (r.state = .serving))

/-- A car's serve queue in list order. -/
def State.serveQueue (s : State) (c : Code) : List Penalty :=
  s.pen.list.filter (fun r => r.code == c && r.queued)

/-- The head of a car's serve queue: its SERVING record, or else the first CONFIRMED record of the queue. -/
def State.queueHead (s : State) (c : Code) : Option Penalty :=
  match (s.serveQueue c).find? (fun r => r.state == .serving) with
  | some r => some r
  | none => (s.serveQueue c).head?

/-! ## Effects on the car record (R148, R154, R158) -/

/-- Seconds are added to the time penalty total, saturating at 65,535. -/
def State.addTime (s : State) (c : Code) (n : Nat) : State :=
  s.modRace c (fun r => { r with timePenalty := min 65535 (r.timePenalty + n) })

/-- Seconds are subtracted, stopping at 0. -/
def State.subTime (s : State) (c : Code) (n : Nat) : State :=
  s.modRace c (fun r => { r with timePenalty := r.timePenalty - n })

/-- Laps are added to the deductions, clamped to 999. -/
def State.addDeduct (s : State) (c : Code) (n : Nat) : State :=
  s.modRace c (fun r => { r with deductions := min 999 (r.deductions + n) })

/-- Laps are subtracted from the deductions, stopping at 0. -/
def State.subDeduct (s : State) (c : Code) (n : Nat) : State :=
  s.modRace c (fun r => { r with deductions := r.deductions - n })

/-- The silence deadline of a RUNNING car is restarted at the race clock now plus the silence limit (R107). -/
def State.restartSilence (s : State) (c : Code) : State :=
  s.modRace c (fun r =>
    if r.state = .running then { r with silence := some (s.raceClock + s.silenceTicks) } else r)

/-! ## Handing on (R159) -/

/-- A PENALTY notice with the whole record and the car's number. -/
def State.noticePenalty (s : State) (cause : PenaltyCause) (r : Penalty) : State :=
  s.append (.penalty cause (s.numberOf r.code) r)

/-- The kind of event that asks for a re-sort when records change with this cause (R179): a retirement, a close, or
any other penalty event (notes/assumptions/16.md). -/
def PenaltyCause.leader : PenaltyCause → LeaderCause
  | .retire => .retire
  | .close => .close
  | .raised | .reviewEnd | .decision | .serveBegin | .serveEnd | .deadline | .finish | .reversal => .penalty

/-- After an event on a car's records: its row, then a re-sort when its totals changed. -/
def State.handOn (s : State) (cause : PenaltyCause) (c : Code) (totals : Bool) : State :=
  let s1 := s.recomputeCar c
  if totals then s1.resort cause.leader else s1

/-- An event on one record: the record as it stands after it, its notice, and what it hands on. -/
def State.finishEvent (s : State) (cause : PenaltyCause) (r : Penalty) (totals : Bool) : State :=
  ((s.putPenalty r).noticePenalty cause r).handOn cause r.code totals

/-! ## Confirmation (R147) and conversion (R154) -/

/-- The course has a serving point (R78). -/
def State.hasServingPoint (s : State) : Bool := s.course.points.any CoursePoint.serving

/-- A serve outcome that is converted at once at its confirmation (R147). -/
def State.convertsAtOnce (s : State) (r : Penalty) : Bool :=
  decide (s.race.state = .closed)
    || (match s.car r.code with
      | some x => decide (x.race.state = .finished) || decide (x.race.state = .retired)
      | none => false)
    || (decide (r.outcome = .stopGo) && !s.hasServingPoint)

/-- A record after its conversion: CONVERTED, its serve progress absent (R154). -/
def Penalty.converted (r : Penalty) : Penalty :=
  { r with state := .converted, review := none, lapsAsHead := none, stopGoEnd := none, lockoutLeft := none }

/-- A record after its confirmation with the effects on its car, and whether the car's totals changed (R147, R148). -/
def State.confirmRecord (s : State) (d : Decider) (r : Penalty) : State × Penalty × Bool :=
  let r1 : Penalty := { r with decided := some d, review := none }
  match r.outcome with
  | .time => (s.addTime r.code r.amount, { r1 with state := .served }, true)
  | .lapDeduct => (s.addDeduct r.code r.amount, { r1 with state := .served }, true)
  | .warning => (s, { r1 with state := .served }, false)
  | .stopGo | .driveThrough | .lockout =>
    if s.convertsAtOnce r then (s.addTime r.code r.conversion, r1.converted, true)
    else (s, { r1 with state := .confirmed, lapsAsHead := some 0 }, false)

/-- A record that is waived. -/
def Penalty.waivedBy (d : Decider) (r : Penalty) : Penalty :=
  { r with state := .waived, decided := some d, review := none, stopGoEnd := none, lockoutLeft := none }

/-- The decision of a record in REVIEW by its review mode (R144, R157). -/
def State.decideByMode (s : State) (r : Penalty) : State × Penalty × Bool :=
  match r.mode with
  | some .autoWaive => (s, r.waivedBy .auto, false)
  | _ => s.confirmRecord .auto r

/-! ## Raising (R141, R142, R143, R149) -/

/-- Room for a record: a full list first loses its earliest record in a final state (R141). `none` when every record
is open. -/
def State.makeRoom (s : State) : Option State :=
  if s.pen.list.length < 32 then some s
  else if s.pen.list.any (fun r => r.state.isFinal) then
    some { s with
      pen.list := s.pen.list.eraseP (fun r => r.state.isFinal)
      pen.tallyEvicted := s.pen.tallyEvicted + 1 }
  else none

/-- The id a new record takes (R140). -/
def State.newPenaltyId (s : State) : Nat := freeId (s.pen.list.map Penalty.id) s.pen.nextId

/-- The kind of a schedule row (R138). -/
def kindOfRow (k : Fin 6) : PenaltyKind :=
  match k with
  | 0 => .jump
  | 1 => .cut
  | 2 => .lane
  | 3 => .cautionLane
  | 4 => .pitSpeed
  | 5 => .rejoin

/-- The review step at raise (R143). -/
def State.reviewStep (s : State) (window : Nat) (r : Penalty) : State × Penalty × Bool :=
  match r.mode with
  | some .autoConfirm =>
    if window = 0 then s.confirmRecord .auto r
    else (s, { r with review := some (s.raceClock + window * tenthTicks) }, false)
  | some .autoWaive =>
    if window = 0 then (s, r.waivedBy .auto, false)
    else (s, { r with review := some (s.raceClock + window * tenthTicks) }, false)
  | _ => s.confirmRecord .auto r

/-- A record joins the end of the list with its RAISED notice, and the event hands on (R142 steps 4 and 5). -/
def State.joinRecord (s : State) (r : Penalty) (totals : Bool) : State :=
  let s1 : State := { s with
    pen.list := s.pen.list ++ [r]
    pen.nextId := nextIdAfter r.id
    pen.tallyRaised := s.pen.tallyRaised + 1 }
  (s1.noticePenalty .raised r).handOn .raised r.code totals

/-- A new record in REVIEW, before its review step. -/
def State.newRecord (s : State) (k : PenaltyKind) (c : Code) (place : Option (Nat × Option Lane)) (o : PenaltyOutcome)
    (amount : Nat) (mode : Option ReviewMode) (conversion : Nat) : Penalty where
  id := s.newPenaltyId
  kind := k
  code := c
  place := place
  raisedMs := s.raceMs
  state := .review
  outcome := o
  amount := amount
  mode := mode
  conversion := conversion
  review := none
  decided := none
  lapsAsHead := none
  stopGoEnd := none
  lockoutLeft := none

/-- An automatic call is raised (R142), or dropped with LIST_FULL (R141). -/
def State.raiseCall (s : State) (k : Fin 6) (c : Code) (q : Nat) (l : Option Lane) : State :=
  match s.makeRoom with
  | none =>
    let s1 := s.append (.listFull (kindOfRow k) c (s.numberOf c) q l)
    { s1 with pen.tallyDropped := s1.pen.tallyDropped + 1 }
  | some s1 =>
    let row := s1.pen.schedule[k]
    let r0 := s1.newRecord (kindOfRow k) c (some (q, l)) row.outcome row.amount (some row.mode) row.conversion
    let (s2, r, totals) := s1.reviewStep row.window r0
    s2.joinRecord r totals

/-! ## Serving (R151, R153) -/

/-- A STOP_GO at the head of the queue begins serving at a serving-point passage (R151). -/
def State.beginStopGo (s : State) (c : Code) : State :=
  match s.queueHead c with
  | some r =>
    if r.state = .confirmed ∧ r.outcome = .stopGo then
      let r1 := { r with state := .serving, stopGoEnd := some (s.raceClock + r.amount * secondTicks) }
      (s.modRace c (fun x => { x with silence := none, serving := true })).finishEvent .serveBegin r1 false
    else s
  | none => s

/-- A SERVING record becomes SERVED: its stop-go end or lockout count becomes absent. -/
def Penalty.servedNow (r : Penalty) : Penalty := { r with state := .served, stopGoEnd := none, lockoutLeft := none }

/-- Step 1 of the serve triggers: progress of the record serving (R153). -/
def State.serveProgress (s : State) (c : Code) : State :=
  match s.servingRecord c with
  | some r =>
    match r.outcome with
    | .driveThrough => s.finishEvent .serveEnd r.servedNow false
    | .lockout =>
      if r.lockoutLeft.getD 0 ≤ 1 then s.finishEvent .serveEnd r.servedNow false
      else s.putPenalty { r with lockoutLeft := some (r.lockoutLeft.getD 0 - 1) }
    | _ => s
  | none => s

/-- Step 2 of the serve triggers: a DRIVE_THROUGH or LOCKOUT at the head begins (R153). -/
def State.serveBegin (s : State) (c : Code) : State :=
  match s.queueHead c with
  | some r =>
    if r.state = .confirmed then
      match r.outcome with
      | .driveThrough => s.finishEvent .serveBegin { r with state := .serving } false
      | .lockout => s.finishEvent .serveBegin { r with state := .serving, lockoutLeft := some r.amount } false
      | _ => s
    else s
  | none => s

/-- Step 3 of the serve triggers: the serve-deadline count (R153). -/
def State.serveCount (s : State) (c : Code) : State :=
  match s.queueHead c with
  | some r =>
    if r.state = .confirmed then
      if 2 ≤ r.lapsAsHead.getD 0 then
        (s.addTime c r.conversion).finishEvent .deadline r.converted true
      else s.putPenalty { r with lapsAsHead := some (r.lapsAsHead.getD 0 + 1) }
    else s
  | none => s

/-- The serve triggers of a counted lap (R153). -/
def State.serveTriggers (s : State) (c : Code) : State := ((s.serveProgress c).serveBegin c).serveCount c

/-- The serving flag for the lap that begins: the car holds a SERVING record (R101 step 7). -/
def State.markServing (s : State) (c : Code) : State :=
  s.modRace c (fun r => { r with serving := (s.servingRecord c).isSome })

/-! ## Settlements (R155 to R157) -/

/-- One record of a settlement with its notice: the state after it and whether the car's totals changed; `none` when
the settlement leaves the record alone. A queued CONFIRMED record is converted, a SERVING one becomes SERVED. -/
def State.settleQueued (s : State) (cause : PenaltyCause) (r : Penalty) : Option (State × Bool) :=
  if r.queued then
    if r.state = .confirmed then
      some (((s.addTime r.code r.conversion).putPenalty r.converted).noticePenalty cause r.converted, true)
    else some ((s.putPenalty r.servedNow).noticePenalty cause r.servedNow, false)
  else none

/-- The settlement of a car's queue at its finish or retirement, in list order, handing on once (R155, R156). -/
def State.settleCar (s : State) (c : Code) (cause : PenaltyCause) : State :=
  let mine := s.serveQueue c
  let step := fun (acc : State × Bool) (r : Penalty) =>
    match acc.1.settleQueued cause r with
    | some (s1, t) => (s1, acc.2 || t)
    | none => acc
  let (s1, totals) := mine.foldl step (s, false)
  if mine.isEmpty then s else s1.handOn cause c totals

/-- One record at the close (R157). -/
def State.settleAtClose (s : State) (r : Penalty) : Option (State × Bool) :=
  match r.state with
  | .review =>
    let (s1, r1, t) := s.decideByMode r
    some ((s1.putPenalty r1).noticePenalty .close r1, t)
  | .confirmed => s.settleQueued .close r
  | .serving =>
    let r1 := { r.servedNow with lapsAsHead := none }
    some ((s.putPenalty r1).noticePenalty .close r1, false)
  | _ => none

/-- What a close hands on for a car once its records are settled (R159): `touched` lists the records the close
changed, by car, each with whether the car's totals changed. -/
def State.handOnClose (s : State) (touched : List (Code × Bool)) (c : Code) : State :=
  if touched.any (fun e => e.1 == c) then s.handOn .close c (touched.any (fun e => e.1 == c && e.2)) else s

/-- The records left to settle at a close, in list order, each whole before the next (R157). `cars` are the cars not
yet handed on, in the order of their first records. A car is handed on as soon as no record of it is left and every
car ahead of it has been handed on, so its re-sort comes before the records of later cars are settled (R159, R178;
notes/assumptions/15.md). -/
def State.settleRecords (s : State) (cars : List Code) (touched : List (Code × Bool)) : List Penalty → State
  | [] => s
  | r :: rest =>
    let (s1, touched1) :=
      match s.settleAtClose r with
      | some (a, t) => (a, touched ++ [(r.code, t)])
      | none => (s, touched)
    let whole : Code → Bool := fun c => rest.all (fun x => x.code != c)
    ((cars.takeWhile whole).foldl (fun a c => a.handOnClose touched1 c) s1).settleRecords (cars.dropWhile whole)
      touched1 rest

/-- The settlement of the whole list at the close (R157). -/
def State.settleClose (s : State) : State :=
  s.settleRecords (s.pen.list.map Penalty.code).eraseDups [] s.pen.list

end Sys2Proof.Machine
end

