-- ==== Sys2Proof/Machine/Race.lean ====
section
/-! DEFINITION. The Race State Controller's shared operations (R110 to R134): the parts of a change of race state, the
start program's steps, and each transition that more than one event can cause. -/

namespace Sys2Proof.Machine

open Sys2Proof

/-! ## The parts of a change (R110, R111) -/

/-- Steps 1 and 2 end so: the reason is kept and the STATE notice appended. The saved return state is carried when
the state entered is SUSPENDED (R110). -/
def State.announce (s : State) (left : RaceState) (reason : StateReason) : State :=
  let saved := if s.race.state = .suspended then s.race.saved else none
  ({ s with race.reason := reason }).append (.state left s.race.state s.race.held saved reason)

/-- The clocks at an entry to IDLE: G, N_closed and S0 are 0 and no race clock is latched (R3, R5). -/
def State.clearClocks (s : State) : State :=
  { s with time.green := 0, time.nClosed := 0, time.s0 := 0, time.latched := none }

/-- The clocks at a green origin: G is now, N_closed and S0 are 0 (R3). -/
def State.startClocks (s : State) : State :=
  { s with time.green := s.time.session, time.nClosed := 0, time.s0 := 0, time.latched := none }

/-- The open suspension ends: N_closed grows by the session time less S0 (R4). -/
def State.endSuspension (s : State) : State :=
  { s with time.nClosed := s.time.nClosed + (s.time.session - s.time.s0) }

/-- The caution epoch grows by 1 (R7). -/
def State.growCaution (s : State) : State := { s with time.cautionEpoch := s.time.cautionEpoch + 1 }

/-- A pending shadow map is applied (R85). -/
def State.applyShadow (s : State) : State :=
  match s.course.shadow with
  | some l => { s with course.sectors := l, course.shadow := none }
  | none => s

/-- The race part of every record takes its initial values, the reference lap ticks kept (OPEN_PRACTICE, FORM_GRID)
or not (RELEASE, soft reset) (R65, R74). -/
def State.initCars (s : State) (keepRef : Bool) : State :=
  s.mapCars (fun x => { x with race := { RacePart.initial with refTicks := if keepRef then x.race.refTicks else none } })

/-- Capture stacks and last captures are cleared without release (R15). -/
def State.clearCaptures (s : State) : State :=
  { s with time.gates := mapVec (fun q => { q with stack := [], last := none }) s.time.gates }

/-- The unattributed list is emptied with a notice and a tally per record (R56). -/
def State.resumeUnattributed (s : State) : State :=
  let s1 := s.former.list.foldl (fun a r => a.append (.unattributedGone r.id r.origin .resumed 0)) s
  { s1 with
    former.list := []
    former.tallies.resumed := s1.former.tallies.resumed + BitVec.ofNat 32 s.former.list.length }

/-! ## The start program (R118, R119) -/

/-- The length of a step in units of 10 ms, with the random source at this value (R118). -/
def ProgramStep.units (t : ProgramStep) (v : BitVec 16) : Nat := max 1 (t.duration + v.toNat % (t.extension + 1))

/-- A step begins: its extension is sampled, its deadline started, the lamps set (R118). In COUNTDOWN the first step
with JUMP_WATCH turns the watch on (R119). -/
def State.beginStep (s : State) (i : Fin 16) : State :=
  let t := s.race.program.steps[i]
  let s1 : State := { s with race.step := some ⟨i, s.timer (t.units s.time.rng * centiTicks)⟩ }
  let s2 : State :=
    if s1.race.state = .countdown ∧ t.jumpWatch ∧ s1.race.jumpWatch = false then
      { s1 with race.jumpWatch := true, race.watchStart := some s1.time.session }
    else s1
  s2.setLamps

/-- The step timer stops. -/
def State.stopSteps (s : State) : State := { s with race.step := none }

/-- The index after a step. -/
def nextStep (i : Fin 16) : Fin 16 := i + 1

/-! ## Closing (R130 to R132) -/

/-- The entry to CLOSED (R132). -/
def State.closeRace (s : State) (reason : StateReason) : State :=
  let s0 := { s with time.latched := some s.raceClock }
  let s1 := if s.race.state = .suspended then s0.endSuspension else s0
  let s2 : State := { s1 with
    race.state := .closed, race.held := false, race.saved := none, race.raceLimit := none, race.finishWindow := none }
  let s3 := (s2.announce s.race.state reason).applyShadow
  let s4 := s3.mapCars (fun x => { x with race := { x.race with silence := none } })
  let s5 := s4.settleClose.resort .close
  State.showState { s5 with stand.fixed := true }

/-- Every entered car is FINISHED or RETIRED (R130). -/
def State.raceDone (s : State) : Bool :=
  s.cars.all (fun x => !x.entered || decide (x.race.state = .finished) || decide (x.race.state = .retired))

/-- The test of R130, made in CHEQUERED: a race that is done is closed with reason FINISHED. -/
def State.doneTest (s : State) : State :=
  if s.race.state = .chequered ∧ s.raceDone then s.closeRace .finished else s

/-! ## Chequered flag (R129) -/

/-- The finish window of the race settings in ticks (R87). -/
def State.finishWindowTicks (s : State) : Nat := s.course.settings.finishWindow * secondTicks

/-- The entry to CHEQUERED with reason LIMIT (R129). The test of R130 is made once the change is whole
(notes/assumptions/11.md). -/
def State.enterChequered (s : State) : State :=
  let s1 : State := { s with
    race.state := .chequered
    race.held := decide (s.race.state = .caution)
    race.raceLimit := none
    race.finishWindow := some (s.raceClock + s.finishWindowTicks) }
  ((s1.announce s.race.state .limit).showState).doneTest

/-! ## Suspension and abort (R122, R125) -/

/-- The saved return state of the state left (R125). -/
def State.returnState (s : State) : SavedState :=
  match s.race.state with
  | .caution => .caution
  | .chequered => .chequered s.race.held
  | _ => .green

/-- The entry to SUSPENDED (R125). -/
def State.suspendRace (s : State) (reason : StateReason) : State :=
  let s1 : State := { s with
    race.saved := some s.returnState
    race.held := false
    race.state := .suspended
    time.s0 := s.time.session
    time.suspensionEpoch := s.time.suspensionEpoch + 1 }
  (s1.announce s.race.state reason).showState

/-- The return from COUNTDOWN to GRID (R122). -/
def State.abortToGrid (s : State) (reason : StateReason) : State :=
  let s1 : State := { s with race.state := .grid, race.step := none, race.jumpWatch := false, race.watchStart := none }
  ((s1.announce s.race.state reason).beginStep s1.race.program.g0).showState

/-- A trouble of the power link or base reported to the controller: a race in GREEN, CAUTION or CHEQUERED is
suspended, a countdown is aborted, every other state stands (R122, R125, R171, R172). -/
def State.reportTrouble (s : State) (reason : StateReason) : State :=
  match s.race.state with
  | .green | .caution | .chequered => s.suspendRace reason
  | .countdown => s.abortToGrid reason
  | _ => s

/-- The link is UP and the last base status NORMAL (R119, R127). -/
def State.powerReady (s : State) : Bool := s.power.linkUp && decide (s.power.status = some .normal)

/-! ## Caution (R123) -/

/-- GREEN becomes CAUTION (R108, R123). -/
def State.enterCaution (s : State) (reason : StateReason) : State :=
  let s1 : State := { s with race.state := .caution, time.cautionEpoch := s.time.cautionEpoch + 1 }
  (s1.announce s.race.state reason).showState

/-! ## Green moment (R106, R120, R128) -/

/-- The lap the line opens at the green moment: capture session time G, neutral stamp 0, phase tag GREEN with the
epochs as they stand and caution held clear (R106). -/
def State.lineLap (s : State) : LapStart :=
  ⟨s.time.green, 0, ⟨.green, false, s.time.cautionEpoch, s.time.suspensionEpoch⟩⟩

/-- The race-limit deadline set at the green moment (R128). -/
def State.raceLimitTicks (s : State) : Nat :=
  match s.course.settings.mode with
  | .time => s.course.settings.limit * secondTicks
  | .laps => longLimitTicks

/-- A record at the green moment: every entered car is set up (R106). -/
def State.greenCar (s : State) (x : Car) : Car :=
  if x.entered then
    let r := { x.race with state := .running, silence := some s.silenceTicks }
    if s.course.settings.gridPosition = .atLine ∨ r.crossedEarly = true then
      { x with race := { r with lapState := .openTimed, lapStart := some s.lineLap } }
    else { x with race := r }
  else x

/-- The green moment (R120). The rows of all entered cars change in the one recomputation of the state change
(notes/assumptions/12.md). -/
def State.greenMoment (s : State) : State :=
  let s1 : State := { s.startClocks with
    race.state := .green, race.jumpWatch := false, race.step := none
    race.raceLimit := some s.raceLimitTicks }
  let s2 := s1.announce s.race.state .countdownEnd
  (s2.mapCars s2.greenCar).showState

/-! ## Practice end (R114) -/

/-- A practice session ends in IDLE (R114, R74). -/
def State.closePractice (s : State) (reason : StateReason) : State :=
  let s1 : State := { s.clearClocks with race.state := .idle, race.practiceLimit := none }
  ((s1.announce s.race.state reason).mapCars
    (fun x => { x with race := { x.race with state := .idle, silence := none } })).showState

end Sys2Proof.Machine
end

