-- ==== Sys2Proof/Machine/Lap.lean ====
section
/-! DEFINITION. Lap Accounting (R78 to R107): spans and plausibility, the seven stages every passage record passes
through, and jump handling (R121). -/

namespace Sys2Proof.Machine

open Sys2Proof

/-- A passage record (R58). Its merged count and phase tag are those of its capture. -/
structure Passage where
  code : Code
  point : Nat
  lane : Option Lane
  capture : Capture
  origin : PassageOrigin
  deriving DecidableEq, Repr

/-! ## Spans (R80, R93) -/

/-- The point count P (R78). -/
def State.pointCount (s : State) : Nat := s.course.points.length

/-- The length of the span from p to q in sections: (q - p) mod P, or P when q = p (R48, R93). -/
def spanLength (count p q : Nat) : Nat := if p = q then count else (q + count - p) % count

/-- The sections of a span, p to q - 1, mod P. -/
def spanSections (count p q : Nat) : List Nat := (List.range (spanLength count p q)).map (fun i => (p + i) % count)

/-- The missed points of a span: the points strictly inside it (R93). -/
def missedPoints (count p q : Nat) : List Nat := (spanSections count p q).drop 1

/-- The sections of a span with their fields. -/
def State.spanSectors (s : State) (p q : Nat) : List Sector :=
  (spanSections s.pointCount p q).map (fun k => s.course.sectors.getD k Sector.initial)

/-- A track lane, 1 to 6. -/
def isTrack (l : Lane) : Bool := l != pitLane

/-- The change from a to b is plausible within a section (R80). -/
def Sector.plausible (t : Sector) (a b : Lane) : Bool :=
  if isTrack a then (isTrack b || decide (t.pitRule = .entry))
  else if isTrack b then decide (t.pitRule = .exit)
  else decide (t.pitRule ≠ .none)

/-- The change is plausible over a span when one of its sections makes it so; with a lane unknown it is not judged
(R80). -/
def plausibleOver (l : List Sector) (a b : Option Lane) : Bool :=
  match a, b with
  | some a, some b => l.any (fun t => t.plausible a b)
  | _, _ => true

/-- The point a car's span is measured from (R93). -/
def RacePart.spanFrom (r : RacePart) : Option Nat :=
  match r.last with
  | some l => some l.point
  | none => if r.lapState = .closed then none else some 0

/-- What stage 3 finds of a passage's span. -/
structure Span where
  present : Bool
  sectors : List Sector
  missed : List Nat
  within : Bool
  deriving DecidableEq, Repr

/-- Stage 3: the span of a passage (R93). -/
def State.measure (s : State) (r : RacePart) (q : Nat) : Span :=
  match r.spanFrom with
  | some p =>
    let missed := missedPoints s.pointCount p q
    ⟨true, s.spanSectors p q, missed, decide (missed.length ≤ s.course.settings.missTolerance)⟩
  | none => ⟨false, [], [], true⟩

/-- The lane of a car's last passage, unknown when there is none. -/
def RacePart.lastLane (r : RacePart) : Option Lane := r.last.bind LastPassage.lane

/-- The lane change of a passage is implausible (R94): a span from a last passage, within the tolerance. -/
def Span.implausible (x : Span) (r : RacePart) (lane : Option Lane) : Bool :=
  x.present && r.last.isSome && x.within && !plausibleOver x.sectors r.lastLane lane

/-- The span race ticks (R94). -/
def spanTicks (l : LastPassage) (c : Capture) : Nat :=
  raceTicksBetween l.capture.time l.capture.neutral c.time c.neutral

/-! ## Tallies -/

/-- A Lap Accounting tally gains 1 (R88). -/
def State.tallyLap (s : State) (f : LapTallies → LapTallies) : State := { s with course.tallies := f s.course.tallies }

/-! ## Jump handling (R121) -/

/-- The passage is a jump (R121). -/
def State.isJump (s : State) (r : RacePart) (c : Capture) : Bool :=
  match s.race.watchStart with
  | some w => decide (c.tag.race = .countdown) && decide ((c.time - w).toNat < 2 ^ 31) && !r.jumpCalled
  | none => false

/-- The jump row of the schedule. -/
def jumpRow : Fin 6 := 0

/-- A countdown passage is offered to jump handling (R121). -/
def State.handleJump (s : State) (x : Passage) : State :=
  match s.car x.code with
  | some y =>
    if s.isJump y.race x.capture then
      let s1 := s.modRace x.code (fun r => { r with jumpCalled := true })
      if s.race.state = .countdown ∧ s.course.settings.jump = .restart then
        (s1.append (.jumpAbort x.code y.number x.point x.lane)).abortToGrid .jump
      else s1.raiseCall jumpRow x.code x.point x.lane
    else s
  | none => s

/-- A countdown passage: last-seen time, crossed-early flag, jump handling (R91). -/
def State.countdownPassage (s : State) (x : Passage) : State :=
  let s1 := s.setLastSeen x.code x.capture.time
  let early := decide (x.point = 0) && decide (s.course.settings.gridPosition = .behindLine)
  let s2 := if early then s1.modRace x.code (fun r => { r with crossedEarly := true }) else s1
  s2.handleJump x

/-- A countdown passage processed after the green moment: when it has just set the crossed-early flag and the car's
lap is CLOSED with no last passage, the lap opens as the green moment opens it (R91, R106). Its lap start takes the
epochs as they stand when the passage is processed (DESIGN CHOICE, notes/assumptions/33.md). -/
def State.lateCountdownPassage (s : State) (x : Passage) : State :=
  let s1 := s.countdownPassage x
  if x.point = 0 ∧ s.course.settings.gridPosition = .behindLine then
    s1.modRace x.code (fun r =>
      if r.lapState = .closed ∧ r.last = none then
        { r with lapState := .openTimed, lapStart := some s1.lineLap }
      else r)
  else s1

/-! ## Stage 1: the phase gate (R90, R91) -/

/-- The capture was made before the session began (R91). -/
def State.isEarly (s : State) (c : Capture) : Bool :=
  (decide (s.race.state = .practice) || s.race.state.racing)
    && (decide (c.tag.race = .idle) || decide (c.tag.race = .grid)
      || (decide (c.tag.race = .practice) && s.race.state.racing) || s.beforeGreen c.time)

/-- The passage is neutral (R91). -/
def State.isNeutral (s : State) (c : Capture) : Bool :=
  decide (s.race.state = .suspended) || decide (c.tag.race = .suspended)

/-- Calls are on (R91). -/
def State.callsOn (s : State) (c : Capture) : Bool :=
  (match s.race.state with
    | .green | .caution | .chequered => true
    | _ => false) && !s.isNeutral c

/-! ## Stage 2: rejoin (R92) -/

/-- A rejoin raises a REJOIN call (R92). -/
def State.rejoinCall (s : State) (r : RacePart) (x : Passage) : Bool :=
  s.callsOn x.capture
    && (match r.last with
      | some l =>
        (match l.lane, x.lane with
          | some a, some b => a != b
          | _, _ => false)
          && decide ((s.course.sectors.getD l.point Sector.initial).laneRule = .closed)
      | none => false)

/-- Stage 2: an IDLE car becomes RUNNING; an OFF_TRACK car rejoins with a notice carrying the IMPLAUSIBLE mark
(R92, R94). -/
def State.rejoin (s : State) (y : Car) (x : Passage) (mark : Bool) : State :=
  match y.race.state with
  | .idle => (s.modRace x.code (fun r => { r with state := .running })).recomputeCar x.code
  | .offTrack =>
    let s1 := s.modRace x.code (fun r => { r with state := .running })
    let flags : Byte := BitVec.ofNat 8 (bitIf mark 64)
    (s1.append (.rejoin x.code y.number x.point x.lane x.origin flags x.capture.merged
      (s.captureMs x.capture))).recomputeCar x.code
  | _ => s

/-! ## Stages 3 and 4: span tallies and checks (R93 to R96) -/

/-- Both lanes are known track lanes and differ. -/
def trackChange (a b : Option Lane) : Bool :=
  match a, b with
  | some a, some b => a != b && isTrack a && isTrack b
  | _, _ => false

/-- The calls stage 4 finds, in the order of R89, by schedule row: LANE 2, CAUTION_LANE 3, CUT 1, PIT_SPEED 4. -/
def State.checks (s : State) (r : RacePart) (sp : Span) (x : Passage) (rejoined : Bool) : List (Fin 6) :=
  match r.last with
  | some l =>
    if sp.within && s.callsOn x.capture then
      let ticks := spanTicks l x.capture
      let change := trackChange l.lane x.lane
      (if !rejoined && change && sp.sectors.all (fun t => decide (t.laneRule = .closed)) then [2] else [])
        ++ (if change && l.capture.tag.underCaution then [3] else [])
        ++ (if !rejoined && decide (ticks < 100 * (sp.sectors.map Sector.minimum).sum) then [1] else [])
        ++ (if !rejoined && decide (l.lane = some pitLane) && decide (x.lane = some pitLane)
              && sp.sectors.all (fun t => decide (t.pitRule = .within))
              && decide (ticks < 100 * (sp.sectors.map Sector.pitMinimum).sum) then [4] else [])
    else []
  | none => []

/-- The calls of a passage are raised in order (R89). -/
def State.raiseAll (s : State) (l : List (Fin 6)) (x : Passage) : State :=
  l.foldl (fun a k => a.raiseCall k x.code x.point x.lane) s

/-! ## Stage 5: laps (R97 to R102) -/

/-- Where point 0 lies in a span. -/
inductive LinePlace where
  | reached | missed | neither
  deriving DecidableEq, Repr

/-- Point 0 reached or missed by a passage at q (R97). -/
def linePlace (sp : Span) (q : Nat) : LinePlace :=
  if q = 0 then .reached else if sp.missed.contains 0 then .missed else .neither

/-- The missed points this lap once the span's are added, stopping at 11 (R97). -/
def missedSum (r : RacePart) (sp : Span) : Nat := min 11 (r.missed + sp.missed.length)

/-- The lap time in ticks, when the lap is timed: point 0 reached within the tolerance with the lap OPEN_TIMED
(R97, R98). -/
def lapTicks (r : RacePart) (sp : Span) (place : LinePlace) (c : Capture) : Option Nat :=
  if place = .reached ∧ sp.within ∧ r.lapState = .openTimed then
    r.lapStart.map (fun l => raceTicksBetween l.time l.neutral c.time c.neutral)
  else none

/-- The flags of a lap counted by this passage (R99). -/
def lapFlagsOf (r : RacePart) (sp : Span) (place : LinePlace) (x : Passage) (neutral mark : Bool)
    (ticks : Option Nat) : LapFlags where
  caution := cautionFlag r.lapStart x.capture.tag
  neutral := neutralFlag r.lapStart x.capture.tag neutral
  missed := decide (place = .missed) || decide (0 < missedSum r sp)
  overMax := match ticks with
    | some t => decide (maxLapMs < t / 100)
    | none => false
  predicted := decide (x.origin = .predicted) || decide (x.origin = .assigned)
  serving := r.serving
  implausible := mark
  timed := ticks.isSome

/-- The lap opened or abandoned at the line by this passage (R97): lap state, lap start and missed points. -/
def RacePart.turnLap (r : RacePart) (sp : Span) (place : LinePlace) (x : Passage) : RacePart :=
  match place with
  | .reached =>
    { r with
      lapState := .openTimed
      lapStart := some ⟨x.capture.time, x.capture.neutral, x.capture.tag⟩
      missed := 0 }
  | .missed => { r with lapState := .openUntimed, lapStart := none, missed := x.point - 1 }
  | .neither => { r with missed := missedSum r sp }

/-- Counted laps, lap times and reference at a counted lap (R100, R101 steps 1 and 2). -/
def RacePart.countLap (r : RacePart) (f : LapFlags) (ticks : Option Nat) (raceMs : Nat) : RacePart :=
  let ms := ticks.map (fun t => min maxLapMs (t / 100))
  let r1 := { r with counted := min 65535 (r.counted + 1), lastCountedMs := raceMs, lastLapMs := ms }
  if f.eligible then
    { r1 with
      bestLapMs := match r.bestLapMs with
        | some b => if ms.getD 0 < b then ms else some b
        | none => ms
      refTicks := ticks }
  else r1

/-- The effective laps of a car. -/
def State.effectiveOf (s : State) (c : Code) : Nat := ((s.car c).map (fun x => x.race.effective)).getD 0

/-- The car finishes (R102). -/
def State.finishCar (s : State) (c : Code) : State :=
  ((s.modRace c (fun r => { r with state := .finished, silence := none })).recordFinish c).recomputeCar c

/-- A lap in GREEN or CAUTION reaches the LAPS limit (R102). -/
def State.lapsLimitHit (s : State) (c : Code) : Bool :=
  (decide (s.race.state = .green) || decide (s.race.state = .caution))
    && decide (s.course.settings.mode = .laps) && decide (s.course.settings.limit ≤ s.effectiveOf c)

/-- The car is RUNNING. -/
def State.isRunning (s : State) (c : Code) : Bool :=
  match s.car c with
  | some x => decide (x.race.state = .running)
  | none => false

/-- Steps 4 and 5 of a counted lap: the finish checks, and the settlement of a car that has just finished
(R101, R102, R155). -/
def State.finishChecks (s : State) (c : Code) : State :=
  if s.isRunning c then
    if s.lapsLimitHit c then ((s.enterChequered).finishCar c).settleCar c .finish
    else if s.race.state = .chequered then (s.finishCar c).settleCar c .finish
    else s
  else s

/-- A counted lap, step by step (R101). The lap state has been turned already. -/
def State.countedLap (s : State) (y : Car) (x : Passage) (f : LapFlags) (ticks : Option Nat) : State :=
  let ms := s.captureMs x.capture
  let s1 := s.modRace x.code (fun r => r.countLap f ticks ms)
  let r1 := ((s1.car x.code).map Car.race).getD RacePart.initial
  let s2 := s1.append (.lap x.code y.number r1.counted r1.effective (r1.lastLapMs.getD 0) f.toByte x.point x.lane
    x.origin x.capture.merged ms)
  let s3 := if s.race.state.racing then s2.resort .lap else s2
  let s4 := s3.finishChecks x.code
  let s5 := if s4.race.state.racing then s4.serveTriggers x.code else s4
  s5.markServing x.code

/-- Stage 5 (R97): what becomes of the lap. -/
def State.stageLaps (s : State) (y : Car) (x : Passage) (sp : Span) (mark : Bool) : State :=
  let r := y.race
  let place := linePlace sp x.point
  let ticks := lapTicks r sp place x.capture
  let flags := lapFlagsOf r sp place x (s.isNeutral x.capture) mark ticks
  let s1 := s.modRace x.code (fun r => r.turnLap sp place x)
  match place with
  | .neither => s1
  | .reached | .missed =>
    if r.lapState = .closed then s1.markServing x.code
    else if sp.within then s1.countedLap y x flags ticks
    else
      ((s1.append (.lostLap x.code y.number x.point sp.missed.length 0 (s.captureMs x.capture))).tallyLap
        (fun t => { t with lost := t.lost + 1 })).markServing x.code

/-! ## Stages 6 and 7 (R103, R104) -/

/-- Stage 6: a serving-point passage (R103). -/
def State.stageServing (s : State) (x : Passage) : State :=
  match s.course.points[x.point]? with
  | some q =>
    if q.serving && s.race.state.racing && (!q.pit || decide (x.lane = some pitLane)) then s.beginStopGo x.code else s
  | none => s

/-- The car serves a STOP_GO. -/
def State.servesStopGo (s : State) (c : Code) : Bool :=
  match s.servingRecord c with
  | some r => decide (r.outcome = .stopGo)
  | none => false

/-- The silence deadline is restarted by this update (R104). -/
def State.updatesSilence (s : State) (r : RacePart) (c : Code) : Bool :=
  decide (r.state = .running) && (decide (s.race.state = .practice) || s.race.state.racing) && !s.servesStopGo c

/-- Stage 7: last passage, last-seen time, silence deadline, and the row when the lane has changed (R104). -/
def State.update (s : State) (x : Passage) : State :=
  match s.car x.code with
  | some y =>
    let lp : LastPassage := ⟨x.point, x.lane, x.capture, s.captureMs x.capture⟩
    let silence := if s.updatesSilence y.race x.code then some (s.raceClock + s.silenceTicks) else y.race.silence
    let s1 := s.modCar x.code (fun z =>
      { z with lastSeen := x.capture.time, race := { z.race with last := some lp, silence := silence } })
    if y.race.last.map LastPassage.lane = some x.lane then s1 else s1.recomputeCar x.code
  | none => s

/-! ## A passage whole (R89) -/

/-- Stages 2 to 7 for a passage that the phase gate lets through. -/
def State.passStages (s : State) (y : Car) (x : Passage) : State :=
  let sp := s.measure y.race x.point
  let mark := sp.implausible y.race x.lane
  let rejoined := decide (y.race.state = .offTrack)
  let calls := (if rejoined && s.rejoinCall y.race x then [5] else []) ++ s.checks y.race sp x rejoined
  let s1 := s.rejoin y x mark
  let s2 := if sp.within then s1 else s1.tallyLap (fun t => { t with relocated := t.relocated + 1 })
  let s3 := if mark then s2.tallyLap (fun t => { t with implausible := t.implausible + 1 }) else s2
  let s4 := s3.raiseAll calls x
  (((s4.stageLaps y x sp mark).stageServing x).update x)

/-- The phase gate and what follows it, before the test of R130 (R90, R91). -/
def State.phaseGate (s : State) (y : Car) (x : Passage) : State :=
  let seen := s.setLastSeen x.code x.capture.time
  if y.race.state = .finished then s.update x
  else if y.race.state = .retired then seen
  else if s.pointCount ≤ x.point then seen.tallyLap (fun t => { t with moved := t.moved + 1 })
  else if (match y.race.last with
      | some l => !s.laterThan x.capture.time l.capture.time
      | none => false) then seen.tallyLap (fun t => { t with late := t.late + 1 })
  else if s.race.state = .countdown then s.countdownPassage x
  else if x.capture.tag.race = .countdown ∧ s.race.state.racing then s.lateCountdownPassage x
  else if s.isEarly x.capture then seen.tallyLap (fun t => { t with early := t.early + 1 })
  else s.passStages y x

/-- Lap Accounting carries a passage record whole, and in CHEQUERED the test of R130 follows (R89, R102, R130). -/
def State.processPassage (s : State) (x : Passage) : State :=
  match s.car x.code with
  | some y => (s.phaseGate y x).doneTest
  | none => s

end Sys2Proof.Machine
end

