-- ==== Sys2Proof/Machine/Operands.lean ====
section
/-! DEFINITION. The operands of a request: fields of its payload, decoded in the order of spec/11's table (R199), and
clamped or refused by what they are (R192). A decoder answers `none` where R199 or the owning rule gives
BAD_ARGUMENT. -/

namespace Sys2Proof.Machine

open Sys2Proof

/-! ## Fields -/

/-- The byte at an offset of the payload. -/
def byteAt (payload : List Byte) (i : Nat) : Byte := payload.getD i 0

/-- A one-byte unsigned field. -/
def natAt (payload : List Byte) (i : Nat) : Nat := (byteAt payload i).toNat

/-- A two-byte unsigned field, least-significant byte first (R198). -/
def wordAt (payload : List Byte) (i : Nat) : Nat := natAt payload i + 256 * natAt payload (i + 1)

/-- A code field. -/
def codeAt (payload : List Byte) (i : Nat) : Code := BitVec.ofNat 16 (wordAt payload i)

/-- A numeric setting is clamped to the nearest end of its range (R192). -/
def clamp (lo hi n : Nat) : Nat := max lo (min hi n)

/-- A signed numeric setting is clamped to its range (R192). -/
def clampInt (lo hi n : Int) : Int := max lo (min hi n)

/-- A yes/no byte other than 0 or 1 is out of range (R199). -/
def boolOf (b : Byte) : Option Bool := if b = 0 then some false else if b = 1 then some true else none

/-- A gate address, 1 to 12. -/
def gateOf (b : Byte) : Option Gate :=
  if h : 1 ≤ b.toNat ∧ b.toNat ≤ 12 then some ⟨b.toNat - 1, by omega⟩ else none

/-- A lane, 1 to 7. -/
def laneOf (b : Byte) : Option Lane :=
  if h : 1 ≤ b.toNat ∧ b.toNat ≤ 7 then some ⟨b.toNat - 1, by omega⟩ else none

/-- A lane mask; bit 7 set is out of range (R199). -/
def maskOf (b : Byte) : Option (BitVec 7) := if b.toNat < 128 then some (b.setWidth 7) else none

/-- An identifier from 1 to 255. -/
def idOf (b : Byte) : Option Nat := if b = 0 then none else some b.toNat

/-- A valid car code (R63). -/
def carCodeOf (payload : List Byte) (i : Nat) : Option Code :=
  if validCode (codeAt payload i) then some (codeAt payload i) else none

/-! ## Enumerations (R200): a byte above the last code is out of range (R199) -/

def raceModeOf (b : Byte) : Option RaceMode :=
  if b = 0 then some .laps else if b = 1 then some .time else none

def gridPositionOf (b : Byte) : Option GridPosition :=
  if b = 0 then some .behindLine else if b = 1 then some .atLine else none

def deslotActionOf (b : Byte) : Option DeslotAction :=
  if b = 0 then some .notice else if b = 1 then some .caution else none

def jumpActionOf (b : Byte) : Option JumpAction :=
  if b = 0 then some .call else if b = 1 then some .restart else none

def laneRuleOf (b : Byte) : Option LaneRule :=
  if b = 0 then some .opened else if b = 1 then some .closed else none

def pitRuleOf (b : Byte) : Option PitRule :=
  if b = 0 then some .none else if b = 1 then some .entry else if b = 2 then some .within
  else if b = 3 then some .exit else none

def outcomeOf (b : Byte) : Option PenaltyOutcome :=
  if b = 0 then some .time else if b = 1 then some .stopGo else if b = 2 then some .driveThrough
  else if b = 3 then some .lockout else if b = 4 then some .lapDeduct else if b = 5 then some .warning else none

def reviewModeOf (b : Byte) : Option ReviewMode :=
  if b = 0 then some .immediate else if b = 1 then some .autoConfirm else if b = 2 then some .autoWaive else none

/-- The row of an automatic kind; MANUAL and bytes above it name no row (R138). -/
def automaticKindOf (b : Byte) : Option (Fin 6) := if h : b.toNat < 6 then some ⟨b.toNat, h⟩ else none

def counterObjectOf (b : Byte) : Option CounterObject :=
  if b = 0 then some .strobes else if b = 1 then some .merged else if b = 2 then some .fetched
  else if b = 3 then some .orphans else if b = 4 then some .blanks else if b = 5 then some .anon
  else if b = 6 then some .strays else if b = 7 then some .suppressed else if b = 8 then some .overflows
  else if b = 9 then some .failures else none

def baseStatusOf (b : Byte) : Option BaseStatus :=
  if b = 0 then some .normal else if b = 1 then some .overload else if b = 2 then some .fault else none

def portOf (b : Byte) : Option PortId := if b = 0 then some .A else if b = 1 then some .B else none

/-! ## Groups of fields -/

/-- An amount clamped to the range of its outcome (R137); an outcome without an amount stores 0. -/
def clampAmount (o : PenaltyOutcome) (n : Nat) : Nat :=
  match o with
  | .time => clamp 1 255 n
  | .lapDeduct => clamp 1 9 n
  | .warning => 0
  | .stopGo => clamp 1 60 n
  | .driveThrough => 0
  | .lockout => clamp 1 9 n

/-- The limit clamped to the range of its mode (R87). -/
def clampLimit (m : RaceMode) (n : Nat) : Nat :=
  match m with
  | .laps => clamp 1 9999 n
  | .time => clamp 60 36000 n

/-- The settings of SET_RACE_SETTINGS (R87). -/
def settingsOf (payload : List Byte) : Option Settings := do
  let mode ← raceModeOf (byteAt payload 0)
  let grid ← gridPositionOf (byteAt payload 4)
  let deslot ← deslotActionOf (byteAt payload 8)
  let jump ← jumpActionOf (byteAt payload 9)
  return {
    mode := mode
    limit := clampLimit mode (wordAt payload 1)
    finishWindow := clamp 5 255 (natAt payload 3)
    gridPosition := grid
    missTolerance := clamp 0 3 (natAt payload 5)
    silenceLimit := clamp 10 255 (natAt payload 6)
    rearm := clamp 1 255 (natAt payload 7)
    deslot := deslot
    jump := jump
    cautionCap := clamp 0 63 (natAt payload 10)
    driveCap := clamp 0 63 (natAt payload 11)
    pitCap := clamp 0 63 (natAt payload 12)
    coolCap := clamp 0 63 (natAt payload 13)
    practiceCap := clamp 0 63 (natAt payload 14)
    laneCount := clamp 2 6 (natAt payload 15) }

/-- Step `i` of SET_START_PROGRAM; a pattern byte with bit 6 set is out of range (R117, R199). Every value of its
durations is in range. -/
def stepOf (payload : List Byte) (i : Nat) : ProgramStep :=
  let b := byteAt payload (4 * i)
  ⟨b.setWidth 6, wordAt payload (4 * i + 1), natAt payload (4 * i + 3), b[7]⟩

/-- A range index, 0 to 15. -/
def stepIndexOf (b : Byte) : Option (Fin 16) := if h : b.toNat < 16 then some ⟨b.toNat, h⟩ else none

/-- The program of SET_START_PROGRAM (R117). -/
def programOf (payload : List Byte) : Option StartProgram := do
  let g0 ← stepIndexOf (byteAt payload 64)
  let g1 ← stepIndexOf (byteAt payload 65)
  let c0 ← stepIndexOf (byteAt payload 66)
  let c1 ← stepIndexOf (byteAt payload 67)
  if (List.range 16).any (fun i => (byteAt payload (4 * i))[6]) || decide (g1 < g0) || decide (c1 < c0) then none
  else
    return {
      steps := #v[stepOf payload 0, stepOf payload 1, stepOf payload 2, stepOf payload 3, stepOf payload 4,
        stepOf payload 5, stepOf payload 6, stepOf payload 7, stepOf payload 8, stepOf payload 9, stepOf payload 10,
        stepOf payload 11, stepOf payload 12, stepOf payload 13, stepOf payload 14, stepOf payload 15]
      g0 := g0
      g1 := g1
      c0 := c0
      c1 := c1 }

/-- The fields of SET_SECTION after its index (R84). -/
def sectorOf (payload : List Byte) : Option Sector := do
  let lane ← laneRuleOf (byteAt payload 1)
  let pit ← pitRuleOf (byteAt payload 2)
  return ⟨lane, pit, wordAt payload 3, clamp 1 65535 (wordAt payload 5), wordAt payload 7⟩

/-- The row of SET_SCHEDULE and its kind (R138). -/
def scheduleRowOf (payload : List Byte) : Option (Fin 6 × ScheduleRow) := do
  let kind ← automaticKindOf (byteAt payload 0)
  let outcome ← outcomeOf (byteAt payload 1)
  let mode ← reviewModeOf (byteAt payload 3)
  return (kind, ⟨outcome, clampAmount outcome (natAt payload 2), mode, natAt payload 4,
    clamp 1 255 (natAt payload 5)⟩)

/-! ## Gate bus replies (R18, R198) -/

/-- A detection of a FETCH reply (R18): lane 1 to 7, code, quality 0 to 3. -/
structure Detection where
  lane : Lane
  code : Code
  quality : Nat
  deriving DecidableEq, Repr

/-- The contents of a reply in range. -/
inductive BusReply where
  | ack
  | reject
  | sensors (n : Nat)
  | detections (overflow : Nat) (dets : List Detection)
  | condition (enabled : Bool) (overflow : Nat)
  deriving DecidableEq, Repr

/-- The detection in these four bytes. -/
def detectionOf : List Byte → Option Detection
  | [l, c0, c1, q] => do
    let lane ← laneOf l
    if q.toNat ≤ 3 then return ⟨lane, codeAt [c0, c1] 0, q.toNat⟩ else none
  | _ => none

/-- `n` detections in exactly these bytes. -/
def detectionsOf : Nat → List Byte → Option (List Detection)
  | 0, [] => some []
  | 0, _ => none
  | n + 1, bytes => do
    let d ← detectionOf (bytes.take 4)
    let ds ← detectionsOf n (bytes.drop 4)
    return d :: ds

/-- The contents of a matching reply, or `none` when they are out of range: a LEN other than the table's for its
result, or a field outside its values (R18, R198). A PROBE reply of REJECT is out of range. -/
def busReplyOf (k : BusKind) (payload : List Byte) : Option BusReply :=
  match k with
  | .probe =>
    match payload with
    | [r, n] => if r = 0 ∧ 2 ≤ n.toNat ∧ n.toNat ≤ 7 then some (.sensors n.toNat) else none
    | _ => none
  | .fetch | .checkFetch =>
    match payload with
    | [r] => if r = 1 then some .reject else none
    | r :: o :: n :: dets =>
      if r = 0 ∧ n.toNat ≤ 4 then (detectionsOf n.toNat dets).map (BusReply.detections o.toNat) else none
    | _ => none
  | .status =>
    match payload with
    | [r] => if r = 1 then some .reject else none
    | [r, e, o] => if r = 0 then (boolOf e).map (fun e => .condition e o.toNat) else none
    | _ => none
  | .setLanes | .setThreshold | .enable | .patternOn | .patternOff =>
    match payload with
    | [r] => if r = 0 then some .ack else if r = 1 then some .reject else none
    | _ => none

end Sys2Proof.Machine
end

