-- ==== Sys2Proof/Machine/Passage.lean ====
section
/-! DEFINITION. The Passage Former (R13, R37 to R58) and what it asks of the Roster: claiming captures, classification,
strays, roster lookup and learning, re-arm suppression, prediction, the unattributed list. -/

namespace Sys2Proof.Machine

open Sys2Proof

/-! ## Lane sensors (R38, R39) -/

/-- Change a lane's sensor state. -/
def State.modLane (s : State) (g : Gate) (l : Lane) (f : LaneSensor → LaneSensor) : State :=
  s.modHead g (fun h => { h with lanes := h.lanes.set l (f h.lanes[l]) })

/-- The detection is anonymous: quality 0, or NOCODE (R38, R41). -/
def Detection.anonymous (d : Detection) : Bool := decide (d.quality = 0) || decide (d.code = 0xFFFF)

/-- Lane-sensor accounting of a detection (R38). -/
def State.senseLane (s : State) (g : Gate) (d : Detection) : State :=
  let old := s.bus.heads[g].lanes[d.lane]
  let quiet := some (s.timer quietTicks)
  if d.anonymous then
    let n := min 16 (old.count + 1)
    let s1 := s.modLane g d.lane (fun x => ⟨n, x.stuck || decide (n = 16), quiet⟩)
    if n = 16 ∧ old.stuck = false then s1.append (.stuck g d.lane true .count) else s1
  else if validCode d.code then
    let s1 := s.modLane g d.lane (fun _ => ⟨0, false, quiet⟩)
    if old.stuck then s1.append (.stuck g d.lane false .coded) else s1
  else s.modLane g d.lane (fun x => { x with quiet := quiet })

/-- A lane cleared: counter 0, flag clear, quiet deadline absent (R39). -/
def LaneSensor.cleared : LaneSensor := ⟨0, false, none⟩

/-- The lanes in increasing order. -/
def allLanes : List Lane := [0, 1, 2, 3, 4, 5, 6]

/-- Every lane of a head is cleared, with a STUCK notice for each lane whose flag was set, in lane order (R39). -/
def State.clearLanes (s : State) (g : Gate) : State :=
  let lanes := s.bus.heads[g].lanes
  let s1 := s.modHead g (fun h => { h with lanes := Vector.replicate 7 LaneSensor.cleared })
  (allLanes.filter (fun l => lanes[l].stuck)).foldl (fun a l => a.append (.stuck g l false .bringUp)) s1

/-! ## Claiming a capture (R13, R40) -/

/-- The Time Base's answer to a detection: a capture of its own, or a SHARED one (second component true), or none.
The last capture is lent only while it is less than 20 ms old. -/
def State.claim (s : State) (g : Gate) : State × Option (Capture × Bool) :=
  let q := s.time.gates[g]
  match q.stack with
  | c :: rest => (s.modGate g (fun x => { x with stack := rest, last := some c }), some (c, false))
  | [] =>
    match q.last with
    | some c => if (s.time.session - c.time).toNat < pairingTicks then (s, some (c, true)) else (s, none)
    | none => (s, none)

/-! ## Tallies -/

/-- A passage tally gains 1 (R57). -/
def State.tallyPassage (s : State) (f : PassageTallies → PassageTallies) : State :=
  { s with former.tallies := f s.former.tallies }

def State.tallyQuiet (s : State) : State := s.tallyPassage (fun t => { t with quiet := t.quiet + 1 })
def State.tallyNoPoint (s : State) : State := s.tallyPassage (fun t => { t with noPoint := t.noPoint + 1 })

/-! ## Strays (R44) -/

/-- A stray: counted in STRAYS, and noticed unless the memory holds its code (R41, R44, R46). -/
def State.strayRead (s : State) (g : Gate) (c : Code) (l : Option Lane) (reason : StrayReason) : State :=
  let s1 := s.countObj g .strays
  if (s1.former.stray.map StrayMemory.code) = some c then s1
  else
    let s2 := s1.append (.stray c g l reason)
    { s2 with former.stray := some ⟨c, s2.timer strayTicks⟩ }

/-! ## Course point and lane (R42, R43) -/

/-- The course point of the active map that uses a gate (R43). -/
def State.pointOf (s : State) (g : Gate) : Option Nat :=
  s.course.points.findIdx? (fun q => decide (q.gate = some g))

/-- The active course map uses the gate (R78). -/
def State.usesGate (s : State) (g : Gate) : Bool := (s.pointOf g).isSome

/-- The lane of a passage is not one the head and the course allow (R42). -/
def State.badLane (s : State) (g : Gate) (l : Lane) : Bool :=
  !s.bus.heads[g].mask.getLsbD l.val
    || (match (s.pointOf g).bind (fun q => s.course.points[q]?) with
      | some q => if isTrack l then decide (s.course.settings.laneCount < l.val + 1) else !q.pit
      | none => false)

/-- The lane check: the lane becomes unknown and BAD_LANE gains 1 (R42). -/
def State.checkLane (s : State) (g : Gate) (l : Lane) : State × Option Lane :=
  if s.badLane g l then (s.tallyPassage (fun t => { t with badLane := t.badLane + 1 }), none) else (s, some l)

/-! ## Roster insertion and learning (R61, R68) -/

/-- Where an insertion of a code that is not in the roster places it (R61). -/
def Roster.place (r : Roster) (c : Code) : Option Slot :=
  if r.codeAt (homeSlot c) = none then some (homeSlot c)
  else overflowSlots.find? (fun i => (r.codeAt i).isNone)

/-- Place a record in a slot. -/
def State.putCar (s : State) (i : Slot) (x : Car) : State :=
  { s with roster.slots := s.roster.slots.set i (some x) }

/-- A learned record (R68). -/
def learnedCar (c : Code) (seen : Time) : Car := ⟨c, none, 0, .learned, seen, false, none, RacePart.initial⟩

/-- Learning asks for an insertion (R68): the state after it, and whether the code was learned. -/
def State.learn (s : State) (c : Code) (seen : Time) : State × Bool :=
  match s.roster.place c with
  | some i =>
    let s1 := s.putCar i (learnedCar c seen)
    ({ s1 with roster.tallyLearned := s1.roster.tallyLearned + 1 }, true)
  | none => ({ s with roster.tallyLearnRefused := s.roster.tallyLearnRefused + 1 }, false)

/-! ## Coded passages (R45 to R47) -/

/-- The car may take passages in the race state (R45). -/
def State.mayTake (s : State) (x : Car) : Bool :=
  match s.race.state with
  | .practice => true
  | .countdown | .green | .caution | .suspended | .chequered => x.entered
  | .idle | .grid | .closed => false

/-- The re-arm time in ticks (R47, R87). -/
def State.rearmTicks (s : State) : Nat := s.course.settings.rearm * tenthTicks

/-- The passage is a re-arm read (R47). -/
def State.isRearm (s : State) (x : Car) (q : Nat) (c : Capture) : Bool :=
  match x.race.last with
  | some l => decide (l.point = q) && decide ((c.time - l.capture.time).toNat < s.rearmTicks)
  | none => false

/-- A passage of a car that may take it: suppressed (R47) or handed to Lap Accounting (R58). -/
def State.handOver (s : State) (g : Gate) (x : Car) (p : Passage) : State :=
  if s.isRearm x p.point p.capture then
    (s.countObj g .suppressed).tallyPassage (fun t => { t with rearmSuppressed := t.rearmSuppressed + 1 })
  else s.processPassage p

/-- A coded passage of a car that may take passages: without a point it ends here (R43). -/
def State.codedOf (s : State) (g : Gate) (x : Car) (l : Option Lane) (c : Capture) (shared : Bool) : State :=
  match s.pointOf g with
  | some q => s.handOver g x ⟨x.code, q, l, c, if shared then .shared else .coded⟩
  | none => (s.setLastSeen x.code c.time).tallyNoPoint

/-- A coded passage whose code the roster holds (R45, R46). -/
def State.knownCar (s : State) (g : Gate) (x : Car) (l : Option Lane) (c : Capture) (shared : Bool) : State :=
  match s.race.state with
  | .idle | .grid | .closed => (s.setLastSeen x.code c.time).tallyQuiet
  | _ =>
    if s.mayTake x then s.codedOf g x l c shared
    else
      ((s.setLastSeen x.code c.time).tallyPassage (fun t => { t with unentered := t.unentered + 1 })).strayRead g
        x.code l .unentered

/-- A coded passage (R43, R45, R46). -/
def State.codedPassage (s : State) (g : Gate) (code : Code) (l : Option Lane) (c : Capture) (shared : Bool) : State :=
  match s.car code with
  | some x => s.knownCar g x l c shared
  | none =>
    if s.race.state = .practice ∧ s.roster.learning = true then
      match s.learn code c.time with
      | (s1, true) => s1.codedOf g (learnedCar code c.time) l c shared
      | (s1, false) => s1.strayRead g code l .learnRefused
    else s.strayRead g code l .unknown

/-! ## Prediction (R48 to R50) -/

/-- The sum of the nominal times of sections, in ms. -/
def nominalSum (l : List Sector) : Nat := (l.map Sector.nominal).sum

/-- The predicted span ticks (R49). -/
def predictedTicks (ref : Option Nat) (spanMs lapMs : Nat) : Nat :=
  match ref with
  | some r => r * spanMs / lapMs
  | none => 100 * spanMs

/-- The window of a predicted span (R49). -/
def windowTicks (predicted : Nat) : Nat := max (predicted / 4) 2000

/-- The distance of a capture from a predicted time (R49). -/
def circularDistance (a b : Time) : Nat :=
  if (a - b).toNat < 2 ^ 31 then (a - b).toNat else 2 ^ 32 - (a - b).toNat

/-- The car is a candidate for the passage (R48). -/
def State.isCandidate (s : State) (x : Car) (q : Nat) (lane : Option Lane) (c : Capture) : Bool :=
  match x.race.last with
  | some l =>
    s.mayTake x && decide (x.race.state = .running) && s.laterThan c.time l.capture.time
      && decide (spanLength s.pointCount l.point q ≤ s.course.settings.missTolerance + 1)
      && plausibleOver (s.spanSectors l.point q) l.lane lane
  | none => false

/-- The distance of a qualifying candidate (R49). -/
def State.candidateDistance (s : State) (x : Car) (q : Nat) (lane : Option Lane) (c : Capture) : Option Nat :=
  match x.race.last with
  | some l =>
    if s.isCandidate x q lane c then
      let ticks := predictedTicks x.race.refTicks (nominalSum (s.spanSectors l.point q)) (nominalSum s.course.sectors)
      let time := l.capture.time + BitVec.ofNat 32 ticks + (c.neutral - l.capture.neutral)
      let d := circularDistance c.time time
      if d ≤ windowTicks ticks then some d else none
    else none
  | none => none

/-- The qualifying candidates with their distances. -/
def State.candidates (s : State) (q : Nat) (lane : Option Lane) (c : Capture) : List (Car × Nat) :=
  s.cars.filterMap (fun x => (s.candidateDistance x q lane c).map (fun d => (x, d)))

/-- The single nearest qualifying candidate (R50). -/
def nearest (l : List (Car × Nat)) : Option Car :=
  match l.filter (fun a => l.all (fun b => decide (a.2 ≤ b.2))) with
  | [a] => some a.1
  | _ => none

/-! ## The unattributed list (R51 to R53) -/

/-- Ms left to a record's expiry. -/
def State.unattrMsLeft (s : State) (r : Unattr) : Nat := r.expiry.left s.time.session / 100

/-- The record with an id. -/
def State.unattr (s : State) (id : Nat) : Option Unattr := s.former.list.find? (fun r => r.id == id)

/-- A record leaves the list with its UNATTRIBUTED_GONE notice. -/
def State.dropUnattr (s : State) (r : Unattr) (reason : GoneReason) (code : Code) : State :=
  ({ s with former.list := s.former.list.filter (fun x => x.id != r.id) }).append
    (.unattributedGone r.id r.origin reason code)

/-- Room for a joining record: a list of 8 first loses its earliest (R52). The list keeps the order its joins made,
also when the green origin has moved since, and its first record counts as the earliest (DESIGN CHOICE,
notes/assumptions/32.md). -/
def State.makeUnattrRoom (s : State) : State :=
  if s.former.list.length < 8 then s
  else
    match s.former.list with
    | r :: _ => (s.dropUnattr r .dropped 0).tallyPassage (fun t => { t with dropped := t.dropped + 1 })
    | [] => s

/-- A passage joins the list (R51). -/
def State.joinUnattr (s : State) (g : Gate) (q : Nat) (lane : Option Lane) (c : Capture) (o : UnattrOrigin) : State :=
  let s1 := s.makeUnattrRoom
  let id := freeId (s1.former.list.map Unattr.id) s1.former.nextId
  let r : Unattr := ⟨id, g, q, lane, c, s1.captureMs c, o, ⟨c.time, unattrTicks⟩⟩
  let s2 : State := { s1 with
    former.list := insertBy (fun a b => s1.laterThan b.capture.time a.capture.time) r s1.former.list
    former.nextId := nextIdAfter id }
  (s2.append (.unattributed r (s2.unattrMsLeft r))).tallyPassage (fun t => { t with joined := t.joined + 1 })

/-! ## Anonymous passages and BLANKs (R43, R45, R50) -/

/-- Attribution by prediction, or the unattributed list (R50). -/
def State.predict (s : State) (g : Gate) (q : Nat) (lane : Option Lane) (c : Capture) (o : UnattrOrigin) : State :=
  match nearest (s.candidates q lane c) with
  | some x =>
    (s.tallyPassage (fun t => { t with predicted := t.predicted + 1 })).handOver g x ⟨x.code, q, lane, c, .predicted⟩
  | none => s.joinUnattr g q lane c o

/-- An ANON passage or a BLANK (R43, R45, R48). -/
def State.anonPassage (s : State) (g : Gate) (lane : Option Lane) (c : Capture) (o : UnattrOrigin) : State :=
  match s.pointOf g with
  | none => s.tallyNoPoint
  | some q =>
    match s.race.state with
    | .idle | .grid | .countdown | .closed => s.tallyQuiet
    | .practice | .green | .caution | .suspended | .chequered => s.predict g q lane c o

/-! ## A detection whole (R37, R40, R41) -/

/-- An anonymous detection with its capture: the two tests of R41, then the ANON passage. -/
def State.anonDetection (s : State) (g : Gate) (d : Detection) (c : Capture) (shared : Bool) : State :=
  let s1 := s.countObj g .anon
  if s1.bus.heads[g].lanes[d.lane].stuck then
    (s1.countObj g .suppressed).tallyPassage (fun t => { t with stuckSuppressed := t.stuckSuppressed + 1 })
  else if shared then
    (s1.countObj g .suppressed).tallyPassage (fun t => { t with sharedAnon := t.sharedAnon + 1 })
  else
    let (s2, lane) := s1.checkLane g d.lane
    s2.anonPassage g lane c .anon

/-- Classification of a detection that has a capture (R41). -/
def State.classify (s : State) (g : Gate) (d : Detection) (c : Capture) (shared : Bool) : State :=
  if d.anonymous then s.anonDetection g d c shared
  else if validCode d.code then
    let (s1, lane) := s.checkLane g d.lane
    s1.codedPassage g d.code lane c shared
  else s.strayRead g d.code (some d.lane) .reserved

/-- A detection of a FETCH reply taken in READY, from lane accounting to its end (R37). -/
def State.takeDetection (s : State) (g : Gate) (d : Detection) : State :=
  let s1 := s.senseLane g d
  match s1.claim g with
  | (s2, some (c, shared)) => s2.classify g d c shared
  | (s2, none) => (s2.countObj g .orphans).tallyPassage (fun t => { t with orphaned := t.orphaned + 1 })

end Sys2Proof.Machine
end

