-- ==== Sys2Proof/Machine/Bus.lean ====
section
/-! DEFINITION. The Gate Bus Controller's shared operations (R17 to R34): the service queue, changes of head state,
the arbiter, failed attempts and transactions, and what each kind of completed transaction does. -/

namespace Sys2Proof.Machine

open Sys2Proof

/-! ## The service queue and the line (R30, R31) -/

/-- An entry joins the service queue at its newest end (R31). -/
def State.joinQueue (s : State) (g : Gate) (k : BusKind) : State :=
  { s with bus.queue := s.bus.queue ++ [⟨g, k⟩] }

/-- The head's entry in the service queue is removed (R31). -/
def State.dropEntries (s : State) (g : Gate) : State :=
  { s with bus.queue := s.bus.queue.filter (fun e => e.gate != g) }

/-- The outcome of the head's transaction on the line will be discarded (R30). A FETCH of the fetch class is spared
unless `fetchToo`: at a change of head state it is governed by R27, at SET_GATE and REMOVE_GATE by R30. -/
def State.discardLine (s : State) (g : Gate) (fetchToo : Bool) : State :=
  match s.bus.line with
  | some t =>
    if t.gate = g ∧ (fetchToo = true ∨ t.kind ≠ .fetch) then
      { s with bus.line := some { t with discarded := true } }
    else s
  | none => s

/-- The line falls free (R17). -/
def State.freeLine (s : State) : State := { s with bus.line := none }

/-- A transaction of this head and kind is in the service queue or on the line. -/
def State.busHas (s : State) (g : Gate) (k : BusKind) : Bool :=
  s.bus.queue.contains ⟨g, k⟩
    || (match s.bus.line with
      | some t => decide (t.gate = g) && decide (t.kind = k)
      | none => false)

/-! ## Changes of head state (R20 to R29, R31) -/

/-- The service entry a head state begins with (R21, R22, R23, R33). -/
def HeadState.firstEntry : HeadState → Option BusKind
  | .probing => some .probe
  | .setup => some .setLanes
  | .pattern => some .patternOn
  | _ => none

/-- A head record in a new state: its reason, the one timer the state uses, the fetch-pending flag and the reject
count (R23, R24, R25, R26, R28). -/
def Head.entered (h : Head) (st : HeadState) (reason : GateReason) (now : Time) : Head :=
  { h with
    state := st
    reason := some reason
    settle := if st = .settling then some ⟨now, settleTicks⟩ else none
    poll := if st = .ready then some ⟨now, pollTicks⟩ else none
    faultProbe := if st = .fault then some ⟨now, faultProbeTicks⟩ else none
    fetchPending := match st with
      | .settling => true
      | .ready => h.fetchPending
      | _ => false
    rejects := match st with
      | .setup | .settling => 0
      | _ => h.rejects }

/-- A change of a head's state (R20, R31): the head's entry leaves the queue, the record changes, the GATE notice is
appended, the lanes are cleared at an entry to SETUP (R23, R39), and the entry the new state requires joins. -/
def State.enterHead (s : State) (g : Gate) (st : HeadState) (reason : GateReason) : State :=
  let s1 := (s.dropEntries g).discardLine g false
  let s2 := (s1.modHead g (fun h => h.entered st reason s.time.session)).append (.gate g st reason)
  let s3 := if st = .setup then s2.clearLanes g else s2
  match st.firstEntry with
  | some k => s3.joinQueue g k
  | none => s3

/-! ## The arbiter (R32) -/

/-- The gate is in the fetch class. -/
def State.inFetchClass (s : State) (g : Gate) : Bool :=
  s.bus.heads[g].fetchPending
    && (decide (s.bus.heads[g].state = .ready) || decide (s.bus.heads[g].state = .settling))

/-- The addresses from the one after the pointer round to the pointer's own. -/
def gatesAfter (p : Gate) : List Gate :=
  (List.range 12).map (fun k => ⟨(p.val + 1 + k) % 12, by omega⟩)

/-- The next fetch gate. -/
def State.nextFetch (s : State) : Option Gate := (gatesAfter s.bus.pointer).find? s.inFetchClass

/-- A transaction is placed on the line: its command frame is sent. -/
def State.place (s : State) (g : Gate) (k : BusKind) : State :=
  { s with bus.line := some ⟨g, k, commandFrame g k s.bus.heads[g], false, none, false⟩ }

/-- A FETCH of the fetch class is placed. -/
def State.placeFetch (s : State) (g : Gate) : State :=
  let s1 := s.place g .fetch
  { s1 with bus.pointer := g, bus.runCount := min 4 (s.bus.runCount + 1) }

/-- The oldest service entry is placed. -/
def State.placeService (s : State) (e : ServiceEntry) (rest : List ServiceEntry) : State :=
  let s1 := s.place e.gate e.kind
  { s1 with bus.queue := rest, bus.runCount := 0 }

/-- The arbiter's choice while the line is idle (R32). -/
def State.arbitrate (s : State) : State :=
  match s.bus.line with
  | some _ => s
  | none =>
    match s.nextFetch, s.bus.queue with
    | some g, [] => s.placeFetch g
    | some g, e :: rest => if s.bus.runCount < 4 then s.placeFetch g else s.placeService e rest
    | none, e :: rest => s.placeService e rest
    | none, [] => s

/-- A gate bus event ends: the arbiter chooses, then the transmitters. -/
def State.busSettled (s : State) : State := s.arbitrate.transmit

/-! ## The gate check (R33, R34) -/

/-- The number of check FETCHes. -/
def checkFetches : Nat := 16

/-- The kinds a gate check is made of. -/
def BusKind.ofCheck : BusKind → Bool
  | .patternOn | .checkFetch | .patternOff => true
  | _ => false

/-- Change the running check of a gate. -/
def State.modCheck (s : State) (g : Gate) (f : GateCheck → GateCheck) : State :=
  { s with bus.check := s.bus.check.map (fun c => if c.gate = g then f c else c) }

/-- The next entry of a running check after a check FETCH: another one, or PATTERN_OFF at 16. -/
def State.joinNextCheck (s : State) (g : Gate) : State :=
  match s.bus.check with
  | some c => if c.gate = g ∧ checkFetches ≤ c.fetches then s.joinQueue g .patternOff else s.joinQueue g .checkFetch
  | none => s

/-- The KIND of GATE_CHECK. -/
def kindGateCheck : Byte := 0x15

/-- A check on the gate ends with the deferred reply to port A (R34). -/
def State.endCheck (s : State) (g : Gate) : State :=
  match s.bus.check with
  | some c =>
    if c.gate = g then
      ({ s with bus.check := none }).putReply .A
        (replyFrame kindGateCheck c.tag
          ⟨.ok, u8 c.mismatches ++ u8 c.failed ++ u8 (s.bus.heads[g].state.toCode)⟩)
    else s
  | none => s

/-- The expected set of a check FETCH: each lane of the mask once, with code 0xF000 + L and quality 3, and nothing
else (R33). -/
def expectedSet (mask : BitVec 7) (dets : List Detection) : Bool :=
  allLanes.all (fun l => (dets.countP (fun d => decide (d.lane = l))) == (if mask.getLsbD l.val then 1 else 0))
    && dets.all (fun d => decide (d.code = BitVec.ofNat 16 (0xF000 + d.lane.val + 1)) && decide (d.quality = 3))

/-! ## Failed attempts and transactions (R19) -/

/-- What joins the queue after a failed transaction that does not fault the head (R22, R23, R33). -/
def State.requeue (s : State) (g : Gate) (k : BusKind) : State :=
  match s.bus.heads[g].state, k with
  | .probing, .probe => s.joinQueue g .probe
  | .setup, .setLanes => s.joinQueue g .setLanes
  | .setup, .setThreshold => s.joinQueue g .setThreshold
  | .setup, .enable => s.joinQueue g .enable
  | .pattern, .patternOn => s.joinQueue g .patternOn
  | .pattern, .patternOff => s.joinQueue g .patternOff
  | .pattern, .checkFetch => s.joinNextCheck g
  | _, _ => s

/-- The counts of a running check at a failed transaction of it (R33). -/
def GateCheck.failedOne (k : BusKind) (c : GateCheck) : GateCheck :=
  { c with failed := c.failed + 1, fetches := if k = .checkFetch then c.fetches + 1 else c.fetches }

/-- A failed transaction counted against its head (R19, R28, R33). -/
def State.failedTransaction (s : State) (g : Gate) (k : BusKind) : State :=
  let old := s.bus.heads[g]
  let n := min 3 (old.failures + 1)
  let s1 := (s.modHead g (fun h => { h with failures := n })).countObj g .failures
  let s2 := if k.ofCheck then s1.modCheck g (GateCheck.failedOne k) else s1
  if n = 3 ∧ old.state ≠ .fault then (s2.enterHead g .fault .noReply).endCheck g
  else s2.requeue g k

/-- The open attempt fails (R19): the command is sent again, or the transaction has failed. -/
def State.attemptFailed (s : State) : State :=
  match s.bus.line with
  | none => s
  | some t =>
    if t.second then
      (if t.discarded then s.freeLine else s.freeLine.failedTransaction t.gate t.kind).busSettled
    else { s with bus.line := some { t with second := true, wait := none } }

/-! ## Completed transactions (R17 to R19, R30) -/

/-- A reply of this head and kind arrives. With that transaction open it fails the attempt when its contents are out
of range; otherwise the line falls free and, unless the outcome is discarded, the failure count becomes 0 and the
outcome is handled. It does nothing when no such transaction is open (R17). -/
def State.busReply (s : State) (g : Gate) (k : BusKind) (payload : List Byte) (handle : State → BusReply → State) :
    State :=
  match s.bus.line with
  | some t =>
    if t.gate = g ∧ t.kind = k then
      match busReplyOf k payload with
      | none => s.attemptFailed
      | some r =>
        (if t.discarded then s.freeLine
        else handle (s.freeLine.modHead g (fun h => { h with failures := 0 })) r).busSettled
    else s
  | none => s

/-- The lanes of a mask. -/
def laneCountOf (mask : BitVec 7) : Nat := allLanes.countP (fun l => mask.getLsbD l.val)

/-- A PROBE reply (R22, R28). -/
def State.probeDone (g : Gate) (s : State) (r : BusReply) : State :=
  match r with
  | .sensors n =>
    let h := s.bus.heads[g]
    let s1 := s.modHead g (fun h => { h with sensors := some n })
    match h.state with
    | .probing =>
      if laneCountOf h.mask ≤ n then s1.enterHead g .setup .probed else s1.enterHead g .fault .capacity
    | .fault => if laneCountOf h.mask ≤ n then s1.enterHead g .setup .recovered else s1
    | _ => s
  | _ => s

/-- A setup write answered REJECT (R23). -/
def State.writeRejected (s : State) (g : Gate) : State :=
  let n := min 3 (s.bus.heads[g].rejects + 1)
  let s1 := s.modHead g (fun h => { h with rejects := n })
  if n = 3 then s1.enterHead g .fault .rejected else s1.joinQueue g .setLanes

/-- A setup write's reply: what an acknowledgement does, or the REJECT rule (R23). -/
def State.writeDone (g : Gate) (onAck : State → State) (s : State) (r : BusReply) : State :=
  match r with
  | .ack => onAck s
  | .reject => s.writeRejected g
  | _ => s

/-- The head has lost its configuration (R24, R25, R33). -/
def State.headReset (s : State) (g : Gate) : State := s.enterHead g .setup .headReset

/-- A STATUS reply (R25). -/
def State.statusDone (g : Gate) (s : State) (r : BusReply) : State :=
  match r with
  | .condition true n => s.modHead g (fun h => { h with overflow := n })
  | .condition false _ => s.headReset g
  | .reject => s.headReset g
  | _ => s

/-- The fetch-pending flag after a FETCH of `n` detections has been handled (R24, R26). It is cleared as R26 says also
when a new edge has set it during the FETCH and the detections took the capture of that edge too (DEDUCED,
notes/assumptions/36.md). -/
def State.settleFlag (s : State) (g : Gate) (n : Nat) : State :=
  if n < 4 ∧ s.time.gates[g].stack = [] then s.modHead g (fun h => { h with fetchPending := false }) else s

/-- The reply of a fetch-class FETCH, by the state of the head when it is taken (R24, R26, R27). -/
def State.fetchDone (g : Gate) (s : State) (r : BusReply) : State :=
  match s.bus.heads[g].state, r with
  | .ready, .detections overflow dets =>
    let s1 := (s.countBy g .fetched dets.length).countBy g .overflows overflow
    (dets.foldl (fun a d => a.takeDetection g d) s1).settleFlag g dets.length
  | .settling, .detections _ dets => s.settleFlag g dets.length
  | .ready, .reject => s.headReset g
  | .settling, .reject => s.headReset g
  | _, _ => s

/-- A REJECT ends the gate check (R34). -/
def State.checkRejected (s : State) (g : Gate) : State := (s.headReset g).endCheck g

/-- A PATTERN_ON reply (R33). -/
def State.patternOnDone (g : Gate) (s : State) (r : BusReply) : State :=
  match r with
  | .ack => s.joinQueue g .checkFetch
  | .reject => s.checkRejected g
  | _ => s

/-- A check FETCH reply (R33). A REJECT ends the check and does not raise the mismatch count (DESIGN CHOICE,
notes/assumptions/34.md). -/
def State.checkFetchDone (g : Gate) (s : State) (r : BusReply) : State :=
  match r with
  | .detections _ dets =>
    let wrong := !expectedSet s.bus.heads[g].mask dets
    (s.modCheck g (fun c =>
      { c with fetches := c.fetches + 1, mismatches := if wrong then c.mismatches + 1 else c.mismatches })).joinNextCheck g
  | .reject => s.checkRejected g
  | _ => s

/-- A PATTERN_OFF reply (R33, R34). -/
def State.patternOffDone (g : Gate) (s : State) (r : BusReply) : State :=
  match r with
  | .ack => (s.enterHead g .settling .checkEnd).endCheck g
  | .reject => s.checkRejected g
  | _ => s

/-! ## Head timers (R24, R25, R28) -/

/-- A periodic service entry joins unless one of its head is in the queue or on the line. -/
def State.joinPeriodic (s : State) (g : Gate) (k : BusKind) : State := if s.busHas g k then s else s.joinQueue g k

end Sys2Proof.Machine
end

