-- ==== Sys2Proof/Machine/Attribution.lean ====
section
/-! DEFINITION. The events and requests of the Passage Former (R38, R39, R44, R53 to R55). -/

namespace Sys2Proof.Machine

open Sys2Proof

/-- QUIET_DEADLINE (R38): the stuck counter becomes 0 and the deadline absent; the flag stays. -/
def execQuietDeadline (g : Gate) (l : Lane) (s : State) : Host.Outcome State Fault Refusal :=
  .next
    (if timerDue s.bus.heads[g].lanes[l].quiet s.time.session then
      s.modLane g l (fun x => { x with count := 0, quiet := none })
    else s)

/-- STRAY_MEMORY_LAPSE (R44). -/
def execStrayMemoryLapse (s : State) : Host.Outcome State Fault Refusal :=
  .next
    (match s.former.stray with
    | some m => if m.lapse.due s.time.session then { s with former.stray := none } else s
    | none => s)

/-- UNATTRIBUTED_EXPIRY (R53). -/
def execUnattributedExpiry (id : Nat) (s : State) : Host.Outcome State Fault Refusal :=
  .next
    (match s.unattr id with
    | some r =>
      if r.expiry.due s.time.session then
        ((s.dropUnattr r .expired 0).tallyPassage (fun t => { t with expired := t.expired + 1 })).transmit
      else s
    | none => s)

/-! ## CLEAR_STUCK (R39) -/

/-- CLEAR_STUCK taken for a gate and a lane. -/
def State.clearStuck (s : State) (g : Gate) (l : Lane) : Served :=
  if s.bus.heads[g].lanes[l].stuck then
    ok [] ((s.modLane g l (fun _ => LaneSensor.cleared)).append (.stuck g l false .request))
  else refuse .already s

/-- CLEAR_STUCK (R39). -/
def execClearStuck (p : PortId) (tag : Byte) (payload : List Byte) (s : State) : Host.Outcome State Fault Refusal :=
  s.serve p 0x18 tag payload true 2 fun s =>
    match gateOf (byteAt payload 0), laneOf (byteAt payload 1) with
    | some g, some l => s.clearStuck g l
    | _, _ => refuse .badArgument s

/-! ## ASSIGN and DISCARD (R54, R55) -/

/-- ASSIGN is legal in the race state (R54). -/
def RaceState.assignable : RaceState → Bool
  | .practice | .green | .caution | .suspended | .chequered => true
  | .idle | .grid | .countdown | .closed => false

/-- The car may be named by an ASSIGN (R54). -/
def State.mayAssign (s : State) (x : Car) : Bool :=
  s.mayTake x && (decide (x.race.state = .running) || decide (x.race.state = .offTrack))

/-- The car has a passage later than the record (R54). -/
def State.isStale (s : State) (x : Car) (r : Unattr) : Bool :=
  match x.race.last with
  | some l => s.laterThan l.capture.time r.capture.time
  | none => false

/-- An accepted ASSIGN: the record is resolved and its passage is processed (R54). -/
def State.assignTo (s : State) (r : Unattr) (code : Code) : State :=
  ((s.dropUnattr r .assigned code).tallyPassage (fun t => { t with assigned := t.assigned + 1 })).processPassage
    ⟨code, r.point, r.lane, r.capture, .assigned⟩

/-- Checks 2 to 5 of ASSIGN. -/
def State.assign (s : State) (id : Nat) (code : Code) : Served :=
  if s.race.state.assignable then
    match s.unattr id, s.car code with
    | some r, some x =>
      if s.mayAssign x then
        if s.isStale x r then refuse .stale s else ok [] (s.assignTo r code)
      else refuse .notFound s
    | _, _ => refuse .notFound s
  else refuse .refusedState s

/-- ASSIGN (R54). -/
def execAssign (p : PortId) (tag : Byte) (payload : List Byte) (s : State) : Host.Outcome State Fault Refusal :=
  s.serve p 0x22 tag payload false 3 fun s =>
    match idOf (byteAt payload 0), carCodeOf payload 1 with
    | some id, some code => s.assign id code
    | _, _ => refuse .badArgument s

/-- DISCARD taken for an id (R55). -/
def State.discard (s : State) (id : Nat) : Served :=
  match s.unattr id with
  | some r =>
    ok [] ((s.dropUnattr r .discarded 0).tallyPassage (fun t => { t with discarded := t.discarded + 1 }))
  | none => refuse .notFound s

/-- DISCARD (R55). -/
def execDiscard (p : PortId) (tag : Byte) (payload : List Byte) (s : State) : Host.Outcome State Fault Refusal :=
  s.serve p 0x23 tag payload false 1 fun s =>
    match idOf (byteAt payload 0) with
    | some id => s.discard id
    | none => refuse .badArgument s

end Sys2Proof.Machine
end

