-- ==== Sys2Proof/Machine/BusEvents.lean ====
section
/-! DEFINITION. The events of the Gate Bus Controller (R17 to R34): replies of each transaction kind, failed attempts,
the end of a command, the timers of a head. -/

namespace Sys2Proof.Machine

open Sys2Proof

/-- ATTEMPT_TIMEOUT (R19): no matching reply 0.5 ms after the last byte of the command. -/
def execAttemptTimeout (s : State) : Host.Outcome State Fault Refusal :=
  .next
    (match s.bus.line with
    | some t => if timerDue t.wait s.time.session then s.attemptFailed else s
    | none => s)

/-- GATE_BUS_UNMATCHED_FRAME (R17, R198): discarded without effect; an open attempt goes on waiting. -/
def execGateBusUnmatchedFrame (_tag _kind : Byte) (_payload : List Byte) (s : State) :
    Host.Outcome State Fault Refusal :=
  .next s

/-- PROBE (R22, R28). -/
def execProbe (g : Gate) (payload : List Byte) (s : State) : Host.Outcome State Fault Refusal :=
  .next (s.busReply g .probe payload (State.probeDone g))

/-- SET_LANES (R23). -/
def execSetLanes (g : Gate) (payload : List Byte) (s : State) : Host.Outcome State Fault Refusal :=
  .next (s.busReply g .setLanes payload (State.writeDone g (fun a => a.joinQueue g .setThreshold)))

/-- SET_THRESHOLD (R23). -/
def execSetThreshold (g : Gate) (payload : List Byte) (s : State) : Host.Outcome State Fault Refusal :=
  .next (s.busReply g .setThreshold payload (State.writeDone g (fun a => a.joinQueue g .enable)))

/-- ENABLE (R23, R24). -/
def execEnable (g : Gate) (payload : List Byte) (s : State) : Host.Outcome State Fault Refusal :=
  .next (s.busReply g .enable payload (State.writeDone g (fun a => a.enterHead g .settling .enabled)))

/-- FETCH (R24, R26, R27). -/
def execFetch (g : Gate) (payload : List Byte) (s : State) : Host.Outcome State Fault Refusal :=
  .next (s.busReply g .fetch payload (State.fetchDone g))

/-- STATUS (R25). -/
def execStatus (g : Gate) (payload : List Byte) (s : State) : Host.Outcome State Fault Refusal :=
  .next (s.busReply g .status payload (State.statusDone g))

/-- PATTERN_ON (R33). -/
def execPatternOn (g : Gate) (payload : List Byte) (s : State) : Host.Outcome State Fault Refusal :=
  .next (s.busReply g .patternOn payload (State.patternOnDone g))

/-- CHECK_FETCH (R33). -/
def execCheckFetch (g : Gate) (payload : List Byte) (s : State) : Host.Outcome State Fault Refusal :=
  .next (s.busReply g .checkFetch payload (State.checkFetchDone g))

/-- PATTERN_OFF (R33, R34). -/
def execPatternOff (g : Gate) (payload : List Byte) (s : State) : Host.Outcome State Fault Refusal :=
  .next (s.busReply g .patternOff payload (State.patternOffDone g))

/-- SETTLE_DEADLINE (R24). -/
def execSettleDeadline (g : Gate) (s : State) : Host.Outcome State Fault Refusal :=
  .next (if timerDue s.bus.heads[g].settle s.time.session then (s.enterHead g .ready .settled).busSettled else s)

/-- STATUS_POLL_TIMER (R25): the next period starts, and a STATUS joins unless one waits already. -/
def execStatusPollTimer (g : Gate) (s : State) : Host.Outcome State Fault Refusal :=
  .next
    (if timerDue s.bus.heads[g].poll s.time.session then
      ((s.modHead g (fun h => { h with poll := some (s.timer pollTicks) })).joinPeriodic g .status).busSettled
    else s)

/-- FAULT_PROBE_TIMER (R28): the next period starts, and a PROBE joins unless one waits already. -/
def execFaultProbeTimer (g : Gate) (s : State) : Host.Outcome State Fault Refusal :=
  .next
    (if timerDue s.bus.heads[g].faultProbe s.time.session then
      ((s.modHead g (fun h => { h with faultProbe := some (s.timer faultProbeTicks) })).joinPeriodic g
        .probe).busSettled
    else s)

/-- BAD_SUM_REPLY (R19, R198): a frame with a bad SUM ends the open attempt as failed. -/
def execBadSumReply (s : State) : Host.Outcome State Fault Refusal := .next s.attemptFailed

/-- COMMAND_SENT (R19): the wait of 0.5 ms begins at the last byte of the command. -/
def execCommandSent (s : State) : Host.Outcome State Fault Refusal :=
  .next
    (match s.bus.line with
    | some t =>
      if t.wait = none then { s with bus.line := some { t with wait := some (s.timer attemptTicks) } } else s
    | none => s)

end Sys2Proof.Machine
end

