-- ==== Sys2Proof/Machine/Capture.lean ====
section
/-! DEFINITION. The commands of the Time Base and Capture Unit (R1, R10 to R16): hard reset, the tick, strobe edges and
the three lapses of a gate. -/

namespace Sys2Proof.Machine

open Sys2Proof

/-- HARD_RESET (R1, R184 and every block's reset table): the machine after reset, each port at the rate its strap
selects; the waiting commands stay. -/
def execHardReset (strapA strapB : Bool) (s : State) : Host.Outcome State Fault Refusal :=
  .next { State.reset with portA := Port.reset strapA, portB := Port.reset strapB, pending := s.pending }

/-- TICK (R1, R10, R16): the session clock and the random source step, and the strobe inputs are sampled. An edge not
taken before the next tick is gone (notes/assumptions/6.md). -/
def execTick (strobes : BitVec 12) (s : State) : Host.Outcome State Fault Refusal :=
  .next { s with
    time.session := s.time.session + 1
    time.rng := lfsrStep s.time.rng
    time.edges := strobes &&& ~~~s.time.strobePrev
    time.strobePrev := strobes }

/-! ## Strobe edges (R10 to R12) -/

/-- A capture with one more merged edge, saturating at 15 (R11). -/
def Capture.merged1 (c : Capture) : Capture := { c with merged := min 15 (c.merged + 1) }

/-- The list with its newest (last) capture changed. -/
def mergeNewest : List Capture → List Capture
  | [] => []
  | [c] => [c.merged1]
  | c :: d :: rest => c :: mergeNewest (d :: rest)

/-- A merged edge goes to the newest capture of the stack, or else to the last capture (R11). -/
def GateCapture.mergeEdge (q : GateCapture) : GateCapture :=
  match q.stack with
  | [] => { q with last := q.last.map Capture.merged1 }
  | _ :: _ => { q with stack := mergeNewest q.stack }

/-- The guard interval in ticks (R11). -/
def GateCapture.guardLen (q : GateCapture) : Nat := q.guardUnits * guardTicks

/-- An edge now falls inside the guard interval (R11). -/
def GateCapture.guarded (q : GateCapture) (now : Time) : Bool :=
  match q.guardRef with
  | some r => decide ((now - r).toNat < q.guardLen)
  | none => false

/-- A gate's capture stack holds at most this many captures (R12). -/
def stackLimit : Nat := 4

/-- An edge that passes the guard interval (R12): accepted, or lost at a full stack. -/
def State.stackEdge (s : State) (g : Gate) : State :=
  if s.time.gates[g].stack.length < stackLimit then
    (s.modGate g (fun q => { q with stack := q.stack ++ [s.newCapture], guardRef := some s.time.session })).modHead g
      (fun h => { h with fetchPending := true })
  else s.countObj g .overflows

/-- An edge offered to the guard interval (R10, R11). -/
def State.offerEdge (s : State) (g : Gate) : State :=
  let s1 := s.countObj g .strobes
  if s1.time.gates[g].guarded s1.time.session then (s1.modGate g GateCapture.mergeEdge).countObj g .merged
  else s1.stackEdge g

/-- The recognised edge of a gate is taken. -/
def State.dropEdge (s : State) (g : Gate) : State :=
  { s with time.edges := s.time.edges &&& ~~~(1#12 <<< g.val) }

/-- A rising edge by the state of the gate's head (R10). -/
def State.takeEdge (s : State) (g : Gate) : State :=
  match s.bus.heads[g].state with
  | .ready => if s.usesGate g || decide (s.race.state = .practice) then (s.offerEdge g).busSettled else s
  | .settling | .pattern => s.countObj g .strobes
  | .off | .probing | .setup | .fault => s

/-- STROBE_EDGE (R10): nothing when no edge of the gate was recognised at this tick. -/
def execStrobeEdge (g : Gate) (s : State) : Host.Outcome State Fault Refusal :=
  .next (if s.time.edges.getLsbD g.val then (s.dropEdge g).takeEdge g else s)

/-! ## Lapses (R11, R13, R14) -/

/-- GUARD_REFERENCE_LAPSE (R11). -/
def execGuardReferenceLapse (g : Gate) (s : State) : Host.Outcome State Fault Refusal :=
  .next
    (match s.time.gates[g].guardRef with
    | some r =>
      if s.time.gates[g].guardLen ≤ (s.time.session - r).toNat then s.modGate g (fun q => { q with guardRef := none })
      else s
    | none => s)

/-- The age of a capture has reached 20 ms (R13, R14). -/
def State.aged (s : State) (c : Capture) : Bool := decide (pairingTicks ≤ (s.time.session - c.time).toNat)

/-- The oldest capture leaves as a BLANK: it is the last capture and lapses as such at once (R13, R14). -/
def State.releaseBlank (s : State) (g : Gate) (c : Capture) (rest : List Capture) : State :=
  ((s.modGate g (fun q => { q with stack := rest, last := none })).countObj g .blanks).anonPassage g none c .blank

/-- PAIRING_LIMIT (R14). -/
def execPairingLimit (g : Gate) (s : State) : Host.Outcome State Fault Refusal :=
  .next
    (match s.time.gates[g].stack with
    | c :: rest => if s.aged c then (s.releaseBlank g c rest).transmit else s
    | [] => s)

/-- LAST_CAPTURE_LAPSE (R13). -/
def execLastCaptureLapse (g : Gate) (s : State) : Host.Outcome State Fault Refusal :=
  .next
    (match s.time.gates[g].last with
    | some c => if s.aged c then s.modGate g (fun q => { q with last := none }) else s
    | none => s)

end Sys2Proof.Machine
end

