-- ==== Sys2Proof/Machine/GateRequests.lean ====
section
/-! DEFINITION. The requests of the Gate Bus Controller (R21, R29, R33, R35). -/

namespace Sys2Proof.Machine

open Sys2Proof

/-- The race states in which the course, the gates and the settings may be changed (R112). -/
def RaceState.configurable : RaceState → Bool
  | .idle | .practice => true
  | _ => false

/-! ## SET_GATE and REMOVE_GATE (R21, R29, R30) -/

/-- A head record taken through SET_GATE: mask and threshold of the request, counts 0, sensor count absent (R21). -/
def Head.configured (h : Head) (mask : BitVec 7) (threshold : Nat) : Head :=
  { h with mask := mask, threshold := threshold, failures := 0, rejects := 0, sensors := none }

/-- An accepted SET_GATE (R21): guard interval, head record, PROBING with its PROBE, the lanes cleared, the arbiter. A
transaction of the head on the line is discarded (R30). -/
def State.configureGate (s : State) (g : Gate) (mask : BitVec 7) (threshold guard : Nat) : State :=
  let s1 := s.modGate g (fun q => { q with guardUnits := guard, guardRef := none })
  let s2 := (s1.modHead g (fun h => h.configured mask threshold)).discardLine g true
  ((s2.enterHead g .probing .request).clearLanes g).arbitrate

/-- SET_GATE (R21). -/
def execSetGate (p : PortId) (tag : Byte) (payload : List Byte) (s : State) : Host.Outcome State Fault Refusal :=
  s.serve p 0x13 tag payload true 4 fun s =>
    match gateOf (byteAt payload 0), maskOf (byteAt payload 1) with
    | some g, some mask =>
      if mask = 0 then refuse .badArgument s
      else if !s.race.state.configurable || s.usesGate g then refuse .refusedState s
      else ok [] (s.configureGate g mask (clamp 0 15 (natAt payload 2)) (clamp 1 255 (natAt payload 3)))
    | _, _ => refuse .badArgument s

/-- An accepted REMOVE_GATE (R29). A transaction of the head on the line is discarded (R30). -/
def State.removeGate (s : State) (g : Gate) : State :=
  let s1 := (s.modHead g (fun h => h.configured 0 0)).discardLine g true
  (s1.enterHead g .off .removed).arbitrate

/-- REMOVE_GATE (R29). -/
def execRemoveGate (p : PortId) (tag : Byte) (payload : List Byte) (s : State) : Host.Outcome State Fault Refusal :=
  s.serve p 0x14 tag payload true 1 fun s =>
    match gateOf (byteAt payload 0) with
    | some g =>
      if !s.race.state.configurable || s.usesGate g then refuse .refusedState s
      else if s.bus.heads[g].state = .off then refuse .already s
      else ok [] (s.removeGate g)
    | none => refuse .badArgument s

/-! ## GATE_CHECK (R33) -/

/-- An accepted GATE_CHECK: PATTERN with its PATTERN_ON, and the check whose end will be the reply (R33, R34). -/
def State.startCheck (s : State) (g : Gate) (tag : Byte) : State :=
  let s1 := s.enterHead g .pattern .check
  State.arbitrate { s1 with bus.check := some ⟨g, tag, 0, 0, 0⟩ }

/-- GATE_CHECK (R33). The reply of an accepted one is deferred (R187). -/
def execGateCheck (p : PortId) (tag : Byte) (payload : List Byte) (s : State) : Host.Outcome State Fault Refusal :=
  s.serve p kindGateCheck tag payload true 1 fun s =>
    match gateOf (byteAt payload 0) with
    | some g =>
      if !s.race.state.configurable then refuse .refusedState s
      else if s.bus.heads[g].state ≠ .ready then refuse .notReady s
      else (s.startCheck g tag, none)
    | none => refuse .badArgument s

/-! ## Counters (R35) -/

/-- A counter index, 1 to 3. -/
def counterIndexOf (b : Byte) : Option (Fin 3) :=
  if b = 1 then some 0 else if b = 2 then some 1 else if b = 3 then some 2 else none

/-- SET_COUNTERS (R35). -/
def execSetCounters (p : PortId) (tag : Byte) (payload : List Byte) (s : State) : Host.Outcome State Fault Refusal :=
  s.serve p 0x16 tag payload true 3 fun s =>
    match gateOf (byteAt payload 0), counterIndexOf (byteAt payload 1), counterObjectOf (byteAt payload 2) with
    | some g, some i, some o => ok [] (s.modHead g (fun h => { h with counters := h.counters.set i ⟨o, 0⟩ }))
    | _, _, _ => refuse .badArgument s

/-- CLEAR_COUNTERS (R35). -/
def execClearCounters (p : PortId) (tag : Byte) (payload : List Byte) (s : State) : Host.Outcome State Fault Refusal :=
  s.serve p 0x17 tag payload true 1 fun s =>
    match gateOf (byteAt payload 0) with
    | some g => ok [] (s.modHead g (fun h => { h with counters := mapVec (fun c => { c with count := 0 }) h.counters }))
    | none => refuse .badArgument s

end Sys2Proof.Machine
end

