-- ==== Sys2Proof/Machine/CourseRequests.lean ====
section
/-! DEFINITION. The requests that edit the course map, the race settings and the laps of a car (R82 to R87, R109). -/

namespace Sys2Proof.Machine

open Sys2Proof

/-! ## Structure (R82, R83, R86) -/

/-- A race part after a structural edit (R86). -/
def RacePart.unplaced (r : RacePart) : RacePart :=
  { r with last := none, lapStart := none, lapState := .closed, missed := 0 }

/-- The effects of a structural edit on every record (R86). -/
def State.structuralEdit (s : State) : State := s.mapCars (fun x => { x with race := x.race.unplaced })

/-- A list cut or filled to a length. -/
def resize {α : Type} (l : List α) (n : Nat) (fill : α) : List α := l.take n ++ List.replicate (n - l.length) fill

/-- An accepted change of the point count (R82). -/
def State.resizeCourse (s : State) (n : Nat) : State :=
  { s with
    course.points := resize s.course.points n ⟨none, false, false⟩
    course.sectors := resize s.course.sectors n Sector.initial }.structuralEdit

/-- SET_POINT_COUNT (R82). -/
def execSetPointCount (p : PortId) (tag : Byte) (payload : List Byte) (s : State) : Host.Outcome State Fault Refusal :=
  s.serve p 0x10 tag payload true 1 fun s =>
    let n := clamp 2 12 (natAt payload 0)
    if !s.race.state.configurable then refuse .refusedState s
    else ok (u8 n) (if n = s.pointCount then s else s.resizeCourse n)

/-- A point's gate address, 0 for absent. -/
def pointGateOf (b : Byte) : Option (Option Gate) := if b = 0 then some none else (gateOf b).map some

/-- Another point carries the gate address (R83). -/
def State.gateElsewhere (s : State) (i : Nat) (g : Gate) : Bool :=
  (s.course.points.zipIdx).any (fun q => decide (q.1.gate = some g) && decide (q.2 ≠ i))

/-- The points with one of them set; a serving flag set is cleared at every other point (R83). -/
def setPoint (points : List CoursePoint) (i : Nat) (q : CoursePoint) : List CoursePoint :=
  (if q.serving then points.map (fun x => { x with serving := false }) else points).set i q

/-- An accepted SET_COURSE_POINT (R83). -/
def State.writePoint (s : State) (i : Nat) (q : CoursePoint) : State :=
  let s1 : State := { s with course.points := setPoint s.course.points i q }
  if (s.course.points[i]?).map CoursePoint.gate = some q.gate then s1 else s1.structuralEdit

/-- Checks 2 to 4 of SET_COURSE_POINT. -/
def State.setPointChecked (s : State) (i : Nat) (q : CoursePoint) : Served :=
  if !s.race.state.configurable then refuse .refusedState s
  else
    match q.gate with
    | some g =>
      if s.gateElsewhere i g then refuse .conflict s
      else if s.bus.heads[g].state = .off then refuse .notReady s
      else ok [] (s.writePoint i q)
    | none => ok [] (s.writePoint i q)

/-- SET_COURSE_POINT (R83). -/
def execSetCoursePoint (p : PortId) (tag : Byte) (payload : List Byte) (s : State) : Host.Outcome State Fault Refusal :=
  s.serve p 0x11 tag payload true 4 fun s =>
    match pointGateOf (byteAt payload 1), boolOf (byteAt payload 2), boolOf (byteAt payload 3) with
    | some gate, some serving, some pit =>
      if natAt payload 0 < s.pointCount then s.setPointChecked (natAt payload 0) ⟨gate, serving, pit⟩
      else refuse .badArgument s
    | _, _, _ => refuse .badArgument s

/-! ## Section fields (R84, R85) -/

/-- A write to the shadow map, which is first made a copy of the active map when no write is pending (R85). -/
def State.writeShadow (s : State) (i : Nat) (t : Sector) : State :=
  { s with course.shadow := some ((s.course.shadow.getD s.course.sectors).set i t) }

/-- SET_SECTION by the race state (R84): written at once (0, applied) or to the shadow map (1, pending). -/
def State.writeSector (s : State) (i : Nat) (t : Sector) : Served :=
  match s.race.state with
  | .idle | .practice => ok [0] { s with course.sectors := s.course.sectors.set i t }
  | .green | .caution | .suspended | .chequered => ok [1] (s.writeShadow i t)
  | .grid | .countdown | .closed => refuse .refusedState s

/-- SET_SECTION (R84). -/
def execSetSection (p : PortId) (tag : Byte) (payload : List Byte) (s : State) : Host.Outcome State Fault Refusal :=
  s.serve p 0x12 tag payload true 9 fun s =>
    match sectorOf payload with
    | some t =>
      if natAt payload 0 < s.pointCount then s.writeSector (natAt payload 0) t else refuse .badArgument s
    | none => refuse .badArgument s

/-! ## Race settings and start program (R87, R117) -/

/-- The five caps of the race settings. -/
def Settings.caps (t : Settings) : List Nat := [t.cautionCap, t.driveCap, t.pitCap, t.coolCap, t.practiceCap]

/-- Settings replaced at once; a change of any cap recomputes the rows (R87). -/
def State.putSettings (s : State) (t : Settings) : State :=
  let s1 : State := { s with course.settings := t }
  if t.caps = s.course.settings.caps then s1 else s1.recomputeAll

/-- SET_RACE_SETTINGS (R87). -/
def execSetRaceSettings (p : PortId) (tag : Byte) (payload : List Byte) (s : State) :
    Host.Outcome State Fault Refusal :=
  s.serve p 0x0F tag payload true 16 fun s =>
    match settingsOf payload with
    | some t => if s.race.state.configurable then ok t.encode (s.putSettings t) else refuse .refusedState s
    | none => refuse .badArgument s

/-- SET_START_PROGRAM (R117). -/
def execSetStartProgram (p : PortId) (tag : Byte) (payload : List Byte) (s : State) :
    Host.Outcome State Fault Refusal :=
  s.serve p 0x0E tag payload true 68 fun s =>
    match programOf payload with
    | some t => if s.race.state.configurable then ok t.encode { s with race.program := t } else refuse .refusedState s
    | none => refuse .badArgument s

/-! ## Lap adjustment (R109) -/

/-- An accepted ADJUST_LAPS: the adjustment, then a re-sort; the reply carries the adjustment and effective laps. -/
def State.adjustLaps (s : State) (c : Code) (delta : Int) : Served :=
  match s.car c with
  | some x =>
    if x.entered then
      let a := clampInt (-999) 999 (x.race.adjust + delta)
      let s1 := (s.modRace c (fun r => { r with adjust := a })).resort .adjust
      ok (i16 a ++ u16 (s1.effectiveOf c)) s1
    else refuse .notFound s
  | none => refuse .notFound s

/-- ADJUST_LAPS (R109). -/
def execAdjustLaps (p : PortId) (tag : Byte) (payload : List Byte) (s : State) : Host.Outcome State Fault Refusal :=
  s.serve p 0x20 tag payload true 3 fun s =>
    match carCodeOf payload 0 with
    | some c =>
      if s.race.state.racing then s.adjustLaps c (clampInt (-9) 9 (byteAt payload 2).toInt)
      else refuse .refusedState s
    | none => refuse .badArgument s

end Sys2Proof.Machine
end

