-- ==== Sys2Proof/Machine/PenaltyCommands.lean ====
section
/-! DEFINITION. The requests and deadlines of the Penalty Unit (R138, R144 to R146, R149, R152, R158). -/

namespace Sys2Proof.Machine

open Sys2Proof

/-! ## Deadlines (R144, R152) -/

/-- A record decided by its review deadline (R144). -/
def State.endReview (s : State) (r : Penalty) : State :=
  let (s1, r1, totals) := s.decideByMode r
  s1.finishEvent .reviewEnd r1 totals

/-- REVIEW_DEADLINE_EXPIRY (R144). -/
def execReviewDeadlineExpiry (id : Nat) (s : State) : Host.Outcome State Fault Refusal :=
  .next
    (match s.penalty id with
    | some r => if r.state = .review ∧ s.raceDue r.review then (s.endReview r).transmit else s
    | none => s)

/-- STOP_GO_END (R152): SERVED, and the silence deadline of a RUNNING car starts again. -/
def execStopGoEnd (id : Nat) (s : State) : Host.Outcome State Fault Refusal :=
  .next
    (match s.penalty id with
    | some r =>
      if r.state = .serving ∧ s.raceDue r.stopGoEnd then
        ((s.restartSilence r.code).finishEvent .serveEnd r.servedNow false).transmit
      else s
    | none => s)

/-! ## The schedule (R138) -/

/-- SET_SCHEDULE (R138). -/
def execSetSchedule (p : PortId) (tag : Byte) (payload : List Byte) (s : State) : Host.Outcome State Fault Refusal :=
  s.serve p 0x21 tag payload true 6 fun s =>
    match scheduleRowOf payload with
    | some (k, row) =>
      if s.race.state = .idle then
        ok (row.encode k.val) { s with pen.schedule := s.pen.schedule.set k row }
      else refuse .refusedState s
    | none => refuse .badArgument s

/-! ## CALL (R149) -/

/-- The decided-by value of a port. -/
def deciderOf : PortId → Decider
  | .A => .portA
  | .B => .portB

/-- The conversion seconds of a MANUAL record (R139). -/
def manualConversion : Nat := 10

/-- The record bytes of a reply. -/
def State.recordBytes (s : State) (r : Penalty) : List Byte := r.encodeAt (s.numberOf r.code)

/-- An accepted CALL, with room made: the MANUAL record is confirmed and joins the list (R142, R149). -/
def State.raiseManual (s : State) (p : PortId) (c : Code) (o : PenaltyOutcome) (amount : Nat) : Served :=
  let r0 := s.newRecord .manual c none o amount none manualConversion
  let (s1, r, totals) := s.confirmRecord (deciderOf p) r0
  ok (s.recordBytes r) (s1.joinRecord r totals)

/-- CALL is legal in the race state (R149). -/
def RaceState.callable (r : RaceState) : Bool := r.racing || decide (r = .closed)

/-- Checks 2 to 4 of CALL. -/
def State.callCar (s : State) (p : PortId) (c : Code) (o : PenaltyOutcome) (amount : Nat) : Served :=
  if !s.race.state.callable then refuse .refusedState s
  else
    match s.car c with
    | some x =>
      if x.entered then
        match s.makeRoom with
        | some s1 => s1.raiseManual p c o amount
        | none => refuse .full s
      else refuse .notFound s
    | none => refuse .notFound s

/-- CALL (R149). -/
def execCall (p : PortId) (tag : Byte) (payload : List Byte) (s : State) : Host.Outcome State Fault Refusal :=
  s.serve p 0x24 tag payload false 4 fun s =>
    match carCodeOf payload 0, outcomeOf (byteAt payload 2) with
    | some c, some o => s.callCar p c o (clampAmount o (natAt payload 3))
    | _, _ => refuse .badArgument s

/-! ## CONFIRM (R145) -/

/-- The override of a CONFIRM: outcome byte 0xFF for none, and then the amount byte is not read (R199). -/
def overrideOf (payload : List Byte) : Option (Option (PenaltyOutcome × Nat)) :=
  if byteAt payload 1 = 0xFF then some none
  else (outcomeOf (byteAt payload 1)).map (fun o => some (o, clampAmount o (natAt payload 2)))

/-- A record with the override of a CONFIRM. -/
def Penalty.overridden (r : Penalty) (o : Option (PenaltyOutcome × Nat)) : Penalty :=
  match o with
  | some (outcome, amount) => { r with outcome := outcome, amount := amount }
  | none => r

/-- A record in REVIEW confirmed by a port (R145, R147). -/
def State.confirmBy (s : State) (p : PortId) (r : Penalty) : Served :=
  let (s1, r1, totals) := s.confirmRecord (deciderOf p) r
  ok (s.recordBytes r1) (s1.finishEvent .decision r1 totals)

/-- The reply data of a record already decided: its state and its decided-by field (R145). -/
def Penalty.decision (r : Penalty) : List Byte := u8 r.state.toCode ++ u8 (deciderCode r.decided)

/-- Checks 2 and 3 of CONFIRM. -/
def State.confirm (s : State) (p : PortId) (id : Nat) (o : Option (PenaltyOutcome × Nat)) : Served :=
  match s.penalty id with
  | none => refuse .notFound s
  | some r =>
    if r.state = .review then s.confirmBy p (r.overridden o)
    else
      match r.decided with
      | some .portA | some .portB => answer .alreadyDecided r.decision s
      | _ => answer .tooLate r.decision s

/-- CONFIRM (R145). -/
def execConfirm (p : PortId) (tag : Byte) (payload : List Byte) (s : State) : Host.Outcome State Fault Refusal :=
  s.serve p 0x25 tag payload false 3 fun s =>
    match idOf (byteAt payload 0), overrideOf payload with
    | some id, some o => s.confirm p id o
    | _, _ => refuse .badArgument s

/-! ## WAIVE (R146, R158) -/

/-- A record waived after review, with its notice and what it hands on (R158). -/
def State.reverse (s : State) (r : Penalty) (totals : Bool) : Served :=
  ok [] (s.finishEvent .reversal (r.waivedBy .portA) totals)

/-- A WAIVE from port A of a record that is not in REVIEW (R158). -/
def State.waiveDecided (s : State) (r : Penalty) : Served :=
  match r.state with
  | .confirmed => s.reverse r false
  | .serving => (if r.outcome = .stopGo then s.restartSilence r.code else s).reverse r false
  | .served =>
    match r.outcome with
    | .time => (s.subTime r.code r.amount).reverse r true
    | .lapDeduct => (s.subDeduct r.code r.amount).reverse r true
    | .warning => s.reverse r false
    | .stopGo | .driveThrough | .lockout => answer .tooLate (u8 r.state.toCode) s
  | .converted => (s.subTime r.code r.conversion).reverse r true
  | .waived => answer .already (u8 r.state.toCode) s
  | .review => ok [] (s.finishEvent .decision (r.waivedBy .portA) false)

/-- WAIVE taken for an id (R146). -/
def State.waive (s : State) (p : PortId) (id : Nat) : Served :=
  match s.penalty id with
  | none => refuse .notFound s
  | some r =>
    if r.state = .review then ok [] (s.finishEvent .decision (r.waivedBy (deciderOf p)) false)
    else
      match p with
      | .B => refuse .refusedPort s
      | .A => s.waiveDecided r

/-- WAIVE (R146, R158). -/
def execWaive (p : PortId) (tag : Byte) (payload : List Byte) (s : State) : Host.Outcome State Fault Refusal :=
  s.serve p 0x26 tag payload false 1 fun s =>
    match idOf (byteAt payload 0) with
    | some id => s.waive p id
    | none => refuse .badArgument s

end Sys2Proof.Machine
end

