-- ==== Sys2Proof/Machine/PowerEvents.lean ====
section
/-! DEFINITION. The events of the power link (R168 to R172). -/

namespace Sys2Proof.Machine

open Sys2Proof

/-! ## The transmitter (R170) -/

/-- A PERMITS transmission begins with the table as it stands. -/
def State.sendPermits (s : State) (tag : Byte) : State :=
  { s with power.sending := some (permitsFrame tag s.power.epoch s.power.rows), power.slot := none }

/-- A reply for this TAG is placed in the reply slot: sent at once by an idle transmitter, else it waits, displacing
one that waits already. -/
def State.placePermits (s : State) (tag : Byte) : State :=
  match s.power.sending, s.power.slot with
  | none, _ => s.sendPermits tag
  | some _, none => { s with power.slot := some tag }
  | some _, some _ => { s with power.slot := some tag, power.tallyUnanswered := s.power.tallyUnanswered + 1 }

/-- PERMITS (R170): a transmission ends, and the waiting reply begins. -/
def execPermits (s : State) : Host.Outcome State Fault Refusal :=
  .next
    (match s.power.sending with
    | some _ =>
      let s1 : State := { s with power.sending := none }
      match s.power.slot with
      | some tag => s1.sendPermits tag
      | none => s1
    | none => s)

/-! ## Polls (R169, R172) -/

/-- Steps 1 and 2: the tally, the deadline, the time of the poll, the link UP with its track-enable line. -/
def State.pollTaken (s : State) : State :=
  let s1 : State := { s with
    power.tallyPolls := s.power.tallyPolls + 1
    power.silence := some (s.timer linkSilenceTicks)
    power.lastPoll := some s.time.session }
  if s.power.linkUp then s1 else State.setTrackEnable { s1 with power.linkUp := true }

/-- What a change of base status reports (R172). -/
def statusTrouble (old : Option BaseStatus) (new : BaseStatus) : Option StateReason :=
  match old, new with
  | some .normal, .overload => some .power
  | some .normal, .fault => some .base
  | _, _ => none

/-- Step 3: the status is compared and kept, and the comparison acts on the race. -/
def State.baseStatus (s : State) (b : BaseStatus) : State :=
  let s1 : State := { s with power.status := some b }
  match statusTrouble s.power.status b with
  | some reason => s1.reportTrouble reason
  | none => s1

/-- A frame dropped or discarded gains 1 in BAD_FRAMES (R168). -/
def State.badFrame (s : State) : State := { s with power.tallyBadFrames := s.power.tallyBadFrames + 1 }

/-- The status of a valid poll's payload (R168). -/
def pollStatusOf (payload : List Byte) : Option BaseStatus :=
  match payload with
  | [b] => baseStatusOf b
  | _ => none

/-- PB_POLL (R168, R169): a valid poll is taken whole; one whose payload is not a status is discarded and counted. A
frame the receiver cannot complete does nothing (notes/assumptions/5.md). -/
def execPbPoll (tag : Byte) (payload : List Byte) (s : State) : Host.Outcome State Fault Refusal :=
  let frame := ltFrame kindPoll tag payload
  if s.power.rx.completes payload frame then
    let s1 : State := { s with power.rx := s.power.rx.taken frame }
    match pollStatusOf payload with
    | some b => .next ((s1.pollTaken.baseStatus b).placePermits tag).transmit
    | none => .next s1.badFrame
  else .next s

/-! ## Dropped and discarded frames (R168) -/

/-- The time of the latest byte on the line: the receiver's own when no further byte came, else this one. -/
def latestByte (r : Receiver) (bytes : List Byte) (at_ : Time) : Time := if bytes = [] then r.lastAt else at_

/-- The frame is a valid poll. -/
def isPoll (kind : Byte) (payload : List Byte) : Bool := decide (kind = kindPoll) && (pollStatusOf payload).isSome

/-- POWER_LINK_FRAME_DROP (R168): a frame with LEN above 240 or a bad SUM is dropped and its bytes are hunted again; a
good frame that is not a valid poll is discarded whole. -/
def execPowerLinkFrameDrop (bytes : List Byte) (s : State) : Host.Outcome State Fault Refusal :=
  let held := s.power.rx.extended bytes
  let at_ := latestByte s.power.rx bytes s.time.session
  match checkFrame held with
  | .badLen => .next (State.badFrame { s with power.rx := rescan held at_ })
  | .badSum => .next (State.badFrame { s with power.rx := rescan held at_ })
  | .valid kind _ payload rest =>
    if isPoll kind payload then .next s
    else .next (State.badFrame { s with power.rx := Receiver.holding (hunt rest) at_ })
  | .partly => .next s

/-- More than 2 ms have passed since the latest byte of an incomplete frame (R168, R185). -/
def gapPassed (held : List Byte) (now at_ : Time) : Bool :=
  !held.isEmpty && decide (checkFrame held = .partly) && decide (gapTicks < (now - at_).toNat)

/-- POWER_LINK_GAP (R168). -/
def execPowerLinkGap (bytes : List Byte) (lastAt : Time) (s : State) : Host.Outcome State Fault Refusal :=
  let held := s.power.rx.extended bytes
  let at_ := latestByte s.power.rx bytes lastAt
  .next
    (if gapPassed held s.time.session at_ then State.badFrame { s with power.rx := rescan held at_ } else s)

/-! ## Link silence (R171) -/

/-- The link goes DOWN: its state, its tally, the track-enable line, and the report to the race. -/
def State.linkLost (s : State) : State :=
  let s1 : State := { s with
    power.linkUp := false, power.silence := none, power.tallyLinkLosses := s.power.tallyLinkLosses + 1 }
  s1.setTrackEnable.reportTrouble .link

/-- LINK_SILENCE_DEADLINE (R171). -/
def execLinkSilenceDeadline (s : State) : Host.Outcome State Fault Refusal :=
  .next (if timerDue s.power.silence s.time.session then s.linkLost.transmit else s)

end Sys2Proof.Machine
end

