-- ==== Sys2Proof/Machine/PortEvents.lean ====
section
/-! DEFINITION. The events of the console ports and HOLD (R185 to R189, R196). -/

namespace Sys2Proof.Machine

open Sys2Proof

/-! ## Dropped frames (R185) -/

/-- CONSOLE_FRAME_DROP (R185): LEN above 240 or a bad SUM; the bytes after its SYNC are hunted again. -/
def execConsoleFrameDrop (p : PortId) (bytes : List Byte) (s : State) : Host.Outcome State Fault Refusal :=
  let r := (s.port p).rx
  let held := r.extended bytes
  let again := rescan held (latestByte r bytes s.time.session)
  match checkFrame held with
  | .badLen =>
    .next (s.modPort p (fun q =>
      { q with rx := again, counters := { q.counters with droppedLen := q.counters.droppedLen + 1 } }))
  | .badSum =>
    .next (s.modPort p (fun q =>
      { q with rx := again, counters := { q.counters with droppedSum := q.counters.droppedSum + 1 } }))
  | _ => .next s

/-- CONSOLE_GAP (R185). -/
def execConsoleGap (p : PortId) (bytes : List Byte) (lastAt : Time) (s : State) : Host.Outcome State Fault Refusal :=
  let r := (s.port p).rx
  let held := r.extended bytes
  let at_ := latestByte r bytes lastAt
  .next
    (if gapPassed held s.time.session at_ then
      s.modPort p (fun q =>
        { q with rx := rescan held at_, counters := { q.counters with droppedGap := q.counters.droppedGap + 1 } })
    else s)

/-! ## Frames that are no request (R186, R188) -/

/-- BUSY (R186 step 1, R188): a valid frame of any KIND taken while the port is engaged. -/
def execBusy (p : PortId) (kind tag : Byte) (payload : List Byte) (s : State) : Host.Outcome State Fault Refusal :=
  let frame := ltFrame kind tag payload
  if (s.port p).engaged && (s.port p).rx.completes payload frame then (s.frameTaken p frame).answerBusy p tag
  else .next s

/-- A request KIND of the catalogue (spec/11, Request codes and payloads). -/
def isRequestKind (kind : Byte) : Bool := decide (1 ≤ kind.toNat ∧ kind.toNat ≤ 0x34)

/-- UNKNOWN_KIND (R186 step 2): a valid frame of any other KIND. -/
def execUnknownKind (p : PortId) (kind tag : Byte) (payload : List Byte) (s : State) :
    Host.Outcome State Fault Refusal :=
  if isRequestKind kind then .next s else s.takeFrame p kind tag payload (refuse .unknownKind)

/-! ## The transmitter and holds (R189, R196) -/

/-- A frame has been sent; the end of a reply clears the engaged flag (R187). -/
def Port.sent (q : Port) (f : TxFrame) : Port :=
  { q with tx := none, engaged := if f.kind = .reply then false else q.engaged }

/-- TRANSMIT_END (R189). -/
def execTransmitEnd (p : PortId) (s : State) : Host.Outcome State Fault Refusal :=
  .next
    (match (s.port p).tx with
    | some f => (s.modPort p (fun q => q.sent f)).transmit
    | none => s)

/-- HOLD_DEADLINE (R196). -/
def execHoldDeadline (p : PortId) (s : State) : Host.Outcome State Fault Refusal :=
  .next
    (if timerDue (s.port p).hold s.time.session then (s.modPort p (fun q => { q with hold := none })).transmit else s)

/-- HOLD (R196): n units of 10 ms, clamped to 0 to 6,000; 0 ends the hold. -/
def execHold (p : PortId) (tag : Byte) (payload : List Byte) (s : State) : Host.Outcome State Fault Refusal :=
  s.serve p 0x27 tag payload false 2 fun s =>
    let n := clamp 0 6000 (wordAt payload 0)
    ok (u16 n) (s.modPort p (fun q => { q with hold := if n = 0 then none else some (s.timer (n * centiTicks)) }))

end Sys2Proof.Machine
end

