-- ==== Sys2Proof/Machine/RaceCommands.lean ====
section
/-! DEFINITION. The requests and deadlines of the Race State Controller (R113 to R134), and the silence deadline of a
car (R108). -/

namespace Sys2Proof.Machine

open Sys2Proof

/-! ## Practice (R113, R114) -/

/-- The change to PRACTICE (R113). -/
def State.openPractice (s : State) : State :=
  let s1 : State := { s.startClocks with race.state := .practice, race.practiceLimit := some longLimitTicks }
  ((s1.announce s.race.state .request).initCars true).showState

/-- OPEN_PRACTICE (R113). -/
def execOpenPractice (p : PortId) (tag : Byte) (payload : List Byte) (s : State) : Host.Outcome State Fault Refusal :=
  s.serve p 0x01 tag payload true 0 fun s =>
    if s.race.state = .idle then ok [] s.openPractice else refuse .refusedState s

/-- END_PRACTICE (R114). -/
def execEndPractice (p : PortId) (tag : Byte) (payload : List Byte) (s : State) : Host.Outcome State Fault Refusal :=
  s.serve p 0x02 tag payload true 0 fun s =>
    if s.race.state = .practice then ok [] (s.closePractice .request) else refuse .refusedState s

/-- PRACTICE_LIMIT (R114). -/
def execPracticeLimit (s : State) : Host.Outcome State Fault Refusal :=
  .next
    (if s.race.state = .practice ∧ s.raceDue s.race.practiceLimit then (s.closePractice .limit).transmit else s)

/-! ## Grid and start (R115, R116, R118 to R120, R122) -/

/-- The active course map is valid (R81). -/
def State.validMap (s : State) : Bool :=
  decide (2 ≤ s.pointCount ∧ s.pointCount ≤ 12) && s.course.points.all (fun q => q.gate.isSome)

/-- The head of every gate of the map is READY (R115). -/
def State.headsReady (s : State) : Bool :=
  s.course.points.all (fun q =>
    match q.gate with
    | some g => decide (s.bus.heads[g].state = .ready)
    | none => true)

/-- FORM_GRID finds what it needs (R115). -/
def State.gridReady (s : State) : Bool := s.cars.any Car.entered && s.validMap && s.headsReady

/-- Entered cars become GRID; the others stay IDLE (R74). -/
def gridCar (x : Car) : Car := if x.entered then { x with race := { x.race with state := .grid } } else x

/-- The change to GRID (R115). -/
def State.formGrid (s : State) : State :=
  let s1 : State := { s with race.state := .grid }
  let s2 := ((s1.announce s.race.state .request).initCars true).mapCars gridCar
  ((s2.clearPenalties.formStandings).beginStep s.race.program.g0).showState

/-- FORM_GRID (R115). -/
def execFormGrid (p : PortId) (tag : Byte) (payload : List Byte) (s : State) : Host.Outcome State Fault Refusal :=
  s.serve p 0x03 tag payload true 0 fun s =>
    if s.race.state = .idle then
      if s.gridReady then ok [] s.formGrid else refuse .notReady s
    else refuse .refusedState s

/-- The change from GRID to IDLE (R116). -/
def State.standDown (s : State) : State :=
  let s1 : State := { s.clearClocks with race.state := .idle, race.step := none }
  let s2 := (s1.announce s.race.state .request).mapCars (fun x => { x with race := { x.race with state := .idle } })
  s2.clearPenalties.showState

/-- STAND_DOWN (R116). -/
def execStandDown (p : PortId) (tag : Byte) (payload : List Byte) (s : State) : Host.Outcome State Fault Refusal :=
  s.serve p 0x04 tag payload true 0 fun s =>
    if s.race.state = .grid then ok [] s.standDown else refuse .refusedState s

/-- The flags of an entered car at START (R65, R74). -/
def startCar (x : Car) : Car :=
  if x.entered then { x with race := { x.race with crossedEarly := false, jumpCalled := false } } else x

/-- The change to COUNTDOWN (R119). -/
def State.startRace (s : State) : State :=
  let s1 : State := { s with
    race.state := .countdown, race.step := none, race.jumpWatch := false, race.watchStart := none }
  (((s1.announce s.race.state .request).mapCars startCar).beginStep s.race.program.c0).showState

/-- START (R119). -/
def execStart (p : PortId) (tag : Byte) (payload : List Byte) (s : State) : Host.Outcome State Fault Refusal :=
  s.serve p 0x05 tag payload true 0 fun s =>
    if s.race.state = .grid then
      if s.powerReady then ok [] s.startRace else refuse .notReady s
    else refuse .refusedState s

/-- ABORT_START (R122). -/
def execAbortStart (p : PortId) (tag : Byte) (payload : List Byte) (s : State) : Host.Outcome State Fault Refusal :=
  s.serve p 0x06 tag payload true 0 fun s =>
    if s.race.state = .countdown then ok [] (s.abortToGrid .request) else refuse .refusedState s

/-- What follows a step (R118 to R120): in GRID the next step, or g0 after g1; in COUNTDOWN the next step, or the
green moment after c1. -/
def State.stepDone (s : State) (i : Fin 16) : State :=
  match s.race.state with
  | .grid => s.beginStep (if i = s.race.program.g1 then s.race.program.g0 else nextStep i)
  | .countdown => if i = s.race.program.c1 then s.greenMoment else s.beginStep (nextStep i)
  | _ => s

/-- STEP_DEADLINE (R118). -/
def execStepDeadline (s : State) : Host.Outcome State Fault Refusal :=
  .next
    (match s.race.step with
    | some t => if t.deadline.due s.time.session then (s.stepDone t.index).transmit else s
    | none => s)

/-! ## Caution (R123, R124, R126) -/

/-- Caution held changes in CHEQUERED (R124). -/
def State.setHeld (s : State) (held : Bool) : State :=
  let s1 : State := { s with race.held := held }
  (s1.announce .chequered .request).showState

/-- The saved return state changes in SUSPENDED (R126). -/
def State.setSaved (s : State) (saved : SavedState) : State :=
  let s1 : State := { s with race.saved := some saved }
  (s1.announce .suspended .request).showState

/-- CAUTION taken in SUSPENDED (R126). -/
def State.cautionSaved (s : State) : State :=
  match s.race.saved with
  | some .green => s.growCaution.setSaved .caution
  | some (.chequered false) => s.growCaution.setSaved (.chequered true)
  | _ => s

/-- LIFT taken in SUSPENDED (R126). -/
def State.liftSaved (s : State) : State :=
  match s.race.saved with
  | some .caution => s.setSaved .green
  | some (.chequered true) => s.setSaved (.chequered false)
  | _ => s

/-- CAUTION by the race state. -/
def State.caution (s : State) : Served :=
  match s.race.state with
  | .green => ok [] (s.enterCaution .request)
  | .caution => refuse .already s
  | .suspended => ok [] s.cautionSaved
  | .chequered => if s.race.held then refuse .already s else ok [] (s.growCaution.setHeld true)
  | _ => refuse .refusedState s

/-- CAUTION (R123, R124, R126). -/
def execCaution (p : PortId) (tag : Byte) (payload : List Byte) (s : State) : Host.Outcome State Fault Refusal :=
  s.serve p 0x07 tag payload false 0 State.caution

/-- CAUTION becomes GREEN (R123). -/
def State.liftCaution (s : State) : State :=
  let s1 : State := { s with race.state := .green }
  (s1.announce s.race.state .request).showState

/-- LIFT by the race state. -/
def State.lift (s : State) : Served :=
  match s.race.state with
  | .caution => ok [] s.liftCaution
  | .suspended => ok [] s.liftSaved
  | .chequered => if s.race.held then ok [] (s.setHeld false) else refuse .already s
  | _ => refuse .refusedState s

/-- LIFT (R123, R124, R126). -/
def execLift (p : PortId) (tag : Byte) (payload : List Byte) (s : State) : Host.Outcome State Fault Refusal :=
  s.serve p 0x08 tag payload false 0 State.lift

/-- SILENCE_DEADLINE (R108): the car is off the track, and in GREEN the de-slot action may call a caution. -/
def State.deslot (s : State) (x : Car) : State :=
  let s1 := s.modRace x.code (fun r => { r with state := .offTrack, silence := none })
  let s2 := s1.append (.deslot x.code x.number (x.race.last.map LastPassage.point) x.race.lastLane)
  let s3 := s2.recomputeCar x.code
  if s3.course.settings.deslot = .caution ∧ s3.race.state = .green then s3.enterCaution .deslot else s3

/-- SILENCE_DEADLINE (R108). -/
def execSilenceDeadline (code : Code) (s : State) : Host.Outcome State Fault Refusal :=
  .next
    (match s.car code with
    | some x => if s.raceDue x.race.silence then (s.deslot x).transmit else s
    | none => s)

/-! ## Suspension (R125, R127) -/

/-- SUSPEND by the race state. -/
def State.suspend (s : State) : Served :=
  match s.race.state with
  | .green | .caution | .chequered => ok [] (s.suspendRace .request)
  | .suspended => refuse .already s
  | _ => refuse .refusedState s

/-- SUSPEND (R125). -/
def execSuspend (p : PortId) (tag : Byte) (payload : List Byte) (s : State) : Host.Outcome State Fault Refusal :=
  s.serve p 0x09 tag payload false 0 State.suspend

/-- The state a saved return state names, and its caution-held attribute (R127). -/
def SavedState.live : SavedState → RaceState × Bool
  | .green => (.green, false)
  | .caution => (.caution, false)
  | .chequered held => (.chequered, held)

/-- The change from SUSPENDED to the saved return state (R127). -/
def State.resumeRace (s : State) : State :=
  let live := (s.race.saved.getD .green).live
  let s1 : State := { s.endSuspension with race.state := live.1, race.held := live.2, race.saved := none }
  (((s1.announce s.race.state .request).applyShadow).resumeUnattributed).showState.doneTest

/-- RESUME (R127). -/
def execResume (p : PortId) (tag : Byte) (payload : List Byte) (s : State) : Host.Outcome State Fault Refusal :=
  s.serve p 0x0A tag payload true 0 fun s =>
    if s.race.state = .suspended then
      if s.powerReady then ok [] s.resumeRace else refuse .notReady s
    else refuse .refusedState s

/-! ## Limits and closing (R128 to R131) -/

/-- RACE_LIMIT_DEADLINE (R128). -/
def execRaceLimitDeadline (s : State) : Host.Outcome State Fault Refusal :=
  .next
    (if (s.race.state = .green ∨ s.race.state = .caution) ∧ s.raceDue s.race.raceLimit then s.enterChequered.transmit
    else s)

/-- FINISH_WINDOW (R130). -/
def execFinishWindow (s : State) : Host.Outcome State Fault Refusal :=
  .next
    (if s.race.state = .chequered ∧ s.raceDue s.race.finishWindow then (s.closeRace .window).transmit else s)

/-- ELAPSED_LIMIT (R131). -/
def execElapsedLimit (s : State) : Host.Outcome State Fault Refusal :=
  .next
    (if s.race.state.racing ∧ elapsedLimitTicks ≤ s.elapsed then (s.closeRace .limit).transmit else s)

/-- CLOSE (R131). -/
def execClose (p : PortId) (tag : Byte) (payload : List Byte) (s : State) : Host.Outcome State Fault Refusal :=
  s.serve p 0x0B tag payload true 0 fun s =>
    if s.race.state.racing then ok [] (s.closeRace .request) else refuse .refusedState s

/-! ## RELEASE and SOFT_RESET (R133, R134) -/

/-- The unattributed list emptied without notices or tallies (R56). -/
def State.clearUnattributed (s : State) : State := { s with former.list := [] }

/-- The change from CLOSED to IDLE (R133). -/
def State.release (s : State) : State :=
  let s1 : State := { s.clearClocks with race.state := .idle, race.watchStart := none }
  let s2 := (s1.announce s.race.state .request).initCars false
  (s2.clearPenalties.clearUnattributed.clearCaptures.clearStandings).showState

/-- RELEASE (R133). -/
def execRelease (p : PortId) (tag : Byte) (payload : List Byte) (s : State) : Host.Outcome State Fault Refusal :=
  s.serve p 0x0C tag payload true 0 fun s =>
    if s.race.state = .closed then ok [] s.release else refuse .refusedState s

/-- Entered flag and grid slot cleared (R72). -/
def Car.unentered (x : Car) : Car := { x with entered := false, gridSlot := none }

/-- The controller's own fields after a soft reset (R134). -/
def RaceCtl.softReset (r : RaceCtl) : RaceCtl :=
  { r with
    state := .idle
    held := false
    saved := none
    step := none
    jumpWatch := false
    watchStart := none
    raceLimit := none
    finishWindow := none
    practiceLimit := none }

/-- A soft reset (R134). -/
def State.softReset (s : State) : State :=
  let s1 : State := { s.clearClocks with race := s.race.softReset }
  let s2 := ((s1.announce s.race.state .softReset).initCars false).mapCars Car.unentered
  let s3 := s2.clearPenalties.clearUnattributed.clearStandings.clearCaptures
  State.showState { s3 with course.shadow := none }

/-- SOFT_RESET (R134). -/
def execSoftReset (p : PortId) (tag : Byte) (payload : List Byte) (s : State) : Host.Outcome State Fault Refusal :=
  s.serve p 0x0D tag payload true 0 fun s => ok [] s.softReset

end Sys2Proof.Machine
end

