-- ==== Sys2Proof/Machine/Queries.lean ====
section
/-! DEFINITION. The queries (R36, R57, R76, R77, R88, R136, R161, R162, R174, R183, R197): the data each reply carries,
field by field in the order its rule lists them, encoded as R200 gives. A query changes nothing but the port. -/

namespace Sys2Proof.Machine

open Sys2Proof

/-! ## Paging (R200) -/

/-- The data bytes a reply holds: LEN 240 less the KIND and the status. -/
def replyRoom : Nat := 238

/-- How many entries a page carries: at most 16, and whole within the room the other data leave. -/
def pageSize (fixed entry : Nat) : Nat := min 16 ((replyRoom - fixed) / entry)

/-- A page of a list: its count, its entries, and the index of the first entry not carried, `none` when there is
none. Each element comes with its index. -/
def page {α : Type} (n : Nat) (encode : α → List Byte) (l : List (Nat × α)) : List Byte × Option Nat :=
  (u8 (l.take n).length ++ (l.take n).flatMap (fun x => encode x.2), ((l.drop n).head?).map Prod.fst)

/-- The elements of a list with their positions counted from `start`. -/
def indexed {α : Type} (start : Nat) (l : List α) : List (Nat × α) := (l.zipIdx start).map (fun x => (x.2, x.1))

/-- A counter or tally. -/
def tallyBytes (n : BitVec 32) : List Byte := u32 n.toNat

/-- A byte for each lane of a mask: bit L - 1 for lane L (R200). -/
def laneBits (f : Lane → Bool) : List Byte :=
  u8 (([0, 1, 2, 3, 4, 5, 6] : List Lane).foldl (fun n l => n + (if f l then 2 ^ l.val else 0)) 0)

/-! ## QUERY_GATE (R36) -/

/-- A gate check is running on the head. -/
def State.checkRuns (s : State) (g : Gate) : Bool :=
  match s.bus.check with
  | some c => decide (c.gate = g)
  | none => false

/-- The data of QUERY_GATE. -/
def State.gateData (s : State) (g : Gate) : List Byte :=
  let h := s.bus.heads[g]
  u8 h.state.toCode ++ u8 (gateReasonCode h.reason) ++ u8 h.mask.toNat ++ u8 h.threshold
    ++ u8 s.time.gates[g].guardUnits ++ opt8 h.sensors ++ u8 h.failures ++ u8 h.rejects ++ yesNo h.fetchPending
    ++ u8 h.overflow ++ h.counters.toList.flatMap (fun c => u8 c.select.toCode)
    ++ h.counters.toList.flatMap (fun c => tallyBytes c.count)
    ++ laneBits (fun l => h.mask.getLsbD l.val && h.lanes[l].stuck) ++ yesNo (s.checkRuns g)

/-- QUERY_GATE (R36). -/
def execQueryGate (p : PortId) (tag : Byte) (payload : List Byte) (s : State) : Host.Outcome State Fault Refusal :=
  s.serve p 0x28 tag payload false 1 fun s =>
    match gateOf (byteAt payload 0) with
    | some g => ok (s.gateData g) s
    | none => refuse .badArgument s

/-! ## QUERY_UNATTRIBUTED (R57) -/

/-- The passage tallies in R57's order. -/
def PassageTallies.encode (t : PassageTallies) : List Byte :=
  [t.orphaned, t.stuckSuppressed, t.sharedAnon, t.badLane, t.noPoint, t.quiet, t.unentered, t.rearmSuppressed,
    t.predicted, t.joined, t.dropped, t.expired, t.assigned, t.discarded, t.resumed].flatMap tallyBytes

/-- The data of QUERY_UNATTRIBUTED. -/
def State.unattributedData (s : State) : List Byte :=
  u8 s.former.list.length ++ s.former.list.flatMap (fun r => r.encode (s.unattrMsLeft r)) ++ s.former.tallies.encode

/-- QUERY_UNATTRIBUTED (R57). -/
def execQueryUnattributed (p : PortId) (tag : Byte) (payload : List Byte) (s : State) :
    Host.Outcome State Fault Refusal :=
  s.serve p 0x29 tag payload false 0 fun s => ok s.unattributedData s

/-! ## QUERY_CAR (R76) -/

/-- A car's age in ms (R64). -/
def State.ageMs (s : State) (x : Car) : Nat := (s.time.session - x.lastSeen).toNat / 100

/-- A session time or a neutral stamp in a reply, in ms (R9; DESIGN CHOICE, notes/assumptions/13.md). -/
def stampBytes (o : Option Time) : List Byte := opt32 (o.map (fun t => t.toNat / 100))

/-- A lap start in a reply, in R65's order: capture session time, neutral stamp, caution epoch, suspension epoch (DESIGN
CHOICE, notes/assumptions/13.md). -/
def lapStartBytes (o : Option LapStart) : List Byte :=
  stampBytes (o.map LapStart.time) ++ stampBytes (o.map LapStart.neutral)
    ++ (match o with
      | some l => [l.tag.cautionEpoch, l.tag.suspensionEpoch]
      | none => [0xFF, 0xFF])

/-- A last passage in a reply, in R65's order: point, lane, capture, race ms. The capture is sent whole, in R12's order:
session time, neutral stamp, phase tag, merged count (DESIGN CHOICE, notes/assumptions/13.md). -/
def lastPassageBytes (o : Option LastPassage) : List Byte :=
  match o with
  | some l =>
    u8 l.point ++ laneByte l.lane ++ stampBytes (some l.capture.time) ++ stampBytes (some l.capture.neutral)
      ++ l.capture.tag.encode ++ u8 l.capture.merged ++ u32 l.raceMs
  | none => [0xFF, 0] ++ stampBytes none ++ stampBytes none ++ [0xFF, 0xFF, 0xFF, 0xFF] ++ opt32 none

/-- The static part in R63's order, the last-seen time as an age. -/
def State.staticBytes (s : State) (x : Car) : List Byte :=
  codeBytes x.code ++ numberBytes x.number ++ u8 x.drive ++ u8 x.origin.toCode ++ u32 (s.ageMs x) ++ yesNo x.entered
    ++ opt8 x.gridSlot

/-- The race part in R65's order. -/
def State.raceBytes (s : State) (r : RacePart) : List Byte :=
  u8 r.state.toCode ++ u8 r.lapState.toCode ++ lapStartBytes r.lapStart ++ u16 r.counted ++ i16 r.adjust
    ++ u16 r.deductions ++ lastPassageBytes r.last ++ opt32 r.lastLapMs ++ opt32 r.bestLapMs
    ++ opt32 (r.refTicks.map (· / 100)) ++ u16 r.timePenalty ++ opt32 (r.silence.map s.raceMsLeft)
    ++ yesNo r.crossedEarly ++ yesNo r.jumpCalled ++ u32 r.lastCountedMs ++ opt8 r.finishPos ++ u8 r.missed
    ++ yesNo r.serving

/-- QUERY_CAR (R76). -/
def execQueryCar (p : PortId) (tag : Byte) (payload : List Byte) (s : State) : Host.Outcome State Fault Refusal :=
  s.serve p 0x2A tag payload false 2 fun s =>
    match carCodeOf payload 0 with
    | some c =>
      match s.roster.find c, s.car c with
      | some i, some x => ok (u8 i.val ++ s.staticBytes x ++ s.raceBytes x.race) s
      | _, _ => refuse .notFound s
    | none => refuse .badArgument s

/-! ## QUERY_ROSTER and QUERY_ENTRIES (R77) -/

/-- The occupied slots from a starting slot, with their numbers. -/
def State.occupied (s : State) (start : Nat) : List (Nat × Nat × Car) :=
  (s.roster.slots.toList.zipIdx.filterMap (fun x => x.1.map (fun y => (x.2, x.2, y)))).filter
    (fun x => decide (start ≤ x.1))

/-- The occupied slots in a range of slot numbers. -/
def State.occupiedIn (s : State) (lo hi : Nat) : Nat :=
  (s.occupied 0).countP (fun x => decide (lo ≤ x.1 ∧ x.1 ≤ hi))

/-- A roster summary. -/
def State.summaryBytes (s : State) (e : Nat × Car) : List Byte :=
  u8 e.1 ++ codeBytes e.2.code ++ numberBytes e.2.number ++ u8 e.2.drive ++ u8 e.2.origin.toCode ++ yesNo e.2.entered
    ++ opt8 e.2.gridSlot ++ u8 e.2.race.state.toCode ++ u32 (s.ageMs e.2)

/-- The roster totals. -/
def State.rosterTotals (s : State) : List Byte :=
  u8 (s.occupiedIn 0 63) ++ u8 (s.occupiedIn 64 71) ++ yesNo s.roster.learning ++ u8 s.roster.ageLimit
    ++ tallyBytes s.roster.tallyLearned ++ tallyBytes s.roster.tallyLearnRefused ++ tallyBytes s.roster.tallyAged

/-- The data of QUERY_ROSTER: the totals (16 bytes), a page of 14-byte summaries, the next slot. -/
def State.rosterData (s : State) (start : Nat) : List Byte :=
  let pg := page (pageSize 18 14) s.summaryBytes (s.occupied start)
  s.rosterTotals ++ pg.1 ++ opt8 pg.2

/-- QUERY_ROSTER (R77). -/
def execQueryRoster (p : PortId) (tag : Byte) (payload : List Byte) (s : State) : Host.Outcome State Fault Refusal :=
  s.serve p 0x2B tag payload false 1 fun s =>
    if natAt payload 0 ≤ 71 then ok (s.rosterData (natAt payload 0)) s else refuse .badArgument s

/-- An entry of the entry list in a reply. -/
def entryBytes (x : Car) : List Byte :=
  opt8 x.gridSlot ++ codeBytes x.code ++ numberBytes x.number ++ u8 x.drive ++ u8 x.race.state.toCode

/-- QUERY_ENTRIES (R77). -/
def execQueryEntries (p : PortId) (tag : Byte) (payload : List Byte) (s : State) : Host.Outcome State Fault Refusal :=
  s.serve p 0x2C tag payload false 0 fun s => ok (u8 s.entries.length ++ s.entries.flatMap entryBytes) s

/-! ## QUERY_COURSE (R88) -/

/-- A course point in a reply: its gate address, 0 for absent, and its flags. -/
def CoursePoint.encode (q : CoursePoint) : List Byte :=
  (match q.gate with
    | some g => [gateByte g]
    | none => [0]) ++ yesNo q.serving ++ yesNo q.pit

/-- A section's five fields as in SET_SECTION. -/
def Sector.encode (t : Sector) : List Byte :=
  u8 t.laneRule.toCode ++ u8 t.pitRule.toCode ++ u16 t.minimum ++ u16 t.nominal ++ u16 t.pitMinimum

/-- The Lap Accounting tallies in R88's order. -/
def LapTallies.encode (t : LapTallies) : List Byte :=
  [t.late, t.moved, t.early, t.relocated, t.implausible, t.lost].flatMap tallyBytes

/-- The data of QUERY_COURSE. P is sent once and counts the points and the sections that follow it (DESIGN CHOICE,
notes/assumptions/26.md). -/
def State.courseData (s : State) : List Byte :=
  u8 s.pointCount ++ s.course.points.flatMap CoursePoint.encode ++ s.course.sectors.flatMap Sector.encode
    ++ yesNo s.validMap ++ yesNo s.course.shadow.isSome ++ s.course.settings.encode ++ s.course.tallies.encode

/-- QUERY_COURSE (R88). -/
def execQueryCourse (p : PortId) (tag : Byte) (payload : List Byte) (s : State) : Host.Outcome State Fault Refusal :=
  s.serve p 0x2D tag payload false 0 fun s => ok s.courseData s

/-! ## QUERY_RACE (R136) -/

/-- Index of the step playing and ms left on its deadline. -/
def State.stepBytes (s : State) : List Byte :=
  match s.race.step with
  | some t => u8 t.index.val ++ u32 (t.deadline.left s.time.session / 100)
  | none => [0xFF] ++ opt32 none

/-- The data of QUERY_RACE. Caution held is a byte of its own, the saved return state has the form it has in a STATE
notice, and the lamp pattern is the byte of the lamp outputs with CAUTION in bit 6 and STOP in bit 7 (DESIGN CHOICE,
notes/assumptions/26.md). -/
def State.raceData (s : State) : List Byte :=
  u8 s.race.state.toCode ++ yesNo s.race.held ++ savedByte s.race.saved ++ u8 s.race.reason.toCode ++ u32 s.raceMs
    ++ u32 (s.elapsed / 100) ++ u32 (s.neutral.toNat / 100) ++ [s.time.cautionEpoch, s.time.suspensionEpoch]
    ++ opt32 (s.race.raceLimit.map s.raceMsLeft) ++ opt32 (s.race.finishWindow.map s.raceMsLeft)
    ++ opt32 (s.race.practiceLimit.map s.raceMsLeft) ++ s.stepBytes ++ yesNo s.race.jumpWatch
    ++ opt32 (s.race.watchStart.map (fun w => (s.time.session - w).toNat / 100)) ++ [s.race.lamps]
    ++ s.race.program.encode

/-- QUERY_RACE (R136). -/
def execQueryRace (p : PortId) (tag : Byte) (payload : List Byte) (s : State) : Host.Outcome State Fault Refusal :=
  s.serve p 0x2E tag payload false 0 fun s => ok s.raceData s

/-! ## QUERY_PENALTY, QUERY_PENALTIES, QUERY_SCHEDULE (R161, R162) -/

/-- A record's position in its car's serve queue, 1 for the head (R161). A SERVING record is the head, whatever
stands before it in list order (R140). -/
def State.queuePosition (s : State) (r : Penalty) : Option Nat :=
  let q := s.serveQueue r.code
  let ordered := q.filter (fun x => x.state == .serving) ++ q.filter (fun x => x.state != .serving)
  (ordered.findIdx? (fun x => x.id == r.id)).map (· + 1)

/-- A record as QUERY_PENALTY reports it: deadlines as the race ms remaining, then the queue position. -/
def State.penaltyBytes (s : State) (r : Penalty) : List Byte :=
  r.encode (s.numberOf r.code) (r.review.map s.raceMsLeft) (r.stopGoEnd.map s.raceMsLeft) ++ opt8 (s.queuePosition r)

/-- QUERY_PENALTY (R161). -/
def execQueryPenalty (p : PortId) (tag : Byte) (payload : List Byte) (s : State) : Host.Outcome State Fault Refusal :=
  s.serve p 0x2F tag payload false 1 fun s =>
    match idOf (byteAt payload 0) with
    | some id =>
      match s.penalty id with
      | some r => ok (s.penaltyBytes r) s
      | none => refuse .notFound s
    | none => refuse .badArgument s

/-- The records of the list a QUERY_PENALTIES asks for, with their list positions. -/
def State.penaltiesFor (s : State) (c : Code) (start : Nat) : List (Nat × Penalty) :=
  (indexed 0 s.pen.list).filter (fun x =>
    decide (start ≤ x.1) && (decide (c = 0) || (decide (x.2.code = c) && (s.car c).isSome)))

/-- What a QUERY_PENALTIES for a code gives of its car besides the records. -/
def State.penaltyTotals (s : State) (c : Code) : List Byte :=
  match s.car c with
  | some x =>
    if c = 0 then []
    else
      u16 x.race.timePenalty ++ u16 x.race.deductions ++ u8 (((s.queueHead c).map Penalty.id).getD 0)
        ++ yesNo x.race.serving
  | none => []

/-- The data of QUERY_PENALTIES: tallies (12 bytes), number of records, a page of 29-byte records, the next position,
and for a code its car's totals (6 bytes). -/
def State.penaltiesData (s : State) (c : Code) (start : Nat) : List Byte :=
  let pg := page (pageSize 21 29) s.penaltyBytes (s.penaltiesFor c start)
  tallyBytes s.pen.tallyRaised ++ tallyBytes s.pen.tallyDropped ++ tallyBytes s.pen.tallyEvicted
    ++ u8 s.pen.list.length ++ pg.1 ++ opt8 pg.2 ++ s.penaltyTotals c

/-- QUERY_PENALTIES (R162). -/
def execQueryPenalties (p : PortId) (tag : Byte) (payload : List Byte) (s : State) :
    Host.Outcome State Fault Refusal :=
  s.serve p 0x30 tag payload false 3 fun s =>
    if wordAt payload 0 ≤ 0xEFFF ∧ natAt payload 2 ≤ 31 then
      ok (s.penaltiesData (codeAt payload 0) (natAt payload 2)) s
    else refuse .badArgument s

/-- QUERY_SCHEDULE (R162). -/
def execQuerySchedule (p : PortId) (tag : Byte) (payload : List Byte) (s : State) : Host.Outcome State Fault Refusal :=
  s.serve p 0x31 tag payload false 0 fun s =>
    ok ((indexed 0 s.pen.schedule.toList).flatMap (fun x => x.2.encode x.1)) s

/-! ## QUERY_PERMITS (R174) -/

/-- A row with the code and car number of its car, 0 and 0 when unoccupied (R200). -/
def State.rowBytes (s : State) (d : DriveIx) : List Byte :=
  s.power.rows[d].encode
    ++ (match s.driver d with
      | some x => codeBytes x.code ++ numberBytes x.number
      | none => [0, 0, 0, 0])

/-- The data of QUERY_PERMITS. -/
def State.permitsData (s : State) : List Byte :=
  yesNo s.power.linkUp ++ opt8 (s.power.status.map BaseStatus.toCode)
    ++ opt32 (s.power.lastPoll.map (fun t => (s.time.session - t).toNat / 100)) ++ yesNo s.power.trackEnable
    ++ u16 s.power.epoch.toNat ++ driveSlots.toList.flatMap s.rowBytes
    ++ [s.power.tallyPolls, s.power.tallyBadFrames, s.power.tallyUnanswered, s.power.tallyLinkLosses].flatMap tallyBytes

/-- QUERY_PERMITS (R174). -/
def execQueryPermits (p : PortId) (tag : Byte) (payload : List Byte) (s : State) : Host.Outcome State Fault Refusal :=
  s.serve p 0x32 tag payload false 0 fun s => ok s.permitsData s

/-! ## QUERY_STANDINGS (R183) -/

/-- The classification mark of a car: absent 0 before the classification is fixed (R181, R200). -/
def markCode (isFixed : Bool) (r : RacePart) : Nat := if isFixed then (if r.finishPos.isSome then 1 else 2) else 0

/-- The leader's entry. -/
def State.leader (s : State) : Option StandEntry := s.stand.list.head?

/-- An entry of the standings with its position. -/
def State.standBytes (s : State) (e : Nat × StandEntry) : List Byte :=
  let r := ((s.car e.2.code).map Car.race).getD RacePart.initial
  let lead := s.leader.getD e.2
  let behind := lead.laps - e.2.laps
  u8 e.1 ++ codeBytes e.2.code ++ numberBytes (s.numberOf e.2.code) ++ u8 e.2.grid ++ u8 r.state.toCode
    ++ u16 r.counted ++ i16 r.adjust ++ u16 r.deductions ++ u16 e.2.laps ++ u32 e.2.time ++ u32 r.lastCountedMs
    ++ u16 r.timePenalty ++ u16 behind ++ opt32 (if behind = 0 then some (e.2.time - lead.time) else none)
    ++ opt8 r.finishPos ++ u8 (markCode s.stand.fixed r)

/-- The standings from a position upward. -/
def State.standFrom (s : State) (start : Nat) : List (Nat × Nat × StandEntry) :=
  ((indexed 1 s.stand.list).map (fun x => (x.1, x.1, x.2))).filter (fun x => decide (start ≤ x.1))

/-- The data of QUERY_STANDINGS: 6 bytes, a page of 33-byte entries, the next position. -/
def State.standData (s : State) (start : Nat) : List Byte :=
  let pg := page (pageSize 8 33) s.standBytes (s.standFrom start)
  yesNo s.stand.formed ++ yesNo s.stand.fixed ++ u8 s.stand.amendments ++ u8 s.stand.list.length
    ++ codeBytes ((s.leader.map StandEntry.code).getD 0) ++ pg.1 ++ opt8 pg.2

/-- QUERY_STANDINGS (R183). -/
def execQueryStandings (p : PortId) (tag : Byte) (payload : List Byte) (s : State) :
    Host.Outcome State Fault Refusal :=
  s.serve p 0x33 tag payload false 1 fun s =>
    if 1 ≤ natAt payload 0 ∧ natAt payload 0 ≤ 32 then ok (s.standData (natAt payload 0)) s else refuse .badArgument s

/-! ## QUERY_PORT (R197) -/

/-- The baud rate of a port (R184). -/
def Port.baud (q : Port) : Nat := if q.fast then 460800 else 115200

/-- The counters of a port in R197's order. -/
def PortCounters.encode (c : PortCounters) : List Byte :=
  [c.framesTaken, c.droppedLen, c.droppedGap, c.droppedSum, c.busy, c.noticesSent, c.gapsSent,
    c.noticesLost].flatMap tallyBytes

/-- The data of QUERY_PORT. -/
def State.portData (s : State) (p : PortId) : List Byte :=
  let q := s.port p
  u32 q.baud ++ yesNo q.engaged ++ u8 q.busyList.length ++ yesNo q.hold.isSome
    ++ opt32 (q.hold.map (fun t => t.left s.time.session / 100)) ++ u16 q.cursor.toNat ++ u16 (q.unsent s.journal)
    ++ u16 q.lost ++ u16 s.journal.next.toNat ++ q.counters.encode

/-- QUERY_PORT (R197). -/
def execQueryPort (p : PortId) (tag : Byte) (payload : List Byte) (s : State) : Host.Outcome State Fault Refusal :=
  s.serve p 0x34 tag payload false 1 fun s =>
    match portOf (byteAt payload 0) with
    | some q => ok (s.portData q) s
    | none => refuse .badArgument s

end Sys2Proof.Machine
end

