-- ==== Sys2Proof/Machine/RosterCommands.lean ====
section
/-! DEFINITION. The requests and the event of the Roster (R61, R62, R66 to R75): registration, removal, learning,
aging, entry and retirement. -/

namespace Sys2Proof.Machine

open Sys2Proof

/-! ## Registration and removal (R62, R66, R67) -/

/-- A car number, 1 to 999 (R63, R66). -/
def carNumberOf (n : Nat) : Option Nat := if 1 ≤ n ∧ n ≤ 999 then some n else none

/-- A drive slot, 0 (none) or 1 to 32 (R63, R66). -/
def driveOf (n : Nat) : Option Nat := if n ≤ 32 then some n else none

/-- The reply data of a slot. -/
def slotBytes (i : Slot) : List Byte := u8 i.val

/-- A LEARNED record upgraded in place (R66 check 4). -/
def Car.upgraded (x : Car) (number drive : Nat) : Car :=
  { x with origin := .registered, number := some number, drive := drive }

/-- A registered record as created (R66 check 5). -/
def registeredCar (c : Code) (number drive : Nat) (seen : Time) : Car :=
  ⟨c, some number, drive, .registered, seen, false, none, RacePart.initial⟩

/-- Checks 3 to 5 of REGISTER_CAR. -/
def State.register (s : State) (c : Code) (number drive : Nat) : Served :=
  match s.roster.find c with
  | some i =>
    match s.roster.slots[i] with
    | some x =>
      if x.origin = .registered then refuse .conflict s
      else ok (slotBytes i) (s.putCar i (x.upgraded number drive))
    | none => refuse .conflict s
  | none =>
    match s.roster.place c with
    | some i => ok (slotBytes i) (s.putCar i (registeredCar c number drive s.time.session))
    | none => refuse .full s

/-- REGISTER_CAR (R66). -/
def execRegisterCar (p : PortId) (tag : Byte) (payload : List Byte) (s : State) : Host.Outcome State Fault Refusal :=
  s.serve p 0x19 tag payload true 5 fun s =>
    match carCodeOf payload 0, carNumberOf (wordAt payload 2), driveOf (natAt payload 4) with
    | some c, some number, some drive =>
      match s.race.state with
      | .idle | .practice => s.register c number drive
      | _ => refuse .refusedState s
    | _, _, _ => refuse .badArgument s

/-- A slot is emptied (R62). -/
def State.emptySlot (s : State) (i : Slot) : State := { s with roster.slots := s.roster.slots.set i none }

/-- REMOVE_CAR taken for a code (R67). -/
def State.removeCar (s : State) (c : Code) : Served :=
  match s.roster.find c, s.car c with
  | some i, some x => if x.entered then refuse .refusedState s else ok [] (s.emptySlot i)
  | _, _ => refuse .notFound s

/-- REMOVE_CAR (R67). -/
def execRemoveCar (p : PortId) (tag : Byte) (payload : List Byte) (s : State) : Host.Outcome State Fault Refusal :=
  s.serve p 0x1A tag payload true 2 fun s =>
    match carCodeOf payload 0 with
    | some c => s.removeCar c
    | none => refuse .badArgument s

/-! ## Learning and aging (R68 to R70) -/

/-- SET_LEARNING (R68). -/
def execSetLearning (p : PortId) (tag : Byte) (payload : List Byte) (s : State) : Host.Outcome State Fault Refusal :=
  s.serve p 0x1B tag payload true 1 fun s =>
    match boolOf (byteAt payload 0) with
    | some b => ok [] { s with roster.learning := b }
    | none => refuse .badArgument s

/-- SET_AGE_LIMIT (R69). -/
def execSetAgeLimit (p : PortId) (tag : Byte) (payload : List Byte) (s : State) : Host.Outcome State Fault Refusal :=
  s.serve p 0x1C tag payload true 1 fun s => ok [] { s with roster.ageLimit := clamp 1 255 (natAt payload 0) }

/-- A record that the aging check removes (R70). -/
def State.agesOut (s : State) (x : Car) : Bool :=
  decide (x.origin = .learned) && !x.entered
    && decide (s.roster.ageLimit * agingTicks ≤ (s.time.session - x.lastSeen).toNat)

/-- The aging check (R70): the timer restarts, and every record that has aged out is removed and counted. -/
def State.ageCheck (s : State) : State :=
  { s with
    roster.slots := mapVec (fun o => o.filter (fun x => !s.agesOut x)) s.roster.slots
    roster.aging := s.timer agingTicks
    roster.tallyAged := s.roster.tallyAged + BitVec.ofNat 32 (s.cars.countP s.agesOut) }

/-- AGING_CHECK (R70). -/
def execAgingCheck (s : State) : Host.Outcome State Fault Refusal :=
  .next (if s.roster.aging.due s.time.session then s.ageCheck else s)

/-! ## Entry (R71, R72) -/

/-- A grid slot, 0 (lowest free) or 1 to 32 (R71). -/
def gridOf (n : Nat) : Option Nat := if n ≤ 32 then some n else none

/-- The number of entered cars. -/
def State.entryCount (s : State) : Nat := s.cars.countP Car.entered

/-- Another entered car holds the drive slot (R71). -/
def State.driveHeld (s : State) (drive : Nat) : Bool := s.cars.any (fun x => x.entered && decide (x.drive = drive))

/-- An entered car holds the grid slot (R71). -/
def State.gridHeld (s : State) (grid : Nat) : Bool := s.cars.any (fun x => x.entered && decide (x.gridSlot = some grid))

/-- The lowest grid slot that no entered car holds (R71). -/
def State.lowestGrid (s : State) : Nat := (((List.range 32).map (· + 1)).find? (fun n => !s.gridHeld n)).getD 1

/-- An accepted ENTER with its grid slot: the record, the standings list (R177), the row of the drive slot. -/
def State.enterCar (s : State) (x : Car) (grid : Nat) : State :=
  (((s.modCar x.code (fun y => { y with entered := true, gridSlot := some grid })).standEnter x.code grid)).recomputeDrive
    x.drive

/-- Checks 3 to 7 of ENTER. -/
def State.enter (s : State) (c : Code) (grid : Nat) : Served :=
  match s.car c with
  | none => refuse .notFound s
  | some x =>
    if x.entered then refuse .already s
    else if 32 ≤ s.entryCount then refuse .full s
    else if decide (x.drive = 0) || s.driveHeld x.drive then refuse .conflict s
    else if decide (grid ≠ 0) && s.gridHeld grid then refuse .conflict s
    else
      let slot := if grid = 0 then s.lowestGrid else grid
      ok (u8 slot) (s.enterCar x slot)

/-- ENTER (R71). -/
def execEnter (p : PortId) (tag : Byte) (payload : List Byte) (s : State) : Host.Outcome State Fault Refusal :=
  s.serve p 0x1D tag payload true 3 fun s =>
    match carCodeOf payload 0, gridOf (natAt payload 2) with
    | some c, some grid => if s.race.state = .idle then s.enter c grid else refuse .refusedState s
    | _, _ => refuse .badArgument s

/-- An accepted WITHDRAW (R72, R177). -/
def State.withdrawCar (s : State) (x : Car) : State :=
  (((s.modCar x.code (fun y => { y with entered := false, gridSlot := none })).standWithdraw x.code)).recomputeDrive
    x.drive

/-- The last two checks of WITHDRAW. -/
def State.withdraw (s : State) (c : Code) : Served :=
  match s.car c with
  | none => refuse .notFound s
  | some x => if x.entered then ok [] (s.withdrawCar x) else refuse .already s

/-- WITHDRAW (R72). -/
def execWithdraw (p : PortId) (tag : Byte) (payload : List Byte) (s : State) : Host.Outcome State Fault Refusal :=
  s.serve p 0x1E tag payload true 2 fun s =>
    match carCodeOf payload 0 with
    | some c => if s.race.state = .idle then s.withdraw c else refuse .refusedState s
    | none => refuse .badArgument s

/-! ## Retirement (R75) -/

/-- An accepted RETIRE: the record, the settlement, the standings, the row, and in CHEQUERED the test of R130. -/
def State.retireCar (s : State) (c : Code) : State :=
  ((((s.modRace c (fun r => { r with state := .retired, silence := none })).settleCar c .retire).resort
    .retire).recomputeCar c).doneTest

/-- Checks 3 to 5 of RETIRE. -/
def State.retire (s : State) (c : Code) : Served :=
  match s.car c with
  | none => refuse .notFound s
  | some x =>
    if !x.entered then refuse .notFound s
    else
      match x.race.state with
      | .retired => refuse .already s
      | .finished => refuse .refusedState s
      | _ => ok [] (s.retireCar c)

/-- RETIRE (R75). -/
def execRetire (p : PortId) (tag : Byte) (payload : List Byte) (s : State) : Host.Outcome State Fault Refusal :=
  s.serve p 0x1F tag payload true 2 fun s =>
    match carCodeOf payload 0 with
    | some c => if s.race.state.racing then s.retire c else refuse .refusedState s
    | none => refuse .badArgument s

end Sys2Proof.Machine
end

