-- ==== Sys2Proof/Machine/Dispatch.lean ====
section
/-! DEFINITION. The effect of each command: one arm per constructor of Instr, each a call of its meaning. -/

namespace Sys2Proof.Machine

open Sys2Proof

/-- The effect of a command on everything but the queue. -/
def exec (i : Instr) (s : State) : Host.Outcome State Fault Refusal :=
  match i with
  | .hardReset strapA strapB => Sys2Proof.Machine.execHardReset strapA strapB s
  | .strobeEdge g => Sys2Proof.Machine.execStrobeEdge g s
  | .guardReferenceLapse g => Sys2Proof.Machine.execGuardReferenceLapse g s
  | .pairingLimit g => Sys2Proof.Machine.execPairingLimit g s
  | .lastCaptureLapse g => Sys2Proof.Machine.execLastCaptureLapse g s
  | .attemptTimeout => Sys2Proof.Machine.execAttemptTimeout s
  | .gateBusUnmatchedFrame tag kind payload => Sys2Proof.Machine.execGateBusUnmatchedFrame tag kind payload s
  | .probe g payload => Sys2Proof.Machine.execProbe g payload s
  | .setLanes g payload => Sys2Proof.Machine.execSetLanes g payload s
  | .setThreshold g payload => Sys2Proof.Machine.execSetThreshold g payload s
  | .enable g payload => Sys2Proof.Machine.execEnable g payload s
  | .fetch g payload => Sys2Proof.Machine.execFetch g payload s
  | .status g payload => Sys2Proof.Machine.execStatus g payload s
  | .patternOn g payload => Sys2Proof.Machine.execPatternOn g payload s
  | .checkFetch g payload => Sys2Proof.Machine.execCheckFetch g payload s
  | .patternOff g payload => Sys2Proof.Machine.execPatternOff g payload s
  | .settleDeadline g => Sys2Proof.Machine.execSettleDeadline g s
  | .statusPollTimer g => Sys2Proof.Machine.execStatusPollTimer g s
  | .faultProbeTimer g => Sys2Proof.Machine.execFaultProbeTimer g s
  | .quietDeadline g lane => Sys2Proof.Machine.execQuietDeadline g lane s
  | .strayMemoryLapse => Sys2Proof.Machine.execStrayMemoryLapse s
  | .unattributedExpiry id => Sys2Proof.Machine.execUnattributedExpiry id s
  | .agingCheck => Sys2Proof.Machine.execAgingCheck s
  | .silenceDeadline code => Sys2Proof.Machine.execSilenceDeadline code s
  | .stepDeadline => Sys2Proof.Machine.execStepDeadline s
  | .practiceLimit => Sys2Proof.Machine.execPracticeLimit s
  | .raceLimitDeadline => Sys2Proof.Machine.execRaceLimitDeadline s
  | .finishWindow => Sys2Proof.Machine.execFinishWindow s
  | .elapsedLimit => Sys2Proof.Machine.execElapsedLimit s
  | .reviewDeadlineExpiry id => Sys2Proof.Machine.execReviewDeadlineExpiry id s
  | .stopGoEnd id => Sys2Proof.Machine.execStopGoEnd id s
  | .pbPoll tag payload => Sys2Proof.Machine.execPbPoll tag payload s
  | .powerLinkFrameDrop bytes => Sys2Proof.Machine.execPowerLinkFrameDrop bytes s
  | .powerLinkGap bytes lastAt => Sys2Proof.Machine.execPowerLinkGap bytes lastAt s
  | .permits => Sys2Proof.Machine.execPermits s
  | .linkSilenceDeadline => Sys2Proof.Machine.execLinkSilenceDeadline s
  | .consoleFrameDrop p bytes => Sys2Proof.Machine.execConsoleFrameDrop p bytes s
  | .consoleGap p bytes lastAt => Sys2Proof.Machine.execConsoleGap p bytes lastAt s
  | .busy p kind tag payload => Sys2Proof.Machine.execBusy p kind tag payload s
  | .unknownKind p kind tag payload => Sys2Proof.Machine.execUnknownKind p kind tag payload s
  | .transmitEnd p => Sys2Proof.Machine.execTransmitEnd p s
  | .holdDeadline p => Sys2Proof.Machine.execHoldDeadline p s
  | .openPractice p tag payload => Sys2Proof.Machine.execOpenPractice p tag payload s
  | .endPractice p tag payload => Sys2Proof.Machine.execEndPractice p tag payload s
  | .formGrid p tag payload => Sys2Proof.Machine.execFormGrid p tag payload s
  | .standDown p tag payload => Sys2Proof.Machine.execStandDown p tag payload s
  | .start p tag payload => Sys2Proof.Machine.execStart p tag payload s
  | .abortStart p tag payload => Sys2Proof.Machine.execAbortStart p tag payload s
  | .caution p tag payload => Sys2Proof.Machine.execCaution p tag payload s
  | .lift p tag payload => Sys2Proof.Machine.execLift p tag payload s
  | .suspend p tag payload => Sys2Proof.Machine.execSuspend p tag payload s
  | .resume p tag payload => Sys2Proof.Machine.execResume p tag payload s
  | .close p tag payload => Sys2Proof.Machine.execClose p tag payload s
  | .release p tag payload => Sys2Proof.Machine.execRelease p tag payload s
  | .softReset p tag payload => Sys2Proof.Machine.execSoftReset p tag payload s
  | .setStartProgram p tag payload => Sys2Proof.Machine.execSetStartProgram p tag payload s
  | .setRaceSettings p tag payload => Sys2Proof.Machine.execSetRaceSettings p tag payload s
  | .setPointCount p tag payload => Sys2Proof.Machine.execSetPointCount p tag payload s
  | .setCoursePoint p tag payload => Sys2Proof.Machine.execSetCoursePoint p tag payload s
  | .setSection p tag payload => Sys2Proof.Machine.execSetSection p tag payload s
  | .setGate p tag payload => Sys2Proof.Machine.execSetGate p tag payload s
  | .removeGate p tag payload => Sys2Proof.Machine.execRemoveGate p tag payload s
  | .gateCheck p tag payload => Sys2Proof.Machine.execGateCheck p tag payload s
  | .setCounters p tag payload => Sys2Proof.Machine.execSetCounters p tag payload s
  | .clearCounters p tag payload => Sys2Proof.Machine.execClearCounters p tag payload s
  | .clearStuck p tag payload => Sys2Proof.Machine.execClearStuck p tag payload s
  | .registerCar p tag payload => Sys2Proof.Machine.execRegisterCar p tag payload s
  | .removeCar p tag payload => Sys2Proof.Machine.execRemoveCar p tag payload s
  | .setLearning p tag payload => Sys2Proof.Machine.execSetLearning p tag payload s
  | .setAgeLimit p tag payload => Sys2Proof.Machine.execSetAgeLimit p tag payload s
  | .enter p tag payload => Sys2Proof.Machine.execEnter p tag payload s
  | .withdraw p tag payload => Sys2Proof.Machine.execWithdraw p tag payload s
  | .retire p tag payload => Sys2Proof.Machine.execRetire p tag payload s
  | .adjustLaps p tag payload => Sys2Proof.Machine.execAdjustLaps p tag payload s
  | .setSchedule p tag payload => Sys2Proof.Machine.execSetSchedule p tag payload s
  | .assign p tag payload => Sys2Proof.Machine.execAssign p tag payload s
  | .discard p tag payload => Sys2Proof.Machine.execDiscard p tag payload s
  | .call p tag payload => Sys2Proof.Machine.execCall p tag payload s
  | .confirm p tag payload => Sys2Proof.Machine.execConfirm p tag payload s
  | .waive p tag payload => Sys2Proof.Machine.execWaive p tag payload s
  | .hold p tag payload => Sys2Proof.Machine.execHold p tag payload s
  | .queryGate p tag payload => Sys2Proof.Machine.execQueryGate p tag payload s
  | .queryUnattributed p tag payload => Sys2Proof.Machine.execQueryUnattributed p tag payload s
  | .queryCar p tag payload => Sys2Proof.Machine.execQueryCar p tag payload s
  | .queryRoster p tag payload => Sys2Proof.Machine.execQueryRoster p tag payload s
  | .queryEntries p tag payload => Sys2Proof.Machine.execQueryEntries p tag payload s
  | .queryCourse p tag payload => Sys2Proof.Machine.execQueryCourse p tag payload s
  | .queryRace p tag payload => Sys2Proof.Machine.execQueryRace p tag payload s
  | .queryPenalty p tag payload => Sys2Proof.Machine.execQueryPenalty p tag payload s
  | .queryPenalties p tag payload => Sys2Proof.Machine.execQueryPenalties p tag payload s
  | .querySchedule p tag payload => Sys2Proof.Machine.execQuerySchedule p tag payload s
  | .queryPermits p tag payload => Sys2Proof.Machine.execQueryPermits p tag payload s
  | .queryStandings p tag payload => Sys2Proof.Machine.execQueryStandings p tag payload s
  | .queryPort p tag payload => Sys2Proof.Machine.execQueryPort p tag payload s
  | .tick strobes => Sys2Proof.Machine.execTick strobes s
  | .badSumReply => Sys2Proof.Machine.execBadSumReply s
  | .commandSent => Sys2Proof.Machine.execCommandSent s

end Sys2Proof.Machine
end

