-- ==== Sys2Proof/Laws/PerInstr.lean ====
section
/-! SUPPORT. Per-instruction statements. RequestKinds: a request's KIND with its port, TAG and payload decodes to that
request, and to no other. -/

namespace Sys2Proof.Laws

open Sys2Proof

/-- The request decodes from its own KIND, port, TAG and payload. -/
def RequestKinds.Statement (i : Instr) : Prop :=
  ∀ kind p tag payload, i.request = some (kind, p, tag, payload) → decodeRequest kind p tag payload = some i

theorem RequestKinds.hardReset (strapA strapB : Bool) : RequestKinds.Statement (.hardReset strapA strapB) := by
  intro k p' t' l h; cases h

theorem RequestKinds.strobeEdge (g : Gate) : RequestKinds.Statement (.strobeEdge g) := by
  intro k p' t' l h; cases h

theorem RequestKinds.guardReferenceLapse (g : Gate) : RequestKinds.Statement (.guardReferenceLapse g) := by
  intro k p' t' l h; cases h

theorem RequestKinds.pairingLimit (g : Gate) : RequestKinds.Statement (.pairingLimit g) := by
  intro k p' t' l h; cases h

theorem RequestKinds.lastCaptureLapse (g : Gate) : RequestKinds.Statement (.lastCaptureLapse g) := by
  intro k p' t' l h; cases h

theorem RequestKinds.attemptTimeout : RequestKinds.Statement .attemptTimeout := by
  intro k p' t' l h; cases h

theorem RequestKinds.gateBusUnmatchedFrame (tag kind : Byte) (payload : List Byte) : RequestKinds.Statement (.gateBusUnmatchedFrame tag kind payload) := by
  intro k p' t' l h; cases h

theorem RequestKinds.probe (g : Gate) (payload : List Byte) : RequestKinds.Statement (.probe g payload) := by
  intro k p' t' l h; cases h

theorem RequestKinds.setLanes (g : Gate) (payload : List Byte) : RequestKinds.Statement (.setLanes g payload) := by
  intro k p' t' l h; cases h

theorem RequestKinds.setThreshold (g : Gate) (payload : List Byte) : RequestKinds.Statement (.setThreshold g payload) := by
  intro k p' t' l h; cases h

theorem RequestKinds.enable (g : Gate) (payload : List Byte) : RequestKinds.Statement (.enable g payload) := by
  intro k p' t' l h; cases h

theorem RequestKinds.fetch (g : Gate) (payload : List Byte) : RequestKinds.Statement (.fetch g payload) := by
  intro k p' t' l h; cases h

theorem RequestKinds.status (g : Gate) (payload : List Byte) : RequestKinds.Statement (.status g payload) := by
  intro k p' t' l h; cases h

theorem RequestKinds.patternOn (g : Gate) (payload : List Byte) : RequestKinds.Statement (.patternOn g payload) := by
  intro k p' t' l h; cases h

theorem RequestKinds.checkFetch (g : Gate) (payload : List Byte) : RequestKinds.Statement (.checkFetch g payload) := by
  intro k p' t' l h; cases h

theorem RequestKinds.patternOff (g : Gate) (payload : List Byte) : RequestKinds.Statement (.patternOff g payload) := by
  intro k p' t' l h; cases h

theorem RequestKinds.settleDeadline (g : Gate) : RequestKinds.Statement (.settleDeadline g) := by
  intro k p' t' l h; cases h

theorem RequestKinds.statusPollTimer (g : Gate) : RequestKinds.Statement (.statusPollTimer g) := by
  intro k p' t' l h; cases h

theorem RequestKinds.faultProbeTimer (g : Gate) : RequestKinds.Statement (.faultProbeTimer g) := by
  intro k p' t' l h; cases h

theorem RequestKinds.quietDeadline (g : Gate) (lane : Lane) : RequestKinds.Statement (.quietDeadline g lane) := by
  intro k p' t' l h; cases h

theorem RequestKinds.strayMemoryLapse : RequestKinds.Statement .strayMemoryLapse := by
  intro k p' t' l h; cases h

theorem RequestKinds.unattributedExpiry (id : Nat) : RequestKinds.Statement (.unattributedExpiry id) := by
  intro k p' t' l h; cases h

theorem RequestKinds.agingCheck : RequestKinds.Statement .agingCheck := by
  intro k p' t' l h; cases h

theorem RequestKinds.silenceDeadline (code : Code) : RequestKinds.Statement (.silenceDeadline code) := by
  intro k p' t' l h; cases h

theorem RequestKinds.stepDeadline : RequestKinds.Statement .stepDeadline := by
  intro k p' t' l h; cases h

theorem RequestKinds.practiceLimit : RequestKinds.Statement .practiceLimit := by
  intro k p' t' l h; cases h

theorem RequestKinds.raceLimitDeadline : RequestKinds.Statement .raceLimitDeadline := by
  intro k p' t' l h; cases h

theorem RequestKinds.finishWindow : RequestKinds.Statement .finishWindow := by
  intro k p' t' l h; cases h

theorem RequestKinds.elapsedLimit : RequestKinds.Statement .elapsedLimit := by
  intro k p' t' l h; cases h

theorem RequestKinds.reviewDeadlineExpiry (id : Nat) : RequestKinds.Statement (.reviewDeadlineExpiry id) := by
  intro k p' t' l h; cases h

theorem RequestKinds.stopGoEnd (id : Nat) : RequestKinds.Statement (.stopGoEnd id) := by
  intro k p' t' l h; cases h

theorem RequestKinds.pbPoll (tag : Byte) (payload : List Byte) : RequestKinds.Statement (.pbPoll tag payload) := by
  intro k p' t' l h; cases h

theorem RequestKinds.powerLinkFrameDrop (bytes : List Byte) : RequestKinds.Statement (.powerLinkFrameDrop bytes) := by
  intro k p' t' l h; cases h

theorem RequestKinds.powerLinkGap (bytes : List Byte) (lastAt : Time) : RequestKinds.Statement (.powerLinkGap bytes lastAt) := by
  intro k p' t' l h; cases h

theorem RequestKinds.permits : RequestKinds.Statement .permits := by
  intro k p' t' l h; cases h

theorem RequestKinds.linkSilenceDeadline : RequestKinds.Statement .linkSilenceDeadline := by
  intro k p' t' l h; cases h

theorem RequestKinds.consoleFrameDrop (p : PortId) (bytes : List Byte) : RequestKinds.Statement (.consoleFrameDrop p bytes) := by
  intro k p' t' l h; cases h

theorem RequestKinds.consoleGap (p : PortId) (bytes : List Byte) (lastAt : Time) : RequestKinds.Statement (.consoleGap p bytes lastAt) := by
  intro k p' t' l h; cases h

theorem RequestKinds.busy (p : PortId) (kind tag : Byte) (payload : List Byte) : RequestKinds.Statement (.busy p kind tag payload) := by
  intro k p' t' l h; cases h

theorem RequestKinds.unknownKind (p : PortId) (kind tag : Byte) (payload : List Byte) : RequestKinds.Statement (.unknownKind p kind tag payload) := by
  intro k p' t' l h; cases h

theorem RequestKinds.transmitEnd (p : PortId) : RequestKinds.Statement (.transmitEnd p) := by
  intro k p' t' l h; cases h

theorem RequestKinds.holdDeadline (p : PortId) : RequestKinds.Statement (.holdDeadline p) := by
  intro k p' t' l h; cases h

theorem RequestKinds.openPractice (p : PortId) (tag : Byte) (payload : List Byte) : RequestKinds.Statement (.openPractice p tag payload) := by
  intro k p' t' l h; cases h; rfl

theorem RequestKinds.endPractice (p : PortId) (tag : Byte) (payload : List Byte) : RequestKinds.Statement (.endPractice p tag payload) := by
  intro k p' t' l h; cases h; rfl

theorem RequestKinds.formGrid (p : PortId) (tag : Byte) (payload : List Byte) : RequestKinds.Statement (.formGrid p tag payload) := by
  intro k p' t' l h; cases h; rfl

theorem RequestKinds.standDown (p : PortId) (tag : Byte) (payload : List Byte) : RequestKinds.Statement (.standDown p tag payload) := by
  intro k p' t' l h; cases h; rfl

theorem RequestKinds.start (p : PortId) (tag : Byte) (payload : List Byte) : RequestKinds.Statement (.start p tag payload) := by
  intro k p' t' l h; cases h; rfl

theorem RequestKinds.abortStart (p : PortId) (tag : Byte) (payload : List Byte) : RequestKinds.Statement (.abortStart p tag payload) := by
  intro k p' t' l h; cases h; rfl

theorem RequestKinds.caution (p : PortId) (tag : Byte) (payload : List Byte) : RequestKinds.Statement (.caution p tag payload) := by
  intro k p' t' l h; cases h; rfl

theorem RequestKinds.lift (p : PortId) (tag : Byte) (payload : List Byte) : RequestKinds.Statement (.lift p tag payload) := by
  intro k p' t' l h; cases h; rfl

theorem RequestKinds.suspend (p : PortId) (tag : Byte) (payload : List Byte) : RequestKinds.Statement (.suspend p tag payload) := by
  intro k p' t' l h; cases h; rfl

theorem RequestKinds.resume (p : PortId) (tag : Byte) (payload : List Byte) : RequestKinds.Statement (.resume p tag payload) := by
  intro k p' t' l h; cases h; rfl

theorem RequestKinds.close (p : PortId) (tag : Byte) (payload : List Byte) : RequestKinds.Statement (.close p tag payload) := by
  intro k p' t' l h; cases h; rfl

theorem RequestKinds.release (p : PortId) (tag : Byte) (payload : List Byte) : RequestKinds.Statement (.release p tag payload) := by
  intro k p' t' l h; cases h; rfl

theorem RequestKinds.softReset (p : PortId) (tag : Byte) (payload : List Byte) : RequestKinds.Statement (.softReset p tag payload) := by
  intro k p' t' l h; cases h; rfl

theorem RequestKinds.setStartProgram (p : PortId) (tag : Byte) (payload : List Byte) : RequestKinds.Statement (.setStartProgram p tag payload) := by
  intro k p' t' l h; cases h; rfl

theorem RequestKinds.setRaceSettings (p : PortId) (tag : Byte) (payload : List Byte) : RequestKinds.Statement (.setRaceSettings p tag payload) := by
  intro k p' t' l h; cases h; rfl

theorem RequestKinds.setPointCount (p : PortId) (tag : Byte) (payload : List Byte) : RequestKinds.Statement (.setPointCount p tag payload) := by
  intro k p' t' l h; cases h; rfl

theorem RequestKinds.setCoursePoint (p : PortId) (tag : Byte) (payload : List Byte) : RequestKinds.Statement (.setCoursePoint p tag payload) := by
  intro k p' t' l h; cases h; rfl

theorem RequestKinds.setSection (p : PortId) (tag : Byte) (payload : List Byte) : RequestKinds.Statement (.setSection p tag payload) := by
  intro k p' t' l h; cases h; rfl

theorem RequestKinds.setGate (p : PortId) (tag : Byte) (payload : List Byte) : RequestKinds.Statement (.setGate p tag payload) := by
  intro k p' t' l h; cases h; rfl

theorem RequestKinds.removeGate (p : PortId) (tag : Byte) (payload : List Byte) : RequestKinds.Statement (.removeGate p tag payload) := by
  intro k p' t' l h; cases h; rfl

theorem RequestKinds.gateCheck (p : PortId) (tag : Byte) (payload : List Byte) : RequestKinds.Statement (.gateCheck p tag payload) := by
  intro k p' t' l h; cases h; rfl

theorem RequestKinds.setCounters (p : PortId) (tag : Byte) (payload : List Byte) : RequestKinds.Statement (.setCounters p tag payload) := by
  intro k p' t' l h; cases h; rfl

theorem RequestKinds.clearCounters (p : PortId) (tag : Byte) (payload : List Byte) : RequestKinds.Statement (.clearCounters p tag payload) := by
  intro k p' t' l h; cases h; rfl

theorem RequestKinds.clearStuck (p : PortId) (tag : Byte) (payload : List Byte) : RequestKinds.Statement (.clearStuck p tag payload) := by
  intro k p' t' l h; cases h; rfl

theorem RequestKinds.registerCar (p : PortId) (tag : Byte) (payload : List Byte) : RequestKinds.Statement (.registerCar p tag payload) := by
  intro k p' t' l h; cases h; rfl

theorem RequestKinds.removeCar (p : PortId) (tag : Byte) (payload : List Byte) : RequestKinds.Statement (.removeCar p tag payload) := by
  intro k p' t' l h; cases h; rfl

theorem RequestKinds.setLearning (p : PortId) (tag : Byte) (payload : List Byte) : RequestKinds.Statement (.setLearning p tag payload) := by
  intro k p' t' l h; cases h; rfl

theorem RequestKinds.setAgeLimit (p : PortId) (tag : Byte) (payload : List Byte) : RequestKinds.Statement (.setAgeLimit p tag payload) := by
  intro k p' t' l h; cases h; rfl

theorem RequestKinds.enter (p : PortId) (tag : Byte) (payload : List Byte) : RequestKinds.Statement (.enter p tag payload) := by
  intro k p' t' l h; cases h; rfl

theorem RequestKinds.withdraw (p : PortId) (tag : Byte) (payload : List Byte) : RequestKinds.Statement (.withdraw p tag payload) := by
  intro k p' t' l h; cases h; rfl

theorem RequestKinds.retire (p : PortId) (tag : Byte) (payload : List Byte) : RequestKinds.Statement (.retire p tag payload) := by
  intro k p' t' l h; cases h; rfl

theorem RequestKinds.adjustLaps (p : PortId) (tag : Byte) (payload : List Byte) : RequestKinds.Statement (.adjustLaps p tag payload) := by
  intro k p' t' l h; cases h; rfl

theorem RequestKinds.setSchedule (p : PortId) (tag : Byte) (payload : List Byte) : RequestKinds.Statement (.setSchedule p tag payload) := by
  intro k p' t' l h; cases h; rfl

theorem RequestKinds.assign (p : PortId) (tag : Byte) (payload : List Byte) : RequestKinds.Statement (.assign p tag payload) := by
  intro k p' t' l h; cases h; rfl

theorem RequestKinds.discard (p : PortId) (tag : Byte) (payload : List Byte) : RequestKinds.Statement (.discard p tag payload) := by
  intro k p' t' l h; cases h; rfl

theorem RequestKinds.call (p : PortId) (tag : Byte) (payload : List Byte) : RequestKinds.Statement (.call p tag payload) := by
  intro k p' t' l h; cases h; rfl

theorem RequestKinds.confirm (p : PortId) (tag : Byte) (payload : List Byte) : RequestKinds.Statement (.confirm p tag payload) := by
  intro k p' t' l h; cases h; rfl

theorem RequestKinds.waive (p : PortId) (tag : Byte) (payload : List Byte) : RequestKinds.Statement (.waive p tag payload) := by
  intro k p' t' l h; cases h; rfl

theorem RequestKinds.hold (p : PortId) (tag : Byte) (payload : List Byte) : RequestKinds.Statement (.hold p tag payload) := by
  intro k p' t' l h; cases h; rfl

theorem RequestKinds.queryGate (p : PortId) (tag : Byte) (payload : List Byte) : RequestKinds.Statement (.queryGate p tag payload) := by
  intro k p' t' l h; cases h; rfl

theorem RequestKinds.queryUnattributed (p : PortId) (tag : Byte) (payload : List Byte) : RequestKinds.Statement (.queryUnattributed p tag payload) := by
  intro k p' t' l h; cases h; rfl

theorem RequestKinds.queryCar (p : PortId) (tag : Byte) (payload : List Byte) : RequestKinds.Statement (.queryCar p tag payload) := by
  intro k p' t' l h; cases h; rfl

theorem RequestKinds.queryRoster (p : PortId) (tag : Byte) (payload : List Byte) : RequestKinds.Statement (.queryRoster p tag payload) := by
  intro k p' t' l h; cases h; rfl

theorem RequestKinds.queryEntries (p : PortId) (tag : Byte) (payload : List Byte) : RequestKinds.Statement (.queryEntries p tag payload) := by
  intro k p' t' l h; cases h; rfl

theorem RequestKinds.queryCourse (p : PortId) (tag : Byte) (payload : List Byte) : RequestKinds.Statement (.queryCourse p tag payload) := by
  intro k p' t' l h; cases h; rfl

theorem RequestKinds.queryRace (p : PortId) (tag : Byte) (payload : List Byte) : RequestKinds.Statement (.queryRace p tag payload) := by
  intro k p' t' l h; cases h; rfl

theorem RequestKinds.queryPenalty (p : PortId) (tag : Byte) (payload : List Byte) : RequestKinds.Statement (.queryPenalty p tag payload) := by
  intro k p' t' l h; cases h; rfl

theorem RequestKinds.queryPenalties (p : PortId) (tag : Byte) (payload : List Byte) : RequestKinds.Statement (.queryPenalties p tag payload) := by
  intro k p' t' l h; cases h; rfl

theorem RequestKinds.querySchedule (p : PortId) (tag : Byte) (payload : List Byte) : RequestKinds.Statement (.querySchedule p tag payload) := by
  intro k p' t' l h; cases h; rfl

theorem RequestKinds.queryPermits (p : PortId) (tag : Byte) (payload : List Byte) : RequestKinds.Statement (.queryPermits p tag payload) := by
  intro k p' t' l h; cases h; rfl

theorem RequestKinds.queryStandings (p : PortId) (tag : Byte) (payload : List Byte) : RequestKinds.Statement (.queryStandings p tag payload) := by
  intro k p' t' l h; cases h; rfl

theorem RequestKinds.queryPort (p : PortId) (tag : Byte) (payload : List Byte) : RequestKinds.Statement (.queryPort p tag payload) := by
  intro k p' t' l h; cases h; rfl

theorem RequestKinds.tick (strobes : BitVec 12) : RequestKinds.Statement (.tick strobes) := by
  intro k p' t' l h; cases h

theorem RequestKinds.badSumReply : RequestKinds.Statement .badSumReply := by
  intro k p' t' l h; cases h

theorem RequestKinds.commandSent : RequestKinds.Statement .commandSent := by
  intro k p' t' l h; cases h

end Sys2Proof.Laws
end

