-- ==== Sys2Proof/Safety.lean ====
section
/-! DEFINITION. The terms statements use: a request that is taken, the answer it gets, what an event leaves alone, and
the invariants of the part. -/

namespace Sys2Proof.Machine

open Sys2Proof

/-! ## Requests and answers -/

/-- A frame of this KIND, TAG and payload is taken and judged beyond step 1 of R186: the port is not engaged, and the
frame is the next one its receiver completes. -/
abbrev State.takes (s : State) (p : PortId) (kind tag : Byte) (payload : List Byte) : Prop :=
  (s.port p).engaged = false ∧ (s.port p).rx.completes payload (ltFrame kind tag payload) = true

/-- The reply to a request waits in the port's reply place or is being sent (R187, R189), and the port is engaged. -/
abbrev State.answered (s : State) (p : PortId) (kind tag : Byte) (st : ReplyStatus) (data : List Byte) : Prop :=
  (s.port p).engaged = true ∧
    ((s.port p).reply = some (replyFrame kind tag ⟨st, data⟩)
      ∨ (s.port p).tx = some ⟨.reply, replyFrame kind tag ⟨st, data⟩⟩)

/-- A command changes nothing outside the two console ports. -/
abbrev State.onlyPorts (s t : State) : Prop := t = { s with portA := t.portA, portB := t.portB }

/-- A command changes nothing outside the gate bus, the journal and the two console ports. -/
abbrev State.onlyBus (s t : State) : Prop :=
  t = { s with bus := t.bus, journal := t.journal, portA := t.portA, portB := t.portB }

/-- The journal after one more notice with this race ms (R193). -/
def Journal.added (j : Journal) (ms : Nat) (n : Notice) : Journal :=
  ⟨newest256 (j.ring ++ [⟨j.next, ms, n⟩]), j.next + 1⟩

/-- An open transaction of the gate bus whose outcome will count (R17, R30). -/
abbrev State.onLine (s : State) (g : Gate) (k : BusKind) : Prop :=
  ∃ x, s.bus.line = some x ∧ x.gate = g ∧ x.kind = k ∧ x.discarded = false

/-- The rows, the track-enable line and the lamps show the state of the part (R111, R165, R166, R173, R135). -/
abbrev State.shown (t : State) : Prop :=
  (∀ d : DriveIx, t.power.rows[d] = t.rowOf d) ∧
    t.power.trackEnable = (t.race.state.clockRuns && t.power.linkUp) ∧ t.race.lamps = t.lampPattern

/-- Of the power link, only rows, epoch and track-enable line differ. -/
abbrev State.powerKept (s t : State) : Prop :=
  t.power = { s.power with rows := t.power.rows, epoch := t.power.epoch, trackEnable := t.power.trackEnable }

/-- Every slot holds the changed record of its car, and the roster's own fields stand. -/
abbrev State.carsMapped (s t : State) (f : Car → Car) : Prop :=
  (∀ i : Slot, t.roster.slots[i] = s.roster.slots[i].map f) ∧ t.roster = { s.roster with slots := t.roster.slots }

/-- The record of one code is this one and every other code's record stands. -/
abbrev State.carSet (s t : State) (c : Code) (y : Car) : Prop :=
  t.car c = some y ∧ ∀ d : Code, d ≠ c → t.car d = s.car d

/-- A session-clock deadline that has been reached (R2). -/
abbrev State.reached (s : State) (w : Timer) : Prop := w.len ≤ (s.time.session - w.start).toNat

/-- Practice has ended with this reason (R114). -/
abbrev State.practiceEnded (s t : State) (reason : StateReason) : Prop :=
  t.race = { s.race with state := .idle, practiceLimit := none, reason := reason, lamps := 0 } ∧
    t.time = { s.time with green := 0, nClosed := 0, s0 := 0, latched := none } ∧
    s.carsMapped t (fun x => { x with race := { x.race with state := .idle, silence := none } }) ∧
    t.shown ∧ s.powerKept t ∧
    t.journal = s.journal.added 0 (.state .practice .idle s.race.held none reason) ∧
    t = { s with
      time := t.time, race := t.race, roster := t.roster, power := t.power, journal := t.journal, portA := t.portA
      portB := t.portB }

/-- The race is suspended with this reason (R125). -/
abbrev State.suspendedWith (s t : State) (reason : StateReason) (saved : SavedState) : Prop :=
  t.race = { s.race with
    state := .suspended, held := false, saved := some saved, reason := reason, lamps := 0x80 } ∧
    t.time = { s.time with s0 := s.time.session, suspensionEpoch := s.time.suspensionEpoch + 1 } ∧
    t.shown ∧ t.journal = s.journal.added s.raceMs (.state s.race.state .suspended false (some saved) reason) ∧
    t = { s with
      time := t.time, race := t.race, power := t.power, journal := t.journal, portA := t.portA, portB := t.portB }

/-- A countdown is aborted to GRID with this reason (R122). -/
abbrev State.abortedWith (s t : State) (reason : StateReason) : Prop :=
  t.race = { s.race with
    state := .grid, jumpWatch := false, watchStart := none, reason := reason, step := t.race.step
    lamps := t.race.lamps } ∧
    t.race.step.map StepTimer.index = some s.race.program.g0 ∧ t.shown ∧
    t.journal = s.journal.added 0 (.state .countdown .grid s.race.held none reason) ∧
    t = { s with race := t.race, power := t.power, journal := t.journal, portA := t.portA, portB := t.portB }

/-- The race has been closed with this reason (R85, R107, R132, R157). -/
abbrev State.closedWith (s t : State) (reason : StateReason) : Prop :=
  t.race = { s.race with
    state := .closed, held := false, saved := none, raceLimit := none, finishWindow := none, reason := reason
    lamps := 0x80 } ∧
    t.time = { s.time with
      latched := some s.raceClock
      nClosed := if s.race.state = .suspended then s.time.nClosed + (s.time.session - s.time.s0)
        else s.time.nClosed } ∧
    t.course = { s.course with sectors := s.course.shadow.getD s.course.sectors, shadow := none } ∧
    (∀ x ∈ t.cars, x.race.silence = none) ∧
    t.pen.list.map Penalty.id = s.pen.list.map Penalty.id ∧
    (∀ r ∈ t.pen.list, r.state ≠ .review ∧ r.state ≠ .serving ∧ r.queued = false) ∧
    t.stand.fixed = true ∧ t.shown ∧ (∀ d : DriveIx, t.power.rows[d].cap = 0) ∧
    t = { s with
      time := t.time, race := t.race, roster := t.roster, course := t.course, pen := t.pen, stand := t.stand
      power := t.power, journal := t.journal, portA := t.portA, portB := t.portB }

/-- A record after its confirmation (R147): TIME, LAP_DEDUCT and WARNING are served at once; a serve outcome is
converted in CLOSED, for a car FINISHED or RETIRED, or as a STOP_GO with no serving point, and otherwise waits
CONFIRMED at 0 laps as head. -/
def State.confirmedAs (s : State) (d : Decider) (r : Penalty) : Penalty :=
  if r.outcome = .time ∨ r.outcome = .lapDeduct ∨ r.outcome = .warning then
    { r with decided := some d, review := none, state := .served }
  else if s.race.state = .closed
      ∨ (∃ x, s.car r.code = some x ∧ (x.race.state = .finished ∨ x.race.state = .retired))
      ∨ (r.outcome = .stopGo ∧ ∀ q ∈ s.course.points, q.serving = false) then
    { r with
      decided := some d, review := none, state := .converted, lapsAsHead := none, stopGoEnd := none
      lockoutLeft := none }
  else { r with decided := some d, review := none, state := .confirmed, lapsAsHead := some 0 }

/-- What the confirmation of a record does to the totals of its car: TIME adds its seconds and LAP_DEDUCT its laps
(R148), and a serve outcome converted at once adds its conversion seconds (R154). -/
def State.paid (s : State) (r : Penalty) (x : Car) : Car :=
  { x with race := { x.race with
    timePenalty :=
      if r.outcome = .time then min 65535 (x.race.timePenalty + r.amount)
      else if (s.confirmedAs .auto r).state = .converted then min 65535 (x.race.timePenalty + r.conversion)
      else x.race.timePenalty
    deductions := if r.outcome = .lapDeduct then min 999 (x.race.deductions + r.amount) else x.race.deductions } }

/-- The identifier a new record takes when the next one and those in use are these: the next one, or the first above it
that is free, counting from 255 back to 1 (R51, R140). -/
def takesId (next : Nat) (used : List Nat) (id : Nat) : Prop :=
  1 ≤ id ∧ id ≤ 255 ∧ id ∉ used ∧ ∀ k, k < (id + 255 - next) % 255 → (next - 1 + k) % 255 + 1 ∈ used

/-- The penalty list with room for one record: a list of 32 has lost its earliest record in a final state (R141). -/
def roomIn (l : List Penalty) : List Penalty := if l.length < 32 then l else l.eraseP (fun r => r.state.isFinal)

/-- The command that brings a reply of this kind from this head. -/
def replyCommand (g : Gate) (payload : List Byte) : BusKind → Instr
  | .probe => .probe g payload
  | .setLanes => .setLanes g payload
  | .setThreshold => .setThreshold g payload
  | .enable => .enable g payload
  | .fetch => .fetch g payload
  | .status => .status g payload
  | .patternOn => .patternOn g payload
  | .checkFetch => .checkFetch g payload
  | .patternOff => .patternOff g payload

/-- This command makes the open attempt fail (R19): a reply with a bad SUM, no reply in time, or a matching reply with
contents out of range. -/
def State.attemptFails (s : State) (x : Transaction) (c : Instr) : Prop :=
  c = .badSumReply ∨ (c = .attemptTimeout ∧ ∃ w, x.wait = some w ∧ s.reached w)
    ∨ ∃ payload, busReplyOf x.kind payload = none ∧ c = replyCommand x.gate payload x.kind

/-- The lane of a passage is not one the head and the course allow (R42). -/
def State.laneRefused (s : State) (g : Gate) (l : Lane) : Prop :=
  s.bus.heads[g].mask.getLsbD l.val = false ∨
    ∃ i q, s.pointOf g = some i ∧ s.course.points[i]? = some q ∧
      (l.val < 6 ∧ s.course.settings.laneCount < l.val + 1 ∨ l.val = 6 ∧ q.pit = false)

/-- The sections of a span of this length from a point (R48, R93). -/
def State.spanned (s : State) (p len : Nat) : List Sector :=
  (List.range len).map (fun i => s.course.sectors.getD ((p + i) % s.course.points.length) Sector.initial)

/-- The sections from a point to a point, or the whole lap when they are one (R48, R93). -/
def State.lengthTo (s : State) (p q : Nat) : Nat :=
  if p = q then s.course.points.length else (q + s.course.points.length - p) % s.course.points.length

/-- A change between two lanes is plausible over a span (R80); with a lane unknown it is not judged. -/
def changePlausible (l : List Sector) (a b : Option Lane) : Prop :=
  ∀ x y : Lane, a = some x → b = some y → ∃ t ∈ l,
    (x.val < 6 ∧ y.val < 6) ∨ (x.val < 6 ∧ y.val = 6 ∧ t.pitRule = .entry)
      ∨ (x.val = 6 ∧ y.val = 6 ∧ t.pitRule ≠ .none) ∨ (x.val = 6 ∧ y.val < 6 ∧ t.pitRule = .exit)

/-- The sum of the nominal times of sections, in ms. -/
def nominals (l : List Sector) : Nat := (l.map Sector.nominal).sum

/-- The car is a qualifying candidate for a passage, at this distance from its predicted time (R48, R49). -/
def State.qualifies (s : State) (x : Car) (q : Nat) (lane : Option Lane) (c : Capture) (d : Nat) : Prop :=
  ∃ (l : LastPassage) (ticks : Nat) (time : Time),
    s.mayTake x = true ∧ x.race.state = .running ∧ x.race.last = some l ∧
    s.sinceGreen l.capture.time < s.sinceGreen c.time ∧
    s.lengthTo l.point q ≤ s.course.settings.missTolerance + 1 ∧
    changePlausible (s.spanned l.point (s.lengthTo l.point q)) l.lane lane ∧
    ticks = (match x.race.refTicks with
      | some r => r * nominals (s.spanned l.point (s.lengthTo l.point q)) / nominals s.course.sectors
      | none => 100 * nominals (s.spanned l.point (s.lengthTo l.point q))) ∧
    time = l.capture.time + BitVec.ofNat 32 ticks + (c.neutral - l.capture.neutral) ∧
    d = (if (c.time - time).toNat < 2147483648 then (c.time - time).toNat
      else 4294967296 - (c.time - time).toNat) ∧
    d ≤ max (ticks / 4) 2000

/-- A countdown passage with this capture is a jump (R121). -/
def State.jumps (s : State) (r : RacePart) (c : Capture) : Prop :=
  c.tag.race = .countdown ∧ r.jumpCalled = false ∧
    ∃ w, s.race.watchStart = some w ∧ (c.time - w).toNat < 2147483648

/-- The requests that port B may not send (R191), with their KINDs. -/
def raceControlOnly (i : Instr) : Bool :=
  match i.request with
  | some (kind, _, _, _) =>
    decide (kind.toNat ≤ 0x21)
      && !(kind == 0x07 || kind == 0x08 || kind == 0x09)
  | none => false

/-! ## Invariants -/

/-- The output lines show what the manual says: track-enable by race state and link (R173), the lamps by the race
state or the step playing (R135). -/
def State.outputsRight (s : State) : Prop :=
  s.power.trackEnable = (s.race.state.clockRuns && s.power.linkUp) ∧ s.race.lamps = s.lampPattern

/-- Caution held only in CHEQUERED, a saved return state only and always in SUSPENDED (R110). -/
def State.attributesRight (s : State) : Prop :=
  (s.race.held = true → s.race.state = .chequered) ∧ (s.race.saved.isSome = true ↔ s.race.state = .suspended)

/-- No permit row's cap exceeds the cap of the race state (R165). -/
def State.capsRight (s : State) : Prop := ∀ d : DriveIx, s.power.rows[d].cap ≤ s.stateCap

/-- The journal holds at most 256 notices, and every unsent notice of a port is among them (R193, R194). -/
def State.noticesRight (s : State) : Prop :=
  s.journal.ring.length ≤ 256 ∧ s.portA.unsent s.journal ≤ s.journal.ring.length
    ∧ s.portB.unsent s.journal ≤ s.journal.ring.length

/-- The capture stacks, the unattributed list, the penalty list and the BUSY lists keep the sizes the manual gives them
(R12, R51, R140, R188). -/
def State.sizesRight (s : State) : Prop :=
  (∀ g : Gate, s.time.gates[g].stack.length ≤ 4) ∧ s.former.list.length ≤ 8 ∧ s.pen.list.length ≤ 32
    ∧ s.portA.busyList.length ≤ 50 ∧ s.portB.busyList.length ≤ 50

/-- The next identifiers of the unattributed list and of the penalty list lie in 1 to 255 (R51, R140). -/
def State.idsRight (s : State) : Prop :=
  1 ≤ s.former.nextId ∧ s.former.nextId ≤ 255 ∧ 1 ≤ s.pen.nextId ∧ s.pen.nextId ≤ 255

end Sys2Proof.Machine
end

