-- ==== Sys2Proof/Certificates/Slice0/Obligations.lean ====
section
/-! DEFINITION. The statements for the provers. Each docstring names the rules of spec/ it rests on; a statement about
a choice of the model's says so. -/

open Sys2Proof Sys2Proof.Machine

/-! ## The machine -/

/-- A step takes the command at the front of the queue and runs it on the state with the queue's rest. -/
def Obligations.StepRunsFront : Prop :=
  ∀ (c : Instr) (s : State) (rest : List Instr), s.pending = c :: rest → step s = exec c { s with pending := rest }

/-- On an empty queue the part idles, and no command touches the queue of waiting commands: both are the model's
choice (notes/assumptions/1.md). -/
def Obligations.QueueDiscipline : Prop :=
  (∀ s : State, s.pending = [] → step s = .next s) ∧
  (∀ (c : Instr) (s t : State), exec c s = .next t → t.pending = s.pending)

/-- Every command completes, in every state, while neither BUSY list is full. It says that no run stops and pins no
effect: that an event the part cannot meet in a state leaves it as it is is the model's choice
(notes/assumptions/5.md), and the premise stands for the one stop of the model, a 51st TAG for a BUSY list (R188;
notes/assumptions/9.md). -/
def Obligations.EveryCommandCompletes : Prop :=
  ∀ (c : Instr) (s : State), s.portA.busyList.length < 50 → s.portB.busyList.length < 50 →
    ∃ t, exec c s = .next t

/-- HARD_RESET: every block at the values its rule gives for a hard reset, each port at its strap's rate. That the
queue of waiting commands stays is the model's choice (notes/assumptions/1.md). -/
def Obligations.HardReset : Prop :=
  ∀ (a b : Bool) (s : State), ∃ t, exec (.hardReset a b) s = .next t ∧ t.pending = s.pending ∧
    t.time.session = 0 ∧ t.time.green = 0 ∧ t.time.nClosed = 0 ∧ t.time.s0 = 0 ∧ t.time.latched = none ∧
    t.time.cautionEpoch = 0 ∧ t.time.suspensionEpoch = 0 ∧ t.time.rng = 0x5D3B ∧
    (∀ g : Gate, t.time.gates[g] = ⟨20, none, [], none⟩ ∧ t.time.strobePrev.getLsbD g.val = true) ∧
    (∀ g : Gate, t.bus.heads[g].state = .off ∧ t.bus.heads[g].reason = none ∧ t.bus.heads[g].mask = 0 ∧
      t.bus.heads[g].threshold = 0 ∧ t.bus.heads[g].sensors = none ∧
      t.bus.heads[g].failures = 0 ∧ t.bus.heads[g].rejects = 0 ∧
      t.bus.heads[g].fetchPending = false ∧ t.bus.heads[g].overflow = 0 ∧
      t.bus.heads[g].counters = #v[⟨.strobes, 0⟩, ⟨.fetched, 0⟩, ⟨.blanks, 0⟩] ∧
      t.bus.heads[g].settle = none ∧ t.bus.heads[g].poll = none ∧ t.bus.heads[g].faultProbe = none ∧
      ∀ l : Lane, t.bus.heads[g].lanes[l] = ⟨0, false, none⟩) ∧
    t.bus.queue = [] ∧ t.bus.line = none ∧ t.bus.pointer.val + 1 = 12 ∧ t.bus.runCount = 0 ∧ t.bus.check = none ∧
    t.former = ⟨[], 1, none, ⟨0, 0, 0, 0, 0, 0, 0, 0, 0, 0, 0, 0, 0, 0, 0⟩⟩ ∧
    (∀ i : Slot, t.roster.slots[i] = none) ∧ t.roster.learning = false ∧ t.roster.ageLimit = 20 ∧
    t.roster.aging = ⟨0, 6000000⟩ ∧ t.roster.tallyLearned = 0 ∧ t.roster.tallyLearnRefused = 0 ∧
    t.roster.tallyAged = 0 ∧
    t.course = ⟨[], [], none, Settings.default, ⟨0, 0, 0, 0, 0, 0⟩⟩ ∧
    t.race.state = .idle ∧ t.race.held = false ∧ t.race.saved = none ∧ t.race.reason = .none ∧ t.race.step = none ∧
    t.race.jumpWatch = false ∧ t.race.watchStart = none ∧ t.race.lamps = 0 ∧ t.race.program = StartProgram.default ∧
    t.race.raceLimit = none ∧ t.race.finishWindow = none ∧ t.race.practiceLimit = none ∧
    t.pen = ⟨defaultSchedule, [], 1, 0, 0, 0⟩ ∧
    (∀ d : DriveIx, t.power.rows[d] = ⟨0, false, .none⟩) ∧ t.power.epoch = 0 ∧ t.power.linkUp = false ∧
    t.power.status = none ∧ t.power.silence = none ∧ t.power.lastPoll = none ∧ t.power.sending = none ∧
    t.power.slot = none ∧ t.power.trackEnable = false ∧ t.power.rx.bytes = [] ∧ t.power.tallyPolls = 0 ∧
    t.power.tallyBadFrames = 0 ∧ t.power.tallyUnanswered = 0 ∧ t.power.tallyLinkLosses = 0 ∧
    t.stand.list = [] ∧ t.stand.formed = false ∧ t.stand.fixed = false ∧ t.stand.amendments = 0 ∧
    t.journal.ring = [] ∧ t.journal.next = 0 ∧
    t.portA.fast = a ∧ t.portB.fast = b ∧
    (∀ p : PortId, (t.port p).rx.bytes = [] ∧ (t.port p).engaged = false ∧ (t.port p).busyList = [] ∧
      (t.port p).reply = none ∧ (t.port p).tx = none ∧ (t.port p).cursor = 0 ∧ (t.port p).lost = 0 ∧
      (t.port p).hold = none ∧ (t.port p).counters = ⟨0, 0, 0, 0, 0, 0, 0, 0⟩)

/-- TICK: the session clock advances by one mod 2³² (R1), the random source steps as R16 gives it in numbers, and a
rising edge is a high sample after a low one (R10). Nothing else changes: that TICK takes no expiry and that its edges
replace those not yet taken are the model's choices (notes/assumptions/7.md, notes/assumptions/6.md). Only TICK and
HARD_RESET move the session clock and the random source (R1, R16). -/
def Obligations.TickSteps : Prop :=
  (∀ (strobes : BitVec 12) (s : State), ∃ t, exec (.tick strobes) s = .next t ∧
    t.time.session.toNat = (s.time.session.toNat + 1) % 4294967296 ∧
    t.time.rng.toNat = (s.time.rng.toNat * 2) % 65536
      + (s.time.rng[15].toNat + s.time.rng[13].toNat + s.time.rng[12].toNat + s.time.rng[10].toNat) % 2 ∧
    (∀ g : Gate, t.time.edges.getLsbD g.val = (strobes.getLsbD g.val && !s.time.strobePrev.getLsbD g.val)) ∧
    t.time.strobePrev = strobes ∧
    t = { s with
      time.session := t.time.session, time.rng := t.time.rng, time.edges := t.time.edges
      time.strobePrev := strobes }) ∧
  (∀ (c : Instr) (s t : State), exec c s = .next t → (∀ st, c ≠ .tick st) → (∀ a b, c ≠ .hardReset a b) →
    t.time.session = s.time.session ∧ t.time.rng = s.time.rng)

/-! ## Captures -/

/-- An edge at a READY head used by the course, or in PRACTICE, that passes the guard interval with room on the stack
becomes a capture with the stamps of its tick (R8, R10, R12). Inside the guard interval it is merged into the newest
capture, or into the last capture when the stack is empty, and the guard reference stands (R11); one that passes the
guard interval at a full stack is lost and counted in OVERFLOWS (R12); one at a head in SETTLING or PATTERN is counted
in STROBES only, and any other has no effect (R10). -/
def Obligations.StrobeEdges : Prop :=
  (∀ (g : Gate) (s : State), s.time.edges.getLsbD g.val = true → s.bus.heads[g].state = .ready →
    (s.usesGate g = true ∨ s.race.state = .practice) →
    (∀ r, s.time.gates[g].guardRef = some r → s.time.gates[g].guardUnits * 10 ≤ (s.time.session - r).toNat) →
    s.time.gates[g].stack.length < 4 →
    ∃ t, exec (.strobeEdge g) s = .next t ∧
      t.time.gates[g] = { s.time.gates[g] with
        stack := s.time.gates[g].stack ++ [⟨s.time.session, s.neutral, s.phaseTag, 0⟩]
        guardRef := some s.time.session } ∧
      t.bus.heads[g].fetchPending = true ∧
      (∀ i : Fin 3, t.bus.heads[g].counters[i].count = s.bus.heads[g].counters[i].count
        + (if s.bus.heads[g].counters[i].select = .strobes then 1 else 0)) ∧
      (∀ k : Gate, k ≠ g → t.time.gates[k] = s.time.gates[k] ∧ t.bus.heads[k] = s.bus.heads[k]) ∧
      t = { s with
        time.gates := t.time.gates, time.edges := t.time.edges, bus := t.bus, portA := t.portA, portB := t.portB }) ∧
  (∀ (g : Gate) (s : State) (r : Time), s.time.edges.getLsbD g.val = true → s.bus.heads[g].state = .ready →
    (s.usesGate g = true ∨ s.race.state = .practice) →
    s.time.gates[g].guardRef = some r → (s.time.session - r).toNat < s.time.gates[g].guardUnits * 10 →
    ∃ t, exec (.strobeEdge g) s = .next t ∧ t.time.gates[g].guardRef = some r ∧
      t.time.gates[g].stack.dropLast = s.time.gates[g].stack.dropLast ∧
      t.time.gates[g].stack.getLast? = s.time.gates[g].stack.getLast?.map
        (fun c => { c with merged := min 15 (c.merged + 1) }) ∧
      t.time.gates[g].last = (if s.time.gates[g].stack = []
        then s.time.gates[g].last.map (fun c => { c with merged := min 15 (c.merged + 1) })
        else s.time.gates[g].last) ∧
      (∀ k : Gate, k ≠ g → t.time.gates[k] = s.time.gates[k] ∧ t.bus.heads[k] = s.bus.heads[k]) ∧
      t.bus.heads[g].fetchPending = s.bus.heads[g].fetchPending ∧
      (∀ i : Fin 3, t.bus.heads[g].counters[i].count = s.bus.heads[g].counters[i].count
        + (if s.bus.heads[g].counters[i].select = .strobes ∨ s.bus.heads[g].counters[i].select = .merged
          then 1 else 0))) ∧
  (∀ (g : Gate) (s : State), s.time.edges.getLsbD g.val = true → s.bus.heads[g].state = .ready →
    (s.usesGate g = true ∨ s.race.state = .practice) →
    (∀ r, s.time.gates[g].guardRef = some r → s.time.gates[g].guardUnits * 10 ≤ (s.time.session - r).toNat) →
    4 ≤ s.time.gates[g].stack.length →
    ∃ t, exec (.strobeEdge g) s = .next t ∧ t.time.gates = s.time.gates ∧
      t.bus.heads[g].fetchPending = s.bus.heads[g].fetchPending ∧
      (∀ i : Fin 3, t.bus.heads[g].counters[i].count = s.bus.heads[g].counters[i].count
        + (if s.bus.heads[g].counters[i].select = .strobes ∨ s.bus.heads[g].counters[i].select = .overflows
          then 1 else 0))) ∧
  (∀ (g : Gate) (s : State), s.time.edges.getLsbD g.val = true →
    (s.bus.heads[g].state = .settling ∨ s.bus.heads[g].state = .pattern) →
    ∃ t, exec (.strobeEdge g) s = .next t ∧
      (∀ i : Fin 3, t.bus.heads[g].counters[i] = ⟨s.bus.heads[g].counters[i].select,
        s.bus.heads[g].counters[i].count + (if s.bus.heads[g].counters[i].select = .strobes then 1 else 0)⟩) ∧
      t = { s with
        time.edges := t.time.edges
        bus.heads := s.bus.heads.set g { s.bus.heads[g] with counters := t.bus.heads[g].counters } }) ∧
  (∀ (g : Gate) (s : State), s.time.edges.getLsbD g.val = true →
    (s.bus.heads[g].state = .off ∨ s.bus.heads[g].state = .probing ∨ s.bus.heads[g].state = .setup
      ∨ s.bus.heads[g].state = .fault
      ∨ s.bus.heads[g].state = .ready ∧ s.usesGate g = false ∧ s.race.state ≠ .practice) →
    ∃ t, exec (.strobeEdge g) s = .next t ∧ t = { s with time.edges := t.time.edges })

/-- Guard reference and last capture lapse when their time has passed (R11, R13); a quiet lane's counter returns to 0
and its flag stands (R38); the stray memory is forgotten (R44); an unattributed record 30 s old leaves with reason
EXPIRED and code 0 (R53). Nothing else changes. -/
def Obligations.Lapses : Prop :=
  (∀ (g : Gate) (s : State) (r : Time), s.time.gates[g].guardRef = some r →
    s.time.gates[g].guardUnits * 10 ≤ (s.time.session - r).toNat →
    exec (.guardReferenceLapse g) s
      = .next { s with time.gates := s.time.gates.set g { s.time.gates[g] with guardRef := none } }) ∧
  (∀ (g : Gate) (s : State) (c : Capture), s.time.gates[g].last = some c →
    2000 ≤ (s.time.session - c.time).toNat →
    exec (.lastCaptureLapse g) s
      = .next { s with time.gates := s.time.gates.set g { s.time.gates[g] with last := none } }) ∧
  (∀ (g : Gate) (l : Lane) (s : State) (w : Timer), s.bus.heads[g].lanes[l].quiet = some w → s.reached w →
    exec (.quietDeadline g l) s = .next { s with bus.heads := s.bus.heads.set g { s.bus.heads[g] with
      lanes := s.bus.heads[g].lanes.set l { s.bus.heads[g].lanes[l] with count := 0, quiet := none } } }) ∧
  (∀ (s : State) (m : StrayMemory), s.former.stray = some m → s.reached m.lapse →
    exec .strayMemoryLapse s = .next { s with former.stray := none }) ∧
  (∀ (s : State) (id : Nat) (r : Unattr), s.unattr id = some r → s.reached r.expiry →
    ∃ t, exec (.unattributedExpiry id) s = .next t ∧
      t.former = { s.former with
        list := s.former.list.filter (fun x => x.id != id)
        tallies := { s.former.tallies with expired := s.former.tallies.expired + 1 } } ∧
      t.journal = s.journal.added s.raceMs (.unattributedGone id r.origin .expired 0) ∧
      t = { s with former := t.former, journal := t.journal, portA := t.portA, portB := t.portB })

/-- A capture 20 ms old leaves its stack as a BLANK: it is never lent as last capture, BLANKS counts it, the
fetch-pending flag stands, and the Passage Former carries it whole, with no lane, as AnonymousPassages says of a BLANK
(R13, R14, R37). -/
def Obligations.BlankReleased : Prop :=
  ∀ (g : Gate) (s : State) (c : Capture) (rest : List Capture), s.time.gates[g].stack = c :: rest →
    2000 ≤ (s.time.session - c.time).toNat →
    ∃ t u : State, exec (.pairingLimit g) s = .next t ∧
      u = { s with
        time.gates := s.time.gates.set g { s.time.gates[g] with stack := rest, last := none }
        bus.heads := s.bus.heads.set g { s.bus.heads[g] with counters := u.bus.heads[g].counters } } ∧
      (∀ i : Fin 3, u.bus.heads[g].counters[i] = ⟨s.bus.heads[g].counters[i].select,
        s.bus.heads[g].counters[i].count + (if s.bus.heads[g].counters[i].select = .blanks then 1 else 0)⟩) ∧
      t = { u.anonPassage g none c .blank with portA := t.portA, portB := t.portB } ∧
      (∀ i : Fin 3, s.bus.heads[g].counters[i].select = .blanks →
        t.bus.heads[g].counters[i].count = s.bus.heads[g].counters[i].count + 1) ∧
      t.time.gates[g] = { s.time.gates[g] with stack := rest, last := none } ∧
      (∀ k : Gate, k ≠ g → t.time.gates[k] = s.time.gates[k]) ∧
      t.bus.heads[g].fetchPending = s.bus.heads[g].fetchPending

/-! ## The gate bus -/

/-- COMMAND_SENT starts the 0.5 ms of the open attempt, and a frame that does not match has no effect (R17, R19). A
bad SUM, a reply that does not come in time, or one out of range fails the attempt: the first is made again on the
same line, the second is a failed transaction (R19). The failure count then rises to at most 3 and FAILURES counts it;
at 3 the head enters FAULT with reason NO_REPLY, its entry and its fetch-pending flag gone, its fault-probe timer
started (R28), and below 3 a PROBE of PROBING and a write of SETUP is made again (R22, R23), and a failed check
transaction is counted (R33). A discarded transaction counts for nothing (R30). That a FETCH whose head has left READY
and SETTLING still counts is notes/assumptions/18.md, that a failing reply is taken also before COMMAND_SENT is
notes/assumptions/21.md, and that a timeout delivered after its tick is still taken is notes/assumptions/4.md. -/
def Obligations.Attempts : Prop :=
  (∀ (s : State) (x : Transaction), s.bus.line = some x → x.wait = none →
    exec .commandSent s = .next { s with bus.line := some { x with wait := some ⟨s.time.session, 50⟩ } }) ∧
  (∀ (s t : State) (x : Transaction), s.bus.line = some x → x.second = false →
    t = { s with bus.line := some { x with second := true, wait := none } } →
    exec .badSumReply s = .next t ∧
    (∀ w, x.wait = some w → s.reached w → exec .attemptTimeout s = .next t) ∧
    (∀ payload, busReplyOf x.kind payload = none → exec (replyCommand x.gate payload x.kind) s = .next t)) ∧
  (∀ (s : State) (tag kind : Byte) (payload : List Byte),
    exec (.gateBusUnmatchedFrame tag kind payload) s = .next s) ∧
  (∀ (s : State) (x : Transaction) (c : Instr), s.bus.line = some x → x.second = true → x.discarded = false →
    s.attemptFails x c →
    ∃ t, exec c s = .next t ∧
      t.bus.heads[x.gate].failures = min 3 (s.bus.heads[x.gate].failures + 1) ∧
      (∀ i : Fin 3, t.bus.heads[x.gate].counters[i].count = s.bus.heads[x.gate].counters[i].count
        + (if s.bus.heads[x.gate].counters[i].select = .failures then 1 else 0)) ∧
      (if 2 ≤ s.bus.heads[x.gate].failures ∧ s.bus.heads[x.gate].state ≠ .fault then
        t.bus.heads[x.gate].state = .fault ∧ t.bus.heads[x.gate].reason = some .noReply ∧
          t.bus.heads[x.gate].fetchPending = false ∧ t.bus.heads[x.gate].poll = none ∧
          t.bus.heads[x.gate].settle = none ∧
          t.bus.heads[x.gate].faultProbe = some ⟨s.time.session, 100000⟩ ∧
          (∀ e ∈ t.bus.queue, e.gate ≠ x.gate)
      else t.bus.heads[x.gate].state = s.bus.heads[x.gate].state) ∧
      (s.bus.heads[x.gate].failures < 2 →
        (s.bus.heads[x.gate].state, x.kind) ∈ [(.probing, .probe), (.setup, .setLanes), (.setup, .setThreshold),
          (.setup, .enable), (.pattern, .patternOn), (.pattern, .patternOff)] → t.busHas x.gate x.kind = true) ∧
      (∀ k, s.bus.heads[x.gate].failures < 2 → s.bus.check = some k → k.gate = x.gate →
        (x.kind = .patternOn ∨ x.kind = .checkFetch ∨ x.kind = .patternOff) →
        t.bus.check = some { k with
          failed := k.failed + 1, fetches := if x.kind = .checkFetch then k.fetches + 1 else k.fetches }) ∧
      (∀ k : Gate, k ≠ x.gate → t.bus.heads[k] = s.bus.heads[k]) ∧ s.onlyBus t) ∧
  (∀ (s : State) (x : Transaction) (c : Instr), s.bus.line = some x → x.second = true → x.discarded = true →
    s.attemptFails x c →
    ∃ t, exec c s = .next t ∧ t.bus.heads = s.bus.heads ∧ t.journal = s.journal ∧ s.onlyBus t)

/-- A PROBE reply with a sensor count of at least the lanes of the mask takes the head to SETUP with a SET_LANES, in
PROBING as PROBED and in FAULT as RECOVERED; with fewer, a PROBING head enters FAULT as CAPACITY and a FAULT head
stays (R22, R23, R28). In SETUP each acknowledged write is followed by the next, and the last by SETTLING with its
deadline and the fetch-pending flag; the third REJECT of one setup faults the head, an earlier one starts the setup
again (R23, R24). -/
def Obligations.HeadBringUp : Prop :=
  (∀ (g : Gate) (s : State) (n : Nat), s.onLine g .probe → 2 ≤ n → n ≤ 7 →
    (s.bus.heads[g].state = .probing ∨ s.bus.heads[g].state = .fault) →
    ∃ t, exec (.probe g [0, BitVec.ofNat 8 n]) s = .next t ∧ t.bus.heads[g].sensors = some n ∧
      t.bus.heads[g].failures = 0 ∧ (∀ k : Gate, k ≠ g → t.bus.heads[k] = s.bus.heads[k]) ∧ s.onlyBus t ∧
      (if (List.range 7).countP (fun i => s.bus.heads[g].mask.getLsbD i) ≤ n then
        t.bus.heads[g].state = .setup ∧ t.busHas g .setLanes = true ∧ t.bus.heads[g].rejects = 0 ∧
          t.bus.heads[g].reason
            = (if s.bus.heads[g].state = .probing then some .probed else some .recovered) ∧
          (∀ l : Lane, t.bus.heads[g].lanes[l] = ⟨0, false, none⟩)
      else t.bus.heads[g].state = .fault ∧
        (s.bus.heads[g].state = .probing → t.bus.heads[g].reason = some .capacity))) ∧
  (∀ (g : Gate) (s : State), s.onLine g .setLanes →
    ∃ t, exec (.setLanes g [0]) s = .next t ∧ t.busHas g .setThreshold = true ∧
      t.bus.heads = s.bus.heads.set g { s.bus.heads[g] with failures := 0 } ∧ s.onlyBus t) ∧
  (∀ (g : Gate) (s : State), s.onLine g .setThreshold →
    ∃ t, exec (.setThreshold g [0]) s = .next t ∧ t.busHas g .enable = true ∧
      t.bus.heads = s.bus.heads.set g { s.bus.heads[g] with failures := 0 } ∧ s.onlyBus t) ∧
  (∀ (g : Gate) (s : State), s.onLine g .enable →
    ∃ t, exec (.enable g [0]) s = .next t ∧ t.bus.heads[g].state = .settling ∧
      t.bus.heads[g].reason = some .enabled ∧ t.bus.heads[g].settle = some ⟨s.time.session, 5000⟩ ∧
      t.bus.heads[g].fetchPending = true ∧ t.bus.heads[g].rejects = 0 ∧ t.bus.heads[g].failures = 0 ∧
      t.journal = s.journal.added s.raceMs (.gate g .settling .enabled) ∧
      (∀ k : Gate, k ≠ g → t.bus.heads[k] = s.bus.heads[k]) ∧ s.onlyBus t) ∧
  (∀ (g : Gate) (s : State) (c : Instr) (k : BusKind),
    (c, k) ∈ [(.setLanes g [1], .setLanes), (.setThreshold g [1], .setThreshold), (.enable g [1], .enable)] →
    s.onLine g k →
    ∃ t, exec c s = .next t ∧ t.bus.heads[g].failures = 0 ∧ s.onlyBus t ∧
      (if s.bus.heads[g].rejects < 2 then
        t.bus.heads[g].rejects = s.bus.heads[g].rejects + 1 ∧ t.busHas g .setLanes = true ∧
          t.bus.heads[g].state = s.bus.heads[g].state
      else t.bus.heads[g].state = .fault ∧ t.bus.heads[g].reason = some .rejected))

/-- A STATUS reply: enabled, its overflow count is kept; not enabled or REJECT, the head is set up again (R25). The
settle deadline makes a head READY with its status poll; the status-poll and fault-probe timers start their next
period and have a STATUS or PROBE waiting or on the line (R24, R25, R28). -/
def Obligations.StatusAndTimers : Prop :=
  (∀ (g : Gate) (s : State) (o : Byte), s.onLine g .status →
    ∃ t, exec (.status g [0, 1, o]) s = .next t ∧ s.onlyBus t ∧
      t.bus.heads = s.bus.heads.set g { s.bus.heads[g] with failures := 0, overflow := o.toNat }) ∧
  (∀ (g : Gate) (s : State) (payload : List Byte), s.onLine g .status →
    (payload = [1] ∨ ∃ o, payload = [0, 0, o]) →
    ∃ t, exec (.status g payload) s = .next t ∧ s.onlyBus t ∧ t.bus.heads[g].state = .setup ∧
      t.bus.heads[g].reason = some .headReset ∧ t.busHas g .setLanes = true ∧
      t.bus.heads[g].fetchPending = false ∧ t.bus.heads[g].poll = none) ∧
  (∀ (g : Gate) (s : State) (w : Timer), s.bus.heads[g].settle = some w →
    w.len ≤ (s.time.session - w.start).toNat →
    ∃ t, exec (.settleDeadline g) s = .next t ∧ s.onlyBus t ∧
      t.journal = s.journal.added s.raceMs (.gate g .ready .settled) ∧
      t.bus.heads = s.bus.heads.set g { s.bus.heads[g] with
        state := .ready, reason := some .settled, settle := none, faultProbe := none
        poll := some ⟨s.time.session, 25000⟩ }) ∧
  (∀ (g : Gate) (s : State) (w : Timer), s.bus.heads[g].poll = some w →
    w.len ≤ (s.time.session - w.start).toNat →
    ∃ t, exec (.statusPollTimer g) s = .next t ∧ s.onlyBus t ∧ t.journal = s.journal ∧ t.busHas g .status = true ∧
      t.bus.heads = s.bus.heads.set g { s.bus.heads[g] with poll := some ⟨s.time.session, 25000⟩ }) ∧
  (∀ (g : Gate) (s : State) (w : Timer), s.bus.heads[g].faultProbe = some w →
    w.len ≤ (s.time.session - w.start).toNat →
    ∃ t, exec (.faultProbeTimer g) s = .next t ∧ s.onlyBus t ∧ t.journal = s.journal ∧ t.busHas g .probe = true ∧
      t.bus.heads = s.bus.heads.set g { s.bus.heads[g] with faultProbe := some ⟨s.time.session, 100000⟩ })

/-- A FETCH reply taken in READY: the failure count is 0, FETCHED and OVERFLOWS count, and the detections are carried
one after the other in the order the head gave them, each whole, as DetectionTaken says; each claims the oldest
capture the stack still holds, and the fetch-pending flag is cleared exactly when fewer than 4 detections came and the
stack is then empty (R13, R26, R27, R37). It is so also when an edge accepted during the FETCH has set the flag again
and the detections took its capture: a reading of R26 and R32 (DEDUCED, notes/assumptions/36.md). A FETCH reply taken
in SETTLING is discarded, and a REJECT to a FETCH sets the head up again (R24, R25). -/
def Obligations.FetchReplies : Prop :=
  (∀ (g : Gate) (s : State) (payload : List Byte) (o : Nat) (dets : List Detection), s.onLine g .fetch →
    s.bus.heads[g].state = .ready → busReplyOf .fetch payload = some (.detections o dets) →
    ∃ t u w : State, exec (.fetch g payload) s = .next t ∧
      u = { s with bus := { s.bus with
        line := none
        heads := s.bus.heads.set g { s.bus.heads[g] with
          failures := 0, counters := u.bus.heads[g].counters } } } ∧
      (∀ i : Fin 3, u.bus.heads[g].counters[i] = ⟨s.bus.heads[g].counters[i].select,
        s.bus.heads[g].counters[i].count + (if s.bus.heads[g].counters[i].select = .fetched
          then BitVec.ofNat 32 dets.length
          else if s.bus.heads[g].counters[i].select = .overflows then BitVec.ofNat 32 o else 0)⟩) ∧
      w = dets.foldl (fun a d => a.takeDetection g d) u ∧
      t.bus.heads = w.bus.heads.set g { w.bus.heads[g] with fetchPending := t.bus.heads[g].fetchPending } ∧
      t = { w with bus := t.bus, portA := t.portA, portB := t.portB } ∧ t.bus.heads[g].state = .ready ∧
      t.bus.heads[g].failures = 0 ∧
      t.time.gates[g].stack = s.time.gates[g].stack.drop dets.length ∧
      (∀ k : Gate, k ≠ g → t.time.gates[k] = s.time.gates[k]) ∧
      t.bus.heads[g].fetchPending
        = (if dets.length < 4 ∧ t.time.gates[g].stack = [] then false else s.bus.heads[g].fetchPending) ∧
      (∀ i : Fin 3, s.bus.heads[g].counters[i].select = .fetched →
        t.bus.heads[g].counters[i].count = s.bus.heads[g].counters[i].count + BitVec.ofNat 32 dets.length) ∧
      (∀ i : Fin 3, s.bus.heads[g].counters[i].select = .overflows →
        t.bus.heads[g].counters[i].count = s.bus.heads[g].counters[i].count + BitVec.ofNat 32 o)) ∧
  (∀ (g : Gate) (s : State) (payload : List Byte) (o : Nat) (dets : List Detection), s.onLine g .fetch →
    s.bus.heads[g].state = .settling → busReplyOf .fetch payload = some (.detections o dets) →
    ∃ t, exec (.fetch g payload) s = .next t ∧ s.onlyBus t ∧ t.journal = s.journal ∧
      t.bus.heads = s.bus.heads.set g { s.bus.heads[g] with
        failures := 0
        fetchPending := if dets.length < 4 ∧ s.time.gates[g].stack = [] then false
          else s.bus.heads[g].fetchPending }) ∧
  (∀ (g : Gate) (s : State), s.onLine g .fetch →
    (s.bus.heads[g].state = .settling ∨ s.bus.heads[g].state = .ready) →
    ∃ t, exec (.fetch g [1]) s = .next t ∧ s.onlyBus t ∧ t.bus.heads[g].state = .setup ∧
      t.bus.heads[g].reason = some .headReset ∧ t.busHas g .setLanes = true)

/-- A gate check's chain: PATTERN_ON acknowledged, the first check FETCH joins; each check FETCH raises the fetch
count, and the mismatch count unless it is the expected set; the sixteenth is followed by PATTERN_OFF; PATTERN_OFF
acknowledged, the head settles and the deferred reply goes to port A. The expected set holds each lane of the mask
exactly once, with code 0xF000 + L and quality 3, in any order, and nothing else (R33, R34). -/
def Obligations.GateCheckChain : Prop :=
  (∀ (mask : BitVec 7) (dets : List Detection),
    expectedSet mask dets = true ↔
      (dets.map Detection.lane).Nodup ∧ (∀ l : Lane, (∃ d ∈ dets, d.lane = l) ↔ mask.getLsbD l.val = true) ∧
      ∀ d ∈ dets, d.code.toNat = 0xF000 + (d.lane.val + 1) ∧ d.quality = 3) ∧
  (∀ (g : Gate) (s : State), s.onLine g .patternOn →
    ∃ t, exec (.patternOn g [0]) s = .next t ∧ t.busHas g .checkFetch = true ∧ t.bus.check = s.bus.check ∧
      s.onlyBus t) ∧
  (∀ (g : Gate) (s : State) (c : GateCheck) (payload : List Byte) (o : Nat) (dets : List Detection),
    s.onLine g .checkFetch → s.bus.check = some c → c.gate = g →
    busReplyOf .checkFetch payload = some (.detections o dets) →
    ∃ t, exec (.checkFetch g payload) s = .next t ∧ s.onlyBus t ∧
      t.bus.check = some { c with
        fetches := c.fetches + 1
        mismatches := if expectedSet s.bus.heads[g].mask dets then c.mismatches else c.mismatches + 1 } ∧
      t.busHas g (if 16 ≤ c.fetches + 1 then .patternOff else .checkFetch) = true) ∧
  (∀ (g : Gate) (s : State) (c : GateCheck), s.onLine g .patternOff → s.bus.check = some c → c.gate = g →
    s.portA.engaged = true →
    ∃ t, exec (.patternOff g [0]) s = .next t ∧ s.onlyBus t ∧ t.bus.heads[g].state = .settling ∧
      t.bus.heads[g].reason = some .checkEnd ∧ t.bus.check = none ∧
      t.answered .A 0x15 c.tag .ok (u8 c.mismatches ++ u8 c.failed ++ [3]))

/-- The arbiter of an idle line: a fetch gate, searched upward from the one after the pointer, while the run count is
below 4 or no service entry waits; else the oldest service entry; else nothing (R32). -/
def Obligations.Arbiter : Prop :=
  ∀ s : State, s.bus.line = none →
    (∀ g : Gate, s.inFetchClass g = true →
      (∀ j : Gate, (j.val + 11 - s.bus.pointer.val) % 12 < (g.val + 11 - s.bus.pointer.val) % 12 →
        s.inFetchClass j = false) →
      (s.bus.queue = [] ∨ s.bus.runCount < 4) →
      s.arbitrate = { s with
        bus.line := some ⟨g, .fetch, commandFrame g .fetch s.bus.heads[g], false, none, false⟩
        bus.pointer := g
        bus.runCount := min 4 (s.bus.runCount + 1) }) ∧
    (∀ (e : ServiceEntry) (rest : List ServiceEntry), s.bus.queue = e :: rest →
      ((∀ j : Gate, s.inFetchClass j = false) ∨ 4 ≤ s.bus.runCount) →
      s.arbitrate = { s with
        bus.line := some ⟨e.gate, e.kind, commandFrame e.gate e.kind s.bus.heads[e.gate], false, none, false⟩
        bus.queue := rest
        bus.runCount := 0 }) ∧
    (s.bus.queue = [] → (∀ j : Gate, s.inFetchClass j = false) → s.arbitrate = s)

/-- SET_GATE, REMOVE_GATE and GATE_CHECK taken from port A (R21, R29, R33): the head record each leaves, the entry it
puts in the queue or on the line, and, but for GATE_CHECK, the reply OK. SET_COUNTERS, CLEAR_COUNTERS and CLEAR_STUCK
taken from port A (R35, R39). -/
def Obligations.GateRequests : Prop :=
  (∀ (g : Gate) (s : State) (tag m th gu : Byte), s.takes .A 0x13 tag [gateByte g, m, th, gu] →
    0 < m.toNat → m.toNat < 128 → (s.race.state = .idle ∨ s.race.state = .practice) → s.usesGate g = false →
    ∃ t, exec (.setGate .A tag [gateByte g, m, th, gu]) s = .next t ∧ t.answered .A 0x13 tag .ok [] ∧
      t.bus.heads[g].state = .probing ∧ t.bus.heads[g].reason = some .request ∧
      t.bus.heads[g].mask = m.setWidth 7 ∧ t.bus.heads[g].threshold = min 15 th.toNat ∧
      t.bus.heads[g].sensors = none ∧
      t.bus.heads[g].failures = 0 ∧ t.bus.heads[g].rejects = 0 ∧
      t.bus.heads[g].fetchPending = false ∧ t.bus.heads[g].counters = s.bus.heads[g].counters ∧
      t.bus.heads[g].overflow = s.bus.heads[g].overflow ∧
      (∀ l : Lane, t.bus.heads[g].lanes[l] = ⟨0, false, none⟩) ∧ t.busHas g .probe = true ∧
      t.time = { s.time with gates := s.time.gates.set g { s.time.gates[g] with
        guardUnits := max 1 gu.toNat, guardRef := none } } ∧
      (∀ k : Gate, k ≠ g → t.bus.heads[k] = s.bus.heads[k]) ∧
      t = { s with time := t.time, bus := t.bus, journal := t.journal, portA := t.portA, portB := t.portB }) ∧
  (∀ (g : Gate) (s : State) (tag : Byte), s.takes .A 0x14 tag [gateByte g] →
    (s.race.state = .idle ∨ s.race.state = .practice) → s.usesGate g = false → s.bus.heads[g].state ≠ .off →
    ∃ t, exec (.removeGate .A tag [gateByte g]) s = .next t ∧ t.answered .A 0x14 tag .ok [] ∧ s.onlyBus t ∧
      t.bus.heads = s.bus.heads.set g { s.bus.heads[g] with
        state := .off, reason := some .removed, mask := 0, threshold := 0, sensors := none, failures := 0
        rejects := 0, fetchPending := false, settle := none, poll := none, faultProbe := none } ∧
      (∀ e ∈ t.bus.queue, e.gate ≠ g) ∧ t.journal = s.journal.added s.raceMs (.gate g .off .removed)) ∧
  (∀ (g : Gate) (s : State) (tag : Byte), s.takes .A 0x15 tag [gateByte g] →
    (s.race.state = .idle ∨ s.race.state = .practice) → s.bus.heads[g].state = .ready →
    ∃ t, exec (.gateCheck .A tag [gateByte g]) s = .next t ∧ s.onlyBus t ∧ t.portA.engaged = true ∧
      (s.portA.reply = none → t.portA.reply = none) ∧
      t.bus.heads[g].state = .pattern ∧ t.bus.heads[g].reason = some .check ∧
      t.bus.heads[g].fetchPending = false ∧ t.bus.heads[g].poll = none ∧ t.busHas g .patternOn = true ∧
      t.bus.check = some ⟨g, tag, 0, 0, 0⟩) ∧
  (∀ (g : Gate) (i : Fin 3) (b : Byte) (o : CounterObject) (s : State) (tag : Byte),
    s.takes .A 0x16 tag [gateByte g, BitVec.ofNat 8 (i.val + 1), b] → counterObjectOf b = some o →
    ∃ t, exec (.setCounters .A tag [gateByte g, BitVec.ofNat 8 (i.val + 1), b]) s = .next t ∧
      t.answered .A 0x16 tag .ok [] ∧ s.onlyBus t ∧ t.journal = s.journal ∧
      t.bus = { s.bus with heads := s.bus.heads.set g { s.bus.heads[g] with
        counters := s.bus.heads[g].counters.set i ⟨o, 0⟩ } }) ∧
  (∀ (g : Gate) (s : State) (tag : Byte), s.takes .A 0x17 tag [gateByte g] →
    ∃ t, exec (.clearCounters .A tag [gateByte g]) s = .next t ∧ t.answered .A 0x17 tag .ok [] ∧ s.onlyBus t ∧
      (∀ i : Fin 3, t.bus.heads[g].counters[i] = ⟨s.bus.heads[g].counters[i].select, 0⟩) ∧ t.journal = s.journal ∧
      t.bus = { s.bus with heads := s.bus.heads.set g { s.bus.heads[g] with
        counters := t.bus.heads[g].counters } }) ∧
  (∀ (g : Gate) (l : Lane) (s : State) (tag : Byte),
    s.takes .A 0x18 tag [gateByte g, BitVec.ofNat 8 (l.val + 1)] →
    s.bus.heads[g].lanes[l].stuck = true →
    ∃ t, exec (.clearStuck .A tag [gateByte g, BitVec.ofNat 8 (l.val + 1)]) s = .next t ∧
      t.answered .A 0x18 tag .ok [] ∧ s.onlyBus t ∧
      t.bus = { s.bus with heads := s.bus.heads.set g { s.bus.heads[g] with
        lanes := s.bus.heads[g].lanes.set l ⟨0, false, none⟩ } } ∧
      t.journal = s.journal.added s.raceMs (.stuck g l false .request))

/-! ## Passages and attribution -/

/-- One detection of a FETCH reply. Its lane's counter, flag and quiet deadline, with the STUCK notice of a changed
flag (R38); the counters that select an object (R35); an ORPHAN, which only these counters and a tally show (R40); and
a detection with a capture of its own or a SHARED one, by its result: suppressed, an ANON or a coded passage with the
lane the check leaves it, or a RESERVED stray (R41, R42), whose reported lane the notice keeps
(notes/assumptions/24.md); and what a stray is: counted, and noticed unless the memory holds its code (R44). -/
def Obligations.DetectionTaken : Prop :=
  (∀ (s t : State) (g : Gate) (d : Detection) (x y : LaneSensor), t = s.senseLane g d →
    x = s.bus.heads[g].lanes[d.lane] → y = t.bus.heads[g].lanes[d.lane] →
    t.bus = { s.bus with heads := s.bus.heads.set g { s.bus.heads[g] with
      lanes := s.bus.heads[g].lanes.set d.lane y } } ∧
    y.quiet = some ⟨s.time.session, 200000⟩ ∧ s.onlyBus t ∧
    (if d.quality = 0 ∨ d.code = 0xFFFF then
      y.count = min 16 (x.count + 1) ∧ y.stuck = (x.stuck || decide (15 ≤ x.count)) ∧
        t.journal = (if 15 ≤ x.count ∧ x.stuck = false
          then s.journal.added s.raceMs (.stuck g d.lane true .count) else s.journal)
    else if validCode d.code = true then
      y.count = 0 ∧ y.stuck = false ∧
        t.journal = (if x.stuck = true
          then s.journal.added s.raceMs (.stuck g d.lane false .coded) else s.journal)
    else y.count = x.count ∧ y.stuck = x.stuck ∧ t.journal = s.journal)) ∧
  (∀ (s t : State) (g : Gate) (o : CounterObject), t = s.countObj g o →
    t = { s with bus.heads := s.bus.heads.set g { s.bus.heads[g] with counters := t.bus.heads[g].counters } } ∧
    ∀ i : Fin 3, t.bus.heads[g].counters[i] = ⟨s.bus.heads[g].counters[i].select,
      s.bus.heads[g].counters[i].count + (if s.bus.heads[g].counters[i].select = o then 1 else 0)⟩) ∧
  (∀ (s v : State) (g : Gate) (d : Detection), v = (s.senseLane g d).countObj g .orphans →
    s.time.gates[g].stack = [] →
    (∀ c, s.time.gates[g].last = some c → 2000 ≤ (s.time.session - c.time).toNat) →
    s.takeDetection g d = { v with former.tallies.orphaned := v.former.tallies.orphaned + 1 }) ∧
  (∀ (s v w : State) (g : Gate) (d : Detection) (c : Capture) (shared : Bool),
    ((∃ rest, s.time.gates[g].stack = c :: rest ∧ shared = false ∧
        v = { s.senseLane g d with
          time.gates := s.time.gates.set g { s.time.gates[g] with stack := rest, last := some c } })
      ∨ (s.time.gates[g].stack = [] ∧ s.time.gates[g].last = some c ∧ (s.time.session - c.time).toNat < 2000 ∧
        shared = true ∧ v = s.senseLane g d)) →
    w = v.countObj g .anon →
    (d.quality = 0 ∨ d.code = 0xFFFF → v.bus.heads[g].lanes[d.lane].stuck = true →
      s.takeDetection g d = { w.countObj g .suppressed with
        former.tallies.stuckSuppressed := w.former.tallies.stuckSuppressed + 1 }) ∧
    (d.quality = 0 ∨ d.code = 0xFFFF → v.bus.heads[g].lanes[d.lane].stuck = false → shared = true →
      s.takeDetection g d = { w.countObj g .suppressed with
        former.tallies.sharedAnon := w.former.tallies.sharedAnon + 1 }) ∧
    (d.quality = 0 ∨ d.code = 0xFFFF → v.bus.heads[g].lanes[d.lane].stuck = false → shared = false →
      (v.laneRefused g d.lane →
        s.takeDetection g d = State.anonPassage
          { w with former.tallies.badLane := w.former.tallies.badLane + 1 } g none c .anon) ∧
      (¬ v.laneRefused g d.lane → s.takeDetection g d = w.anonPassage g (some d.lane) c .anon)) ∧
    (d.quality ≠ 0 → d.code ≠ 0xFFFF → validCode d.code = true →
      (v.laneRefused g d.lane →
        s.takeDetection g d = State.codedPassage
          { v with former.tallies.badLane := v.former.tallies.badLane + 1 } g d.code none c shared) ∧
      (¬ v.laneRefused g d.lane → s.takeDetection g d = v.codedPassage g d.code (some d.lane) c shared)) ∧
    (d.quality ≠ 0 → d.code ≠ 0xFFFF → validCode d.code = false →
      s.takeDetection g d = v.strayRead g d.code (some d.lane) .reserved)) ∧
  (∀ (s t : State) (g : Gate) (c : Code) (l : Option Lane) (reason : StrayReason),
    t = s.strayRead g c l reason →
    (if s.former.stray.map StrayMemory.code = some c then t = s.countObj g .strays
    else
      t.former = { s.former with stray := some ⟨c, ⟨s.time.session, 1000000⟩⟩ } ∧
        t.journal = s.journal.added s.raceMs (.stray c g l reason) ∧
        t = { s.countObj g .strays with
          former := t.former, journal := t.journal, portA := t.portA, portB := t.portB }))

/-- A coded passage by race state and roster. A roster car in IDLE, GRID or CLOSED is only seen, and counted QUIET
whether or not its gate has a point (R45; notes/assumptions/19.md); one that may take passages is counted NO_POINT
without a course point, suppressed at a re-arm read, or handed to Lap Accounting (R43, R47, R58); an unentered one is
a stray (R46). A code the roster does not hold is learned in PRACTICE with learning on, in its home slot or the lowest
free overflow slot, and is a stray otherwise or when no slot is free (R46, R61, R68). -/
def Obligations.CodedPassages : Prop :=
  (∀ (s t : State) (g : Gate) (code : Code) (x : Car) (l : Option Lane) (c : Capture) (shared : Bool),
    t = s.codedPassage g code l c shared → s.car code = some x →
    (s.race.state = .idle ∨ s.race.state = .grid ∨ s.race.state = .closed) →
    s.carSet t code { x with lastSeen := c.time } ∧
      t = { s with roster.slots := t.roster.slots, former.tallies.quiet := s.former.tallies.quiet + 1 }) ∧
  (∀ (s t : State) (g : Gate) (code : Code) (x : Car) (l : Option Lane) (c : Capture) (shared : Bool),
    t = s.codedPassage g code l c shared → s.car code = some x →
    (s.race.state = .practice ∨ x.entered = true ∧ (s.race.state = .countdown ∨ s.race.state = .green
      ∨ s.race.state = .caution ∨ s.race.state = .suspended ∨ s.race.state = .chequered)) →
    (s.pointOf g = none → s.carSet t code { x with lastSeen := c.time } ∧
      t = { s with roster.slots := t.roster.slots, former.tallies.noPoint := s.former.tallies.noPoint + 1 }) ∧
    (∀ q p, s.pointOf g = some q → x.race.last = some p → p.point = q →
      (c.time - p.capture.time).toNat < s.course.settings.rearm * 10000 →
      t = { s.countObj g .suppressed with
        former.tallies.rearmSuppressed := s.former.tallies.rearmSuppressed + 1 }) ∧
    (∀ q, s.pointOf g = some q →
      (∀ p, x.race.last = some p → p.point = q →
        s.course.settings.rearm * 10000 ≤ (c.time - p.capture.time).toNat) →
      t = s.processPassage ⟨code, q, l, c, if shared then .shared else .coded⟩)) ∧
  (∀ (s : State) (g : Gate) (code : Code) (x : Car) (l : Option Lane) (c : Capture) (shared : Bool),
    s.car code = some x → x.entered = false →
    (s.race.state = .countdown ∨ s.race.state = .green ∨ s.race.state = .caution ∨ s.race.state = .suspended
      ∨ s.race.state = .chequered) →
    ∃ u : State, s.carSet u code { x with lastSeen := c.time } ∧
      u = { s with roster.slots := u.roster.slots, former.tallies.unentered := s.former.tallies.unentered + 1 } ∧
      s.codedPassage g code l c shared = u.strayRead g code l .unentered) ∧
  (∀ (s : State) (g : Gate) (code : Code) (l : Option Lane) (c : Capture) (shared : Bool), s.car code = none →
    (s.race.state ≠ .practice ∨ s.roster.learning = false) →
    s.codedPassage g code l c shared = s.strayRead g code l .unknown) ∧
  (∀ (s : State) (g : Gate) (code : Code) (l : Option Lane) (c : Capture) (shared : Bool) (i : Slot),
    s.car code = none → s.race.state = .practice → s.roster.learning = true → s.roster.slots[i] = none →
    (i = homeSlot code ∨ s.roster.slots[homeSlot code] ≠ none ∧ 64 ≤ i.val ∧
      ∀ j : Slot, 64 ≤ j.val → j.val < i.val → s.roster.slots[j] ≠ none) →
    s.codedPassage g code l c shared = State.codedPassage
      { s with
        roster.slots := s.roster.slots.set i
          (some ⟨code, none, 0, .learned, c.time, false, none, RacePart.initial⟩)
        roster.tallyLearned := s.roster.tallyLearned + 1 } g code l c shared) ∧
  (∀ (s : State) (g : Gate) (code : Code) (l : Option Lane) (c : Capture) (shared : Bool), s.car code = none →
    s.race.state = .practice → s.roster.learning = true → s.roster.slots[homeSlot code] ≠ none →
    (∀ j : Slot, 64 ≤ j.val → s.roster.slots[j] ≠ none) →
    s.codedPassage g code l c shared = State.strayRead
      { s with roster.tallyLearnRefused := s.roster.tallyLearnRefused + 1 } g code l .learnRefused)

/-- An ANON passage or a BLANK: without a course point or in a state where no car takes passages it is only counted
(R43, R45); a single nearest qualifying car wins it, and it is then suppressed at a re-arm read or handed to Lap
Accounting (R47 to R50); with no qualifying car or a shared smallest distance it joins the unattributed list (R50).
Joining a list of 8 first drops its head; the record takes the next free id and stands ahead of the first record whose
capture is later, which in an ordered list is after every record not later (R51, R52). That the head counts as the
earliest record and that the list is not re-sorted when the green origin moves is the model's choice
(notes/assumptions/32.md). -/
def Obligations.AnonymousPassages : Prop :=
  (∀ (s : State) (g : Gate) (l : Option Lane) (c : Capture) (o : UnattrOrigin), s.pointOf g = none →
    s.anonPassage g l c o = { s with former.tallies.noPoint := s.former.tallies.noPoint + 1 }) ∧
  (∀ (s : State) (g : Gate) (q : Nat) (l : Option Lane) (c : Capture) (o : UnattrOrigin), s.pointOf g = some q →
    (s.race.state = .idle ∨ s.race.state = .grid ∨ s.race.state = .countdown ∨ s.race.state = .closed) →
    s.anonPassage g l c o = { s with former.tallies.quiet := s.former.tallies.quiet + 1 }) ∧
  (∀ (s u : State) (g : Gate) (q d : Nat) (l : Option Lane) (c : Capture) (o : UnattrOrigin) (x : Car)
    (before after : List Car), s.pointOf g = some q →
    (s.race.state = .practice ∨ s.race.state = .green ∨ s.race.state = .caution ∨ s.race.state = .suspended
      ∨ s.race.state = .chequered) →
    s.cars = before ++ x :: after → s.qualifies x q l c d →
    (∀ y ∈ before ++ after, ∀ e, s.qualifies y q l c e → d < e) →
    u = { s with former.tallies.predicted := s.former.tallies.predicted + 1 } →
    (∀ p, x.race.last = some p → p.point = q →
      (c.time - p.capture.time).toNat < s.course.settings.rearm * 10000 →
      s.anonPassage g l c o = { u.countObj g .suppressed with
        former.tallies.rearmSuppressed := u.former.tallies.rearmSuppressed + 1 }) ∧
    ((∀ p, x.race.last = some p → p.point = q →
        s.course.settings.rearm * 10000 ≤ (c.time - p.capture.time).toNat) →
      s.anonPassage g l c o = u.processPassage ⟨x.code, q, l, c, .predicted⟩)) ∧
  (∀ (s : State) (g : Gate) (q : Nat) (l : Option Lane) (c : Capture) (o : UnattrOrigin), s.pointOf g = some q →
    (s.race.state = .practice ∨ s.race.state = .green ∨ s.race.state = .caution ∨ s.race.state = .suspended
      ∨ s.race.state = .chequered) →
    ((∀ x ∈ s.cars, ∀ d, ¬ s.qualifies x q l c d)
      ∨ ∃ x y d before mid after, s.cars = before ++ x :: mid ++ y :: after ∧ s.qualifies x q l c d ∧
        s.qualifies y q l c d ∧ ∀ z ∈ s.cars, ∀ e, s.qualifies z q l c e → d ≤ e) →
    s.anonPassage g l c o = s.joinUnattr g q l c o) ∧
  (∀ (s : State) (g : Gate) (q : Nat) (l : Option Lane) (c : Capture) (o : UnattrOrigin) (drop : Option Unattr)
    (kept : List Unattr), s.former.list.length ≤ 8 → 1 ≤ s.former.nextId → s.former.nextId ≤ 255 →
    drop = (if s.former.list.length < 8 then none else s.former.list.head?) →
    kept = s.former.list.filter (fun a => drop.all (fun h => a.id != h.id)) →
    ∃ (t : State) (id : Nat) (r : Unattr) (before after : List Unattr), t = s.joinUnattr g q l c o ∧
      takesId s.former.nextId (kept.map Unattr.id) id ∧
      r = ⟨id, g, q, l, c, s.captureMs c, o, ⟨c.time, 3000000⟩⟩ ∧ kept = before ++ after ∧
      (∀ a ∈ before, s.sinceGreen a.capture.time ≤ s.sinceGreen c.time) ∧
      (∀ a, after.head? = some a → s.sinceGreen c.time < s.sinceGreen a.capture.time) ∧
      (kept.Pairwise (fun a b => s.sinceGreen a.capture.time ≤ s.sinceGreen b.capture.time) →
        ∀ a ∈ after, s.sinceGreen c.time < s.sinceGreen a.capture.time) ∧
      t.former = { s.former with
        list := before ++ r :: after
        nextId := if id = 255 then 1 else id + 1
        tallies := { s.former.tallies with
          joined := s.former.tallies.joined + 1
          dropped := s.former.tallies.dropped + (if drop.isSome then 1 else 0) } } ∧
      t.journal = Journal.added
        (drop.elim s.journal (fun h =>
          s.journal.added s.raceMs (.unattributedGone h.id h.origin .dropped 0)))
        s.raceMs (.unattributed r ((3000000 - (s.time.session - c.time).toNat) / 100)) ∧
      t = { s with former := t.former, journal := t.journal, portA := t.portA, portB := t.portB })

/-- DISCARD from either port in every race state: an id of 0 is a bad argument, an absent record is not found, and a
record is removed with its notice and tally. While no record has the id, a legal ASSIGN of it is not found; an
accepted ASSIGN leaves no record with the id (R55). -/
def Obligations.Discard : Prop :=
  (∀ (p : PortId) (s : State) (tag : Byte), s.takes p 0x23 tag [0] →
    ∃ t, exec (.discard p tag [0]) s = .next t ∧ t.answered p 0x23 tag .badArgument [] ∧ s.onlyPorts t) ∧
  (∀ (p : PortId) (s : State) (tag b : Byte), s.takes p 0x23 tag [b] → b ≠ 0 →
    (∀ r ∈ s.former.list, r.id ≠ b.toNat) →
    ∃ t, exec (.discard p tag [b]) s = .next t ∧ t.answered p 0x23 tag .notFound [] ∧ s.onlyPorts t) ∧
  (∀ (p : PortId) (s : State) (tag b : Byte) (r : Unattr), s.takes p 0x23 tag [b] → b ≠ 0 →
    s.unattr b.toNat = some r →
    ∃ t, exec (.discard p tag [b]) s = .next t ∧ t.answered p 0x23 tag .ok [] ∧
      t.former = { s.former with
        list := s.former.list.filter (fun x => x.id != b.toNat)
        tallies := { s.former.tallies with discarded := s.former.tallies.discarded + 1 } } ∧
      (∀ x ∈ t.former.list, x.id ≠ b.toNat) ∧
      t.journal = s.journal.added s.raceMs (.unattributedGone b.toNat r.origin .discarded 0) ∧
      t = { s with former := t.former, journal := t.journal, portA := t.portA, portB := t.portB }) ∧
  (∀ (p : PortId) (s : State) (tag b : Byte) (c : Code), s.takes p 0x22 tag (b :: codeBytes c) → b ≠ 0 →
    validCode c = true → s.race.state.assignable = true → (∀ r ∈ s.former.list, r.id ≠ b.toNat) →
    ∃ t, exec (.assign p tag (b :: codeBytes c)) s = .next t ∧ t.answered p 0x22 tag .notFound [] ∧
      s.onlyPorts t) ∧
  (∀ (p : PortId) (s t : State) (tag b : Byte) (c : Code), s.takes p 0x22 tag (b :: codeBytes c) →
    exec (.assign p tag (b :: codeBytes c)) s = .next t → t.answered p 0x22 tag .ok [] →
    (s.port p).tx = none → ∀ x ∈ t.former.list, x.id ≠ b.toNat)

/-- An accepted ASSIGN takes the record off the list, counts it and notices it as ASSIGNED with the code of its car,
and hands its passage to Lap Accounting with origin ASSIGNED and without a re-arm test; a record older than the car's
last passage is refused STALE (R54, R58). -/
def Obligations.AssignRules : Prop :=
  (∀ (p : PortId) (s : State) (tag b : Byte) (c : Code) (r : Unattr) (x : Car),
    s.takes p 0x22 tag (b :: codeBytes c) → b ≠ 0 → validCode c = true → s.race.state.assignable = true →
    s.unattr b.toNat = some r → s.car c = some x → s.mayTake x = true →
    (x.race.state = .running ∨ x.race.state = .offTrack) →
    (∀ l, x.race.last = some l → s.sinceGreen l.capture.time ≤ s.sinceGreen r.capture.time) →
    ∃ t u : State, exec (.assign p tag (b :: codeBytes c)) s = .next t ∧ t.answered p 0x22 tag .ok [] ∧
      u.former = { s.former with
        list := s.former.list.filter (fun y => y.id != b.toNat)
        tallies := { s.former.tallies with assigned := s.former.tallies.assigned + 1 } } ∧
      u.journal = s.journal.added s.raceMs (.unattributedGone b.toNat r.origin .assigned c) ∧
      u = { s with former := u.former, journal := u.journal, portA := u.portA, portB := u.portB } ∧
      t = { u.processPassage ⟨c, r.point, r.lane, r.capture, .assigned⟩ with
        portA := t.portA, portB := t.portB } ∧
      t.former = u.former) ∧
  (∀ (p : PortId) (s : State) (tag b : Byte) (c : Code) (r : Unattr) (x : Car) (l : LastPassage),
    s.takes p 0x22 tag (b :: codeBytes c) → b ≠ 0 → validCode c = true → s.race.state.assignable = true →
    s.unattr b.toNat = some r → s.car c = some x → s.mayTake x = true →
    (x.race.state = .running ∨ x.race.state = .offTrack) → x.race.last = some l →
    s.sinceGreen r.capture.time < s.sinceGreen l.capture.time →
    ∃ t, exec (.assign p tag (b :: codeBytes c)) s = .next t ∧ t.answered p 0x22 tag .stale [] ∧ s.onlyPorts t)

/-! ## The roster -/

/-- REGISTER_CAR and REMOVE_CAR from port A: the home slot of a code; a new record in its home slot or else in the
lowest free overflow slot; a LEARNED record taken over in place; CONFLICT, FULL and REFUSED_STATE (R59, R61, R62, R66,
R67). SET_LEARNING stores its flag (R68); the aging check restarts its timer and removes and counts exactly the
LEARNED records that are not entered and have reached the age limit (R70). -/
def Obligations.RosterRequests : Prop :=
  (∀ c : Code, (homeSlot c).val = (c.toNat % 64) ^^^ (c.toNat / 64 % 64) ^^^ (c.toNat / 4096)) ∧
  (∀ (s : State) (tag : Byte) (c : Code) (n d : Nat) (i : Slot),
    s.takes .A 0x19 tag (codeBytes c ++ u16 n ++ u8 d) → validCode c = true → 1 ≤ n → n ≤ 999 → d ≤ 32 →
    (s.race.state = .idle ∨ s.race.state = .practice) → (∀ j : Slot, s.roster.codeAt j ≠ some c) →
    s.roster.slots[i] = none →
    (i = homeSlot c ∨ s.roster.slots[homeSlot c] ≠ none ∧ 64 ≤ i.val ∧
      ∀ j : Slot, 64 ≤ j.val → j.val < i.val → s.roster.slots[j] ≠ none) →
    ∃ t, exec (.registerCar .A tag (codeBytes c ++ u16 n ++ u8 d)) s = .next t ∧
      t.answered .A 0x19 tag .ok [BitVec.ofNat 8 i.val] ∧
      t.roster = { s.roster with
        slots := s.roster.slots.set i
          (some ⟨c, some n, d, .registered, s.time.session, false, none, RacePart.initial⟩) } ∧
      t = { s with roster := t.roster, portA := t.portA, portB := t.portB }) ∧
  (∀ (s : State) (tag : Byte) (c : Code) (n d : Nat) (i : Slot) (x : Car),
    s.takes .A 0x19 tag (codeBytes c ++ u16 n ++ u8 d) → validCode c = true → 1 ≤ n → n ≤ 999 → d ≤ 32 →
    (s.race.state = .idle ∨ s.race.state = .practice) → s.roster.find c = some i → s.roster.slots[i] = some x →
    ∃ t, exec (.registerCar .A tag (codeBytes c ++ u16 n ++ u8 d)) s = .next t ∧
      (if x.origin = .learned then
        t.answered .A 0x19 tag .ok [BitVec.ofNat 8 i.val] ∧
          t.roster = { s.roster with
            slots := s.roster.slots.set i (some { x with origin := .registered, number := some n, drive := d }) } ∧
          t = { s with roster := t.roster, portA := t.portA, portB := t.portB }
      else t.answered .A 0x19 tag .conflict [] ∧ s.onlyPorts t)) ∧
  (∀ (s : State) (tag : Byte) (c : Code) (n d : Nat),
    s.takes .A 0x19 tag (codeBytes c ++ u16 n ++ u8 d) → validCode c = true → 1 ≤ n → n ≤ 999 → d ≤ 32 →
    (s.race.state = .idle ∨ s.race.state = .practice) → (∀ j : Slot, s.roster.codeAt j ≠ some c) →
    s.roster.slots[homeSlot c] ≠ none → (∀ j : Slot, 64 ≤ j.val → s.roster.slots[j] ≠ none) →
    ∃ t, exec (.registerCar .A tag (codeBytes c ++ u16 n ++ u8 d)) s = .next t ∧
      t.answered .A 0x19 tag .full [] ∧ s.onlyPorts t) ∧
  (∀ (s : State) (tag : Byte) (c : Code) (i : Slot) (x : Car), s.takes .A 0x1A tag (codeBytes c) →
    validCode c = true → s.roster.find c = some i → s.roster.slots[i] = some x →
    ∃ t, exec (.removeCar .A tag (codeBytes c)) s = .next t ∧
      (if x.entered = true then t.answered .A 0x1A tag .refusedState [] ∧ s.onlyPorts t
      else t.answered .A 0x1A tag .ok [] ∧
        t.roster = { s.roster with slots := s.roster.slots.set i none } ∧
        t = { s with roster := t.roster, portA := t.portA, portB := t.portB })) ∧
  (∀ (s : State) (tag : Byte) (on : Bool), s.takes .A 0x1B tag [if on then 1 else 0] →
    ∃ t, exec (.setLearning .A tag [if on then 1 else 0]) s = .next t ∧ t.answered .A 0x1B tag .ok [] ∧
      t = { s with roster.learning := on, portA := t.portA, portB := t.portB }) ∧
  (∀ s : State, s.reached s.roster.aging →
    ∃ t, exec .agingCheck s = .next t ∧
      (∀ i : Slot, t.roster.slots[i] = (s.roster.slots[i]).filter (fun x =>
        !(decide (x.origin = .learned) && !x.entered
          && decide (s.roster.ageLimit * 6000000 ≤ (s.time.session - x.lastSeen).toNat)))) ∧
      t.roster.tallyAged = s.roster.tallyAged + BitVec.ofNat 32 (s.cars.length - t.cars.length) ∧
      t.roster = { s.roster with
        slots := t.roster.slots, aging := ⟨s.time.session, 6000000⟩, tallyAged := t.roster.tallyAged } ∧
      t = { s with roster := t.roster })

/-- The age limit: 20 after a hard reset, kept at a soft reset and at RELEASE, clamped and stored by SET_AGE_LIMIT in
every race state, used by the next aging check as limit times 6,000,000 ticks (R69). -/
def Obligations.AgeLimit : Prop :=
  (∀ (a b : Bool) (s : State), ∃ t, exec (.hardReset a b) s = .next t ∧ t.roster.ageLimit = 20) ∧
  (∀ (p : PortId) (tag : Byte) (payload : List Byte) (s t : State), exec (.softReset p tag payload) s = .next t →
    t.roster.ageLimit = s.roster.ageLimit) ∧
  (∀ (p : PortId) (tag : Byte) (payload : List Byte) (s t : State), exec (.release p tag payload) s = .next t →
    t.roster.ageLimit = s.roster.ageLimit) ∧
  (∀ (s : State) (tag b : Byte), s.takes .A 0x1C tag [b] →
    ∃ t, exec (.setAgeLimit .A tag [b]) s = .next t ∧ t.answered .A 0x1C tag .ok [] ∧
      t.roster = { s.roster with ageLimit := max 1 b.toNat } ∧ 1 ≤ t.roster.ageLimit ∧ t.roster.ageLimit ≤ 255 ∧
      t = { s with roster := t.roster, portA := t.portA, portB := t.portB }) ∧
  (∀ (s : State) (i : Slot) (x : Car), s.reached s.roster.aging → s.roster.slots[i] = some x →
    x.origin = .learned → x.entered = false →
    ∃ t, exec .agingCheck s = .next t ∧
      (t.roster.slots[i] = none ↔ s.roster.ageLimit * 6000000 ≤ (s.time.session - x.lastSeen).toNat)) ∧
  (∀ limit : Nat, limit ≤ 255 → limit * 6000000 ≤ 1530000000 ∧ 1530000000 < 2 ^ 31)

/-- ENTER and WITHDRAW from port A in IDLE: the record entered on the grid slot asked for, or on the lowest free one,
and withdrawn again; only the row of its drive slot is recomputed (R71, R72, R164, R177). -/
def Obligations.EntryRequests : Prop :=
  (∀ (s : State) (tag : Byte) (c : Code) (grid : Nat) (x : Car), s.takes .A 0x1D tag (codeBytes c ++ u8 grid) →
    validCode c = true → grid ≤ 32 → s.race.state = .idle → s.car c = some x → x.entered = false →
    s.cars.countP Car.entered < 32 → 1 ≤ x.drive → (∀ y ∈ s.cars, y.entered = true → y.drive ≠ x.drive) →
    (∀ y ∈ s.cars, y.entered = true → grid ≠ 0 → y.gridSlot ≠ some grid) →
    ∃ t slot, exec (.enter .A tag (codeBytes c ++ u8 grid)) s = .next t ∧
      t.answered .A 0x1D tag .ok [BitVec.ofNat 8 slot] ∧ (grid ≠ 0 → slot = grid) ∧
      (grid = 0 → 1 ≤ slot ∧ slot ≤ 32 ∧ (∀ y ∈ s.cars, y.entered = true → y.gridSlot ≠ some slot) ∧
        ∀ n, 1 ≤ n → n < slot → ∃ y ∈ s.cars, y.entered = true ∧ y.gridSlot = some n) ∧
      s.carSet t c { x with entered := true, gridSlot := some slot } ∧
      (∀ d : DriveIx, t.power.rows[d] = if d.val + 1 = x.drive then t.rowOf d else s.power.rows[d]) ∧
      t = { s with
        roster := t.roster, stand := t.stand, power := t.power, portA := t.portA, portB := t.portB }) ∧
  (∀ (s : State) (tag : Byte) (c : Code) (x : Car), s.takes .A 0x1E tag (codeBytes c) → validCode c = true →
    s.race.state = .idle → s.car c = some x → x.entered = true →
    ∃ t, exec (.withdraw .A tag (codeBytes c)) s = .next t ∧ t.answered .A 0x1E tag .ok [] ∧
      s.carSet t c { x with entered := false, gridSlot := none } ∧
      (∀ d : DriveIx, t.power.rows[d] = if d.val + 1 = x.drive then t.rowOf d else s.power.rows[d]) ∧
      t = { s with
        roster := t.roster, stand := t.stand, power := t.power, portA := t.portA, portB := t.portB })

/-- RETIRE from port A in a race: the car is RETIRED with no silence deadline and an empty serve queue, and only a
chequered race can close by it (R75, R130, R156). ADJUST_LAPS from port A in a race: the adjustment grows by the
clamped amount within 999 either way, and the reply carries it with the effective laps, the signed sum kept within 0
to 65,535 (R102, R109). -/
def Obligations.RetireAndAdjust : Prop :=
  (∀ (s : State) (tag : Byte) (c : Code) (x : Car), s.takes .A 0x1F tag (codeBytes c) → validCode c = true →
    s.race.state.racing = true → s.car c = some x → x.entered = true → x.race.state ≠ .retired →
    x.race.state ≠ .finished →
    ∃ t y, exec (.retire .A tag (codeBytes c)) s = .next t ∧ t.answered .A 0x1F tag .ok [] ∧
      t.car c = some y ∧ y.race.state = .retired ∧ y.race.silence = none ∧ y.race.counted = x.race.counted ∧
      t.serveQueue c = [] ∧
      (t.race.state = s.race.state ∨ s.race.state = .chequered ∧ t.race.state = .closed)) ∧
  (∀ (s : State) (tag d : Byte) (c : Code) (x : Car), s.takes .A 0x20 tag (codeBytes c ++ [d]) →
    validCode c = true → s.race.state.racing = true → s.car c = some x → x.entered = true →
    ∃ (t : State) (a : Int) (e : Nat), exec (.adjustLaps .A tag (codeBytes c ++ [d])) s = .next t ∧
      a = max (-999) (min 999 (x.race.adjust + max (-9) (min 9 d.toInt))) ∧
      (e : Int) = max 0 (min 65535 ((x.race.counted : Int) + a - (x.race.deductions : Int))) ∧
      t.answered .A 0x20 tag .ok (i16 a ++ u16 e) ∧
      s.carSet t c { x with race := { x.race with adjust := a } } ∧ t.stand.formed = s.stand.formed ∧
      t = { s with
        roster := t.roster, stand := t.stand, journal := t.journal, portA := t.portA, portB := t.portB })

/-! ## Course, settings, start program, schedule -/

/-- SET_POINT_COUNT, SET_COURSE_POINT and SET_SECTION from port A: the map each leaves, what a structural edit does to
every car, and a section written at once or, in a race, to the shadow map (R82 to R86). The reply data 0 for applied
and 1 for pending, and the reply P to a count that does not change, are the model's choice (notes/assumptions/26.md).
-/
def Obligations.CourseEdits : Prop :=
  (∀ (s : State) (tag b : Byte) (n : Nat), s.takes .A 0x10 tag [b] →
    (s.race.state = .idle ∨ s.race.state = .practice) → n = max 2 (min 12 b.toNat) →
    ∃ t, exec (.setPointCount .A tag [b]) s = .next t ∧ t.answered .A 0x10 tag .ok [BitVec.ofNat 8 n] ∧
      (if n = s.course.points.length then s.onlyPorts t
      else
        t.course = { s.course with
          points := s.course.points.take n
            ++ List.replicate (n - s.course.points.length) ⟨none, false, false⟩
          sectors := s.course.sectors.take n
            ++ List.replicate (n - s.course.sectors.length) ⟨.opened, .none, 0, 1000, 0⟩ } ∧
        s.carsMapped t (fun x => { x with race := { x.race with
          last := none, lapStart := none, lapState := .closed, missed := 0 } }) ∧
        t = { s with course := t.course, roster := t.roster, portA := t.portA, portB := t.portB })) ∧
  (∀ (s : State) (tag : Byte) (i : Nat) (gate : Option Gate) (serving pit : Bool) (payload : List Byte),
    payload = [BitVec.ofNat 8 i, (match gate with | some g => gateByte g | none => 0), if serving then 1 else 0,
      if pit then 1 else 0] →
    s.takes .A 0x11 tag payload → (s.race.state = .idle ∨ s.race.state = .practice) → i < 12 →
    i < s.course.points.length →
    (∀ g, gate = some g → s.bus.heads[g].state ≠ .off ∧
      ∀ j q, s.course.points[j]? = some q → q.gate = some g → j = i) →
    ∃ t, exec (.setCoursePoint .A tag payload) s = .next t ∧ t.answered .A 0x11 tag .ok [] ∧
      t.course.points[i]? = some ⟨gate, serving, pit⟩ ∧
      (∀ j, j ≠ i → t.course.points[j]? = (s.course.points[j]?).map (fun q =>
        if serving then { q with serving := false } else q)) ∧
      t.course = { s.course with points := t.course.points } ∧
      (if (s.course.points[i]?).map CoursePoint.gate = some gate then t.roster = s.roster
      else s.carsMapped t (fun x => { x with race := { x.race with
        last := none, lapStart := none, lapState := .closed, missed := 0 } })) ∧
      t = { s with course := t.course, roster := t.roster, portA := t.portA, portB := t.portB }) ∧
  (∀ (s : State) (tag : Byte) (i : Nat) (lane : LaneRule) (pit : PitRule) (mn nom pm : Nat) (payload : List Byte),
    payload = [BitVec.ofNat 8 i, BitVec.ofNat 8 lane.toCode, BitVec.ofNat 8 pit.toCode] ++ u16 mn ++ u16 nom ++ u16 pm →
    s.takes .A 0x12 tag payload → i < 12 → i < s.course.points.length → mn < 65536 → nom < 65536 → pm < 65536 →
    (∃ t, exec (.setSection .A tag payload) s = .next t ∧
      (if s.race.state = .idle ∨ s.race.state = .practice then
        t.answered .A 0x12 tag .ok [0] ∧
          t.course = { s.course with sectors := s.course.sectors.set i ⟨lane, pit, mn, max 1 nom, pm⟩ } ∧
          t = { s with course := t.course, portA := t.portA, portB := t.portB }
      else if s.race.state.racing = true then
        t.answered .A 0x12 tag .ok [1] ∧
          t.course = { s.course with
            shadow := some ((s.course.shadow.getD s.course.sectors).set i ⟨lane, pit, mn, max 1 nom, pm⟩) } ∧
          t = { s with course := t.course, portA := t.portA, portB := t.portB }
      else t.answered .A 0x12 tag .refusedState [] ∧ s.onlyPorts t)))

/-- SET_RACE_SETTINGS, SET_START_PROGRAM and SET_SCHEDULE from port A where they are legal: what the payload decodes
to is stored whole and sent back, and a change of any cap recomputes every row (R87, R117, R138). Each number of the
settings and of a schedule row is clamped to its range, the limit and the amount to that of the mode and outcome given
(R87, R137, R138, R192). A byte outside its enumeration, or a step range that runs backwards, is a bad argument and
changes nothing; that this is so in every race state is notes/assumptions/20.md. -/
def Obligations.SettingsRequests : Prop :=
  (∀ (s : State) (tag : Byte) (payload : List Byte) (v : Settings), s.takes .A 0x0F tag payload →
    payload.length = 16 → settingsOf payload = some v → (s.race.state = .idle ∨ s.race.state = .practice) →
    ∃ t, exec (.setRaceSettings .A tag payload) s = .next t ∧ t.answered .A 0x0F tag .ok v.encode ∧
      t.course = { s.course with settings := v } ∧
      (if [v.cautionCap, v.driveCap, v.pitCap, v.coolCap, v.practiceCap]
          = [s.course.settings.cautionCap, s.course.settings.driveCap, s.course.settings.pitCap,
            s.course.settings.coolCap, s.course.settings.practiceCap] then t.power = s.power
      else ∀ d : DriveIx, t.power.rows[d] = t.rowOf d) ∧
      s.powerKept t ∧
      t = { s with course := t.course, power := t.power, portA := t.portA, portB := t.portB }) ∧
  (∀ (s : State) (tag : Byte) (payload : List Byte) (v : StartProgram), s.takes .A 0x0E tag payload →
    payload.length = 68 → programOf payload = some v → (s.race.state = .idle ∨ s.race.state = .practice) →
    ∃ t, exec (.setStartProgram .A tag payload) s = .next t ∧ t.answered .A 0x0E tag .ok v.encode ∧
      t = { s with race.program := v, portA := t.portA, portB := t.portB }) ∧
  (∀ (s : State) (tag : Byte) (payload : List Byte) (k : Fin 6) (v : ScheduleRow), s.takes .A 0x21 tag payload →
    payload.length = 6 → scheduleRowOf payload = some (k, v) → s.race.state = .idle →
    ∃ t, exec (.setSchedule .A tag payload) s = .next t ∧ t.answered .A 0x21 tag .ok (v.encode k.val) ∧
      t = { s with pen.schedule := s.pen.schedule.set k v, portA := t.portA, portB := t.portB }) ∧
  (∀ (m l h w gp mt sl re de ju cc dc pc co pr lc : Byte) (mode : RaceMode) (grid : GridPosition)
    (deslot : DeslotAction) (jump : JumpAction), m = BitVec.ofNat 8 mode.toCode → gp = BitVec.ofNat 8 grid.toCode →
    de = BitVec.ofNat 8 deslot.toCode → ju = BitVec.ofNat 8 jump.toCode →
    settingsOf [m, l, h, w, gp, mt, sl, re, de, ju, cc, dc, pc, co, pr, lc] = some {
      mode := mode
      limit := if mode = .laps then max 1 (min 9999 (l.toNat + 256 * h.toNat))
        else max 60 (min 36000 (l.toNat + 256 * h.toNat))
      finishWindow := max 5 (min 255 w.toNat), gridPosition := grid, missTolerance := min 3 mt.toNat
      silenceLimit := max 10 (min 255 sl.toNat), rearm := max 1 (min 255 re.toNat), deslot := deslot, jump := jump
      cautionCap := min 63 cc.toNat, driveCap := min 63 dc.toNat, pitCap := min 63 pc.toNat
      coolCap := min 63 co.toNat, practiceCap := min 63 pr.toNat, laneCount := max 2 (min 6 lc.toNat) }) ∧
  (∀ (kb ob a mb w cv : Byte) (k : Fin 6) (o : PenaltyOutcome) (m : ReviewMode), kb = BitVec.ofNat 8 k.val →
    ob = BitVec.ofNat 8 o.toCode → mb = BitVec.ofNat 8 m.toCode →
    scheduleRowOf [kb, ob, a, mb, w, cv] = some (k, {
      outcome := o
      amount := match o with
        | .time => max 1 (min 255 a.toNat)
        | .stopGo => max 1 (min 60 a.toNat)
        | .lockout | .lapDeduct => max 1 (min 9 a.toNat)
        | .driveThrough | .warning => 0
      mode := m, window := w.toNat, conversion := max 1 (min 255 cv.toNat) })) ∧
  (∀ (s : State) (tag : Byte) (payload : List Byte), s.takes .A 0x0F tag payload → payload.length = 16 →
    (1 < (payload.getD 0 0).toNat ∨ 1 < (payload.getD 4 0).toNat ∨ 1 < (payload.getD 8 0).toNat
      ∨ 1 < (payload.getD 9 0).toNat) →
    ∃ t, exec (.setRaceSettings .A tag payload) s = .next t ∧ t.answered .A 0x0F tag .badArgument [] ∧
      s.onlyPorts t) ∧
  (∀ (s : State) (tag : Byte) (payload : List Byte), s.takes .A 0x0E tag payload → payload.length = 68 →
    (15 < (payload.getD 65 0).toNat ∨ 15 < (payload.getD 67 0).toNat
      ∨ (payload.getD 65 0).toNat < (payload.getD 64 0).toNat
      ∨ (payload.getD 67 0).toNat < (payload.getD 66 0).toNat
      ∨ ∃ i : Fin 16, (payload.getD (4 * i.val) 0).getLsbD 6 = true) →
    ∃ t, exec (.setStartProgram .A tag payload) s = .next t ∧ t.answered .A 0x0E tag .badArgument [] ∧
      s.onlyPorts t) ∧
  (∀ (s : State) (tag : Byte) (payload : List Byte), s.takes .A 0x21 tag payload → payload.length = 6 →
    (5 < (payload.getD 0 0).toNat ∨ 5 < (payload.getD 1 0).toNat ∨ 2 < (payload.getD 3 0).toNat) →
    ∃ t, exec (.setSchedule .A tag payload) s = .next t ∧ t.answered .A 0x21 tag .badArgument [] ∧
      s.onlyPorts t)

/-- What SET_RACE_SETTINGS, SET_START_PROGRAM and SET_SCHEDULE read from a payload is what their layout writes, for
every value within its range (R87, R117, R138, R198). -/
def Obligations.SettingsRoundTrip : Prop :=
  (∀ v : Settings, v.limit = clampLimit v.mode v.limit → 5 ≤ v.finishWindow → v.finishWindow ≤ 255 →
    v.missTolerance ≤ 3 → 10 ≤ v.silenceLimit → v.silenceLimit ≤ 255 → 1 ≤ v.rearm → v.rearm ≤ 255 →
    v.cautionCap ≤ 63 → v.driveCap ≤ 63 → v.pitCap ≤ 63 → v.coolCap ≤ 63 → v.practiceCap ≤ 63 →
    2 ≤ v.laneCount → v.laneCount ≤ 6 → v.encode.length = 16 ∧ settingsOf v.encode = some v) ∧
  (∀ v : StartProgram, (∀ i : Fin 16, v.steps[i].duration < 65536 ∧ v.steps[i].extension < 256) →
    v.g0 ≤ v.g1 → v.c0 ≤ v.c1 → v.encode.length = 68 ∧ programOf v.encode = some v) ∧
  (∀ (k : Fin 6) (v : ScheduleRow), clampAmount v.outcome v.amount = v.amount → v.window < 256 →
    1 ≤ v.conversion → v.conversion ≤ 255 →
    (v.encode k.val).length = 6 ∧ scheduleRowOf (v.encode k.val) = some (k, v))

/-! ## Race states -/

/-- OPEN_PRACTICE from port A in IDLE, END_PRACTICE in PRACTICE and the practice limit: clocks, cars, rows, lines,
lamps and the STATE notice of each change (R3, R74, R111, R113, R114). -/
def Obligations.PracticeSession : Prop :=
  (∀ (s : State) (tag : Byte), s.takes .A 0x01 tag [] → s.race.state = .idle →
    ∃ t, exec (.openPractice .A tag []) s = .next t ∧ t.answered .A 0x01 tag .ok [] ∧
      t.race = { s.race with
        state := .practice, practiceLimit := some 3600000000, reason := .request, lamps := 0x20 } ∧
      t.time = { s.time with green := s.time.session, nClosed := 0, s0 := 0, latched := none } ∧
      s.carsMapped t (fun x => { x with race := { RacePart.initial with refTicks := x.race.refTicks } }) ∧
      t.shown ∧ s.powerKept t ∧
      t.journal = s.journal.added 0 (.state .idle .practice s.race.held none .request) ∧
      t = { s with
        time := t.time, race := t.race, roster := t.roster, power := t.power, journal := t.journal
        portA := t.portA, portB := t.portB }) ∧
  (∀ (s : State) (tag : Byte), s.takes .A 0x02 tag [] → s.race.state = .practice →
    ∃ t, exec (.endPractice .A tag []) s = .next t ∧ t.answered .A 0x02 tag .ok [] ∧
      s.practiceEnded t .request) ∧
  (∀ (s : State) (d : Nat), s.race.state = .practice → s.race.practiceLimit = some d → d ≤ s.raceClock →
    ∃ t, exec .practiceLimit s = .next t ∧ s.practiceEnded t .limit)

/-- FORM_GRID, STAND_DOWN, START and ABORT_START from port A where they are legal: the state, the first step with its
sampled length, the cars, the penalty list, the standings and the jump watch each leaves (R115, R116, R118, R119,
R122, R176). -/
def Obligations.GridAndCountdown : Prop :=
  (∀ (s : State) (tag : Byte), s.takes .A 0x03 tag [] → s.race.state = .idle → (∃ x ∈ s.cars, x.entered = true) →
    2 ≤ s.course.points.length → s.course.points.length ≤ 12 →
    (∀ q ∈ s.course.points, ∃ g, q.gate = some g ∧ s.bus.heads[g].state = .ready) →
    ∃ t, exec (.formGrid .A tag []) s = .next t ∧ t.answered .A 0x03 tag .ok [] ∧
      t.race = { s.race with
        state := .grid
        reason := .request
        step := some ⟨s.race.program.g0, ⟨s.time.session,
          (s.race.program.steps[s.race.program.g0].units s.time.rng) * 1000⟩⟩
        lamps := s.race.program.steps[s.race.program.g0].pattern.setWidth 8 } ∧
      s.carsMapped t (fun x => { x with race := { RacePart.initial with
        refTicks := x.race.refTicks, state := if x.entered then .grid else .idle } }) ∧
      t.pen = { s.pen with list := [] } ∧
      t.stand.formed = true ∧ t.stand.fixed = false ∧ t.stand.amendments = 0 ∧
      (∀ c : Code, (∃ e ∈ t.stand.list, e.code = c) ↔ ∃ x ∈ s.cars, x.entered = true ∧ x.code = c) ∧
      (∀ e ∈ t.stand.list, e.laps = 0 ∧ e.time = 0) ∧
      t.shown ∧ s.powerKept t ∧ t.journal = s.journal.added 0 (.state .idle .grid s.race.held none .request) ∧
      t = { s with
        race := t.race, roster := t.roster, pen := t.pen, stand := t.stand, power := t.power, journal := t.journal
        portA := t.portA, portB := t.portB }) ∧
  (∀ (s : State) (tag : Byte), s.takes .A 0x04 tag [] → s.race.state = .grid →
    ∃ t, exec (.standDown .A tag []) s = .next t ∧ t.answered .A 0x04 tag .ok [] ∧
      t.race = { s.race with state := .idle, step := none, reason := .request, lamps := 0 } ∧
      t.time = { s.time with green := 0, nClosed := 0, s0 := 0, latched := none } ∧
      s.carsMapped t (fun x => { x with race := { x.race with state := .idle } }) ∧
      t.pen = { s.pen with list := [] } ∧ t.shown ∧ s.powerKept t ∧
      t.journal = s.journal.added 0 (.state .grid .idle s.race.held none .request) ∧
      t = { s with
        time := t.time, race := t.race, roster := t.roster, pen := t.pen, power := t.power, journal := t.journal
        portA := t.portA, portB := t.portB }) ∧
  (∀ (s : State) (tag : Byte), s.takes .A 0x05 tag [] → s.race.state = .grid → s.power.linkUp = true →
    s.power.status = some .normal →
    ∃ t, exec (.start .A tag []) s = .next t ∧ t.answered .A 0x05 tag .ok [] ∧
      t.race = { s.race with
        state := .countdown
        reason := .request
        step := some ⟨s.race.program.c0, ⟨s.time.session,
          (s.race.program.steps[s.race.program.c0].units s.time.rng) * 1000⟩⟩
        jumpWatch := s.race.program.steps[s.race.program.c0].jumpWatch
        watchStart := if s.race.program.steps[s.race.program.c0].jumpWatch then some s.time.session else none
        lamps := s.race.program.steps[s.race.program.c0].pattern.setWidth 8 } ∧
      s.carsMapped t (fun x => if x.entered then
        { x with race := { x.race with crossedEarly := false, jumpCalled := false } } else x) ∧
      t.shown ∧ s.powerKept t ∧
      t.journal = s.journal.added 0 (.state .grid .countdown s.race.held none .request) ∧
      t = { s with
        race := t.race, roster := t.roster, power := t.power, journal := t.journal, portA := t.portA
        portB := t.portB }) ∧
  (∀ (s : State) (tag : Byte), s.takes .A 0x05 tag [] → s.race.state = .grid →
    (s.power.linkUp = false ∨ s.power.status ≠ some .normal) →
    ∃ t, exec (.start .A tag []) s = .next t ∧ t.answered .A 0x05 tag .notReady [] ∧ s.onlyPorts t) ∧
  (∀ (s : State) (tag : Byte), s.takes .A 0x06 tag [] → s.race.state = .countdown →
    ∃ t, exec (.abortStart .A tag []) s = .next t ∧ t.answered .A 0x06 tag .ok [] ∧ s.abortedWith t .request)

/-- The step deadline: in GRID the next step, round from g1 to g0; in COUNTDOWN the next step, with the jump watch
turned on by its first JUMP_WATCH step; after c1 the green moment, which starts the race clock, the race limit and
every entered car (R106, R118, R119, R120, R128). -/
def Obligations.StartSteps : Prop :=
  (∀ (s : State) (w : StepTimer) (i : Fin 16), s.race.state = .grid → s.race.step = some w → s.reached w.deadline →
    i = (if w.index = s.race.program.g1 then s.race.program.g0 else w.index + 1) →
    ∃ t, exec .stepDeadline s = .next t ∧
      t.race = { s.race with
        step := some ⟨i, ⟨s.time.session, max 1 (s.race.program.steps[i].duration
          + s.time.rng.toNat % (s.race.program.steps[i].extension + 1)) * 1000⟩⟩
        lamps := s.race.program.steps[i].pattern.setWidth 8 } ∧
      t = { s with race := t.race, portA := t.portA, portB := t.portB }) ∧
  (∀ (s : State) (w : StepTimer) (i : Fin 16), s.race.state = .countdown → s.race.step = some w →
    s.reached w.deadline → w.index ≠ s.race.program.c1 → i = w.index + 1 →
    ∃ t, exec .stepDeadline s = .next t ∧
      t.race = { s.race with
        step := some ⟨i, ⟨s.time.session, max 1 (s.race.program.steps[i].duration
          + s.time.rng.toNat % (s.race.program.steps[i].extension + 1)) * 1000⟩⟩
        jumpWatch := s.race.jumpWatch || s.race.program.steps[i].jumpWatch
        watchStart := if s.race.jumpWatch = false ∧ s.race.program.steps[i].jumpWatch = true
          then some s.time.session else s.race.watchStart
        lamps := s.race.program.steps[i].pattern.setWidth 8 } ∧
      t = { s with race := t.race, portA := t.portA, portB := t.portB }) ∧
  (∀ (s : State) (w : StepTimer), s.race.state = .countdown → s.race.step = some w → s.reached w.deadline →
    w.index = s.race.program.c1 →
    ∃ t, exec .stepDeadline s = .next t ∧
      t.race = { s.race with
        state := .green, jumpWatch := false, step := none, reason := .countdownEnd, lamps := 0x20
        raceLimit := some (if s.course.settings.mode = .time then s.course.settings.limit * 100000
          else 3600000000) } ∧
      t.time = { s.time with green := s.time.session, nClosed := 0, s0 := 0, latched := none } ∧
      s.carsMapped t (fun x => if x.entered then
        { x with race := { x.race with
          state := .running
          silence := some (s.course.settings.silenceLimit * 10000)
          lapState := if s.course.settings.gridPosition = .atLine ∨ x.race.crossedEarly = true then .openTimed
            else x.race.lapState
          lapStart := if s.course.settings.gridPosition = .atLine ∨ x.race.crossedEarly = true then
            some ⟨s.time.session, 0, ⟨.green, false, s.time.cautionEpoch, s.time.suspensionEpoch⟩⟩
            else x.race.lapStart } } else x) ∧
      t.shown ∧ s.powerKept t ∧
      t.journal = s.journal.added 0 (.state .countdown .green s.race.held none .countdownEnd) ∧
      t = { s with
        time := t.time, race := t.race, roster := t.roster, power := t.power, journal := t.journal
        portA := t.portA, portB := t.portB })

/-- CAUTION and LIFT from either port by race state: CAUTION and GREEN, caution held in CHEQUERED, the saved return
state in SUSPENDED, answered OK also where they change nothing there, and REFUSED_STATE in every other state; the
caution epoch grows exactly when a caution begins (R7, R110, R123, R124, R126). -/
def Obligations.CautionAndLift : Prop :=
  (∀ (p : PortId) (s : State) (tag : Byte), s.takes p 0x07 tag [] → s.race.state = .green →
    ∃ t, exec (.caution p tag []) s = .next t ∧ t.answered p 0x07 tag .ok [] ∧
      t.race = { s.race with state := .caution, reason := .request, lamps := 0x40 } ∧
      t.time = { s.time with cautionEpoch := s.time.cautionEpoch + 1 } ∧ t.shown ∧ s.powerKept t ∧
      t.journal = s.journal.added s.raceMs (.state .green .caution s.race.held none .request) ∧
      t = { s with
        time := t.time, race := t.race, power := t.power, journal := t.journal, portA := t.portA
        portB := t.portB }) ∧
  (∀ (p : PortId) (s : State) (tag : Byte), s.takes p 0x07 tag [] → s.race.state = .chequered →
    s.race.held = false →
    ∃ t, exec (.caution p tag []) s = .next t ∧ t.answered p 0x07 tag .ok [] ∧
      t.race = { s.race with held := true, reason := .request, lamps := 0x60 } ∧
      t.time = { s.time with cautionEpoch := s.time.cautionEpoch + 1 } ∧ t.shown ∧ s.powerKept t ∧
      t.journal = s.journal.added s.raceMs (.state .chequered .chequered true none .request) ∧
      t = { s with
        time := t.time, race := t.race, power := t.power, journal := t.journal, portA := t.portA
        portB := t.portB }) ∧
  (∀ (p : PortId) (s : State) (tag : Byte), s.takes p 0x07 tag [] →
    (s.race.state = .caution ∨ s.race.state = .chequered ∧ s.race.held = true) →
    ∃ t, exec (.caution p tag []) s = .next t ∧ t.answered p 0x07 tag .already [] ∧ s.onlyPorts t) ∧
  (∀ (p : PortId) (s : State) (tag : Byte) (v w : SavedState), s.takes p 0x07 tag [] →
    s.race.state = .suspended → s.race.saved = some v →
    (v, w) ∈ [(.green, .caution), (.chequered false, .chequered true)] →
    ∃ t, exec (.caution p tag []) s = .next t ∧ t.answered p 0x07 tag .ok [] ∧
      t.race = { s.race with saved := some w, reason := .request, lamps := 0x80 } ∧
      t.time = { s.time with cautionEpoch := s.time.cautionEpoch + 1 } ∧
      t.journal = s.journal.added s.raceMs (.state .suspended .suspended s.race.held (some w) .request)) ∧
  (∀ (p : PortId) (s : State) (tag : Byte), s.takes p 0x08 tag [] → s.race.state = .caution →
    ∃ t, exec (.lift p tag []) s = .next t ∧ t.answered p 0x08 tag .ok [] ∧
      t.race = { s.race with state := .green, reason := .request, lamps := 0x20 } ∧ t.time = s.time ∧ t.shown ∧
      s.powerKept t ∧ t.journal = s.journal.added s.raceMs (.state .caution .green s.race.held none .request) ∧
      t = { s with race := t.race, power := t.power, journal := t.journal, portA := t.portA, portB := t.portB }) ∧
  (∀ (p : PortId) (s : State) (tag : Byte), s.takes p 0x08 tag [] → s.race.state = .chequered →
    s.race.held = true →
    ∃ t, exec (.lift p tag []) s = .next t ∧ t.answered p 0x08 tag .ok [] ∧
      t.race = { s.race with held := false, reason := .request, lamps := 0x20 } ∧ t.time = s.time ∧ t.shown ∧
      t.journal = s.journal.added s.raceMs (.state .chequered .chequered false none .request)) ∧
  (∀ (p : PortId) (s : State) (tag : Byte), s.takes p 0x08 tag [] → s.race.state = .chequered →
    s.race.held = false →
    ∃ t, exec (.lift p tag []) s = .next t ∧ t.answered p 0x08 tag .already [] ∧ s.onlyPorts t) ∧
  (∀ (p : PortId) (s : State) (tag : Byte) (v w : SavedState), s.takes p 0x08 tag [] →
    s.race.state = .suspended → s.race.saved = some v →
    (v, w) ∈ [(.caution, .green), (.chequered true, .chequered false)] →
    ∃ t, exec (.lift p tag []) s = .next t ∧ t.answered p 0x08 tag .ok [] ∧
      t.race = { s.race with saved := some w, reason := .request, lamps := 0x80 } ∧ t.time = s.time ∧
      t.journal = s.journal.added s.raceMs (.state .suspended .suspended s.race.held (some w) .request)) ∧
  (∀ (p : PortId) (s : State) (tag : Byte), s.takes p 0x07 tag [] → s.race.state = .suspended →
    (s.race.saved = some .caution ∨ s.race.saved = some (.chequered true)) →
    ∃ t, exec (.caution p tag []) s = .next t ∧ t.answered p 0x07 tag .ok [] ∧ s.onlyPorts t) ∧
  (∀ (p : PortId) (s : State) (tag : Byte), s.takes p 0x08 tag [] → s.race.state = .suspended →
    (s.race.saved = some .green ∨ s.race.saved = some (.chequered false)) →
    ∃ t, exec (.lift p tag []) s = .next t ∧ t.answered p 0x08 tag .ok [] ∧ s.onlyPorts t) ∧
  (∀ (p : PortId) (s : State) (tag : Byte), s.takes p 0x07 tag [] →
    (s.race.state = .idle ∨ s.race.state = .practice ∨ s.race.state = .grid ∨ s.race.state = .countdown
      ∨ s.race.state = .closed) →
    ∃ t, exec (.caution p tag []) s = .next t ∧ t.answered p 0x07 tag .refusedState [] ∧ s.onlyPorts t) ∧
  (∀ (p : PortId) (s : State) (tag : Byte), s.takes p 0x08 tag [] →
    (s.race.state = .idle ∨ s.race.state = .practice ∨ s.race.state = .grid ∨ s.race.state = .countdown
      ∨ s.race.state = .green ∨ s.race.state = .closed) →
    ∃ t, exec (.lift p tag []) s = .next t ∧ t.answered p 0x08 tag .refusedState [] ∧ s.onlyPorts t)

/-- SUSPEND from either port and RESUME from port A: the saved return state, the neutral clock, the shadow map and the
unattributed list, and the race state returned to; a resume into a chequered race with a car still running stays
chequered (R4, R56, R85, R125, R127). -/
def Obligations.SuspendAndResume : Prop :=
  (∀ (p : PortId) (s : State) (tag : Byte) (v : SavedState), s.takes p 0x09 tag [] →
    (s.race.state = .green ∧ v = .green ∨ s.race.state = .caution ∧ v = .caution
      ∨ s.race.state = .chequered ∧ v = .chequered s.race.held) →
    ∃ t, exec (.suspend p tag []) s = .next t ∧ t.answered p 0x09 tag .ok [] ∧ s.suspendedWith t .request v ∧
      s.powerKept t) ∧
  (∀ (p : PortId) (s : State) (tag : Byte), s.takes p 0x09 tag [] → s.race.state = .suspended →
    ∃ t, exec (.suspend p tag []) s = .next t ∧ t.answered p 0x09 tag .already [] ∧ s.onlyPorts t) ∧
  (∀ (s : State) (tag : Byte) (v : SavedState) (live : RaceState) (held : Bool), s.takes .A 0x0A tag [] →
    s.race.state = .suspended → s.power.linkUp = true → s.power.status = some .normal → s.race.saved = some v →
    (v = .green ∧ live = .green ∧ held = false ∨ v = .caution ∧ live = .caution ∧ held = false
      ∨ v = .chequered held ∧ live = .chequered) →
    (∃ x ∈ s.cars, x.entered = true ∧ x.race.state ≠ .finished ∧ x.race.state ≠ .retired) →
    ∃ t, exec (.resume .A tag []) s = .next t ∧ t.answered .A 0x0A tag .ok [] ∧
      t.race = { s.race with state := live, held := held, saved := none, reason := .request, lamps := t.race.lamps } ∧
      t.time = { s.time with nClosed := s.time.nClosed + (s.time.session - s.time.s0) } ∧
      t.course = { s.course with sectors := s.course.shadow.getD s.course.sectors, shadow := none } ∧
      t.former = { s.former with
        list := []
        tallies := { s.former.tallies with
          resumed := s.former.tallies.resumed + BitVec.ofNat 32 s.former.list.length } } ∧
      t.journal.next = s.journal.next + 1 + BitVec.ofNat 16 s.former.list.length ∧ t.shown ∧ s.powerKept t ∧
      t = { s with
        time := t.time, race := t.race, course := t.course, former := t.former, power := t.power
        journal := t.journal, portA := t.portA, portB := t.portB })

/-- The race limit throws the chequered flag while a car still runs; the finish window, the elapsed limit and CLOSE
end the race with reasons WINDOW, LIMIT and REQUEST (R128 to R132, R157). -/
def Obligations.RaceEnds : Prop :=
  (∀ (s : State) (d : Nat), (s.race.state = .green ∨ s.race.state = .caution) → s.race.raceLimit = some d →
    d ≤ s.raceClock → (∃ x ∈ s.cars, x.entered = true ∧ x.race.state ≠ .finished ∧ x.race.state ≠ .retired) →
    ∃ t, exec .raceLimitDeadline s = .next t ∧
      t.race = { s.race with
        state := .chequered, held := decide (s.race.state = .caution), raceLimit := none
        finishWindow := some (s.raceClock + s.course.settings.finishWindow * 100000)
        reason := .limit, lamps := t.race.lamps } ∧ t.shown ∧ s.powerKept t ∧
      t.journal = s.journal.added s.raceMs
        (.state s.race.state .chequered (decide (s.race.state = .caution)) none .limit) ∧
      t = { s with race := t.race, power := t.power, journal := t.journal, portA := t.portA, portB := t.portB }) ∧
  (∀ (s : State) (d : Nat), s.race.state = .chequered → s.race.finishWindow = some d → d ≤ s.raceClock →
    ∃ t, exec .finishWindow s = .next t ∧ s.closedWith t .window) ∧
  (∀ s : State, s.race.state.racing = true → 4200000000 ≤ (s.time.session - s.time.green).toNat →
    ∃ t, exec .elapsedLimit s = .next t ∧ s.closedWith t .limit) ∧
  (∀ (s : State) (tag : Byte), s.takes .A 0x0B tag [] → s.race.state.racing = true →
    ∃ t, exec (.close .A tag []) s = .next t ∧ t.answered .A 0x0B tag .ok [] ∧ s.closedWith t .request)

/-- RELEASE from port A in CLOSED and SOFT_RESET in every state: what each clears, and what it keeps (R133, R134). -/
def Obligations.ReleaseAndSoftReset : Prop :=
  (∀ (s : State) (tag : Byte), s.takes .A 0x0C tag [] → s.race.state = .closed →
    ∃ t, exec (.release .A tag []) s = .next t ∧ t.answered .A 0x0C tag .ok [] ∧
      t.race = { s.race with state := .idle, watchStart := none, reason := .request, lamps := 0 } ∧
      t.time = { s.time with green := 0, nClosed := 0, s0 := 0, latched := none, gates := t.time.gates } ∧
      (∀ g : Gate, t.time.gates[g] = { s.time.gates[g] with stack := [], last := none }) ∧
      s.carsMapped t (fun x => { x with race := RacePart.initial }) ∧
      t.pen = { s.pen with list := [] } ∧ t.former = { s.former with list := [] } ∧
      t.stand = ⟨[], false, false, 0⟩ ∧ t.shown ∧ s.powerKept t ∧
      t.journal = s.journal.added 0 (.state .closed .idle s.race.held none .request) ∧
      t = { s with
        time := t.time, race := t.race, roster := t.roster, pen := t.pen, former := t.former, stand := t.stand
        power := t.power, journal := t.journal, portA := t.portA, portB := t.portB }) ∧
  (∀ (s : State) (tag : Byte), s.takes .A 0x0D tag [] →
    ∃ t, exec (.softReset .A tag []) s = .next t ∧ t.answered .A 0x0D tag .ok [] ∧
      t.race = { s.race with
        state := .idle, held := false, saved := none, step := none, jumpWatch := false, watchStart := none
        raceLimit := none, finishWindow := none, practiceLimit := none, reason := .softReset, lamps := 0 } ∧
      t.time = { s.time with green := 0, nClosed := 0, s0 := 0, latched := none, gates := t.time.gates } ∧
      (∀ g : Gate, t.time.gates[g] = { s.time.gates[g] with stack := [], last := none }) ∧
      s.carsMapped t (fun x => { x with race := RacePart.initial, entered := false, gridSlot := none }) ∧
      t.course = { s.course with shadow := none } ∧
      t.pen = { s.pen with list := [] } ∧ t.former = { s.former with list := [] } ∧
      t.stand = ⟨[], false, false, 0⟩ ∧ t.shown ∧ s.powerKept t ∧
      t.journal = s.journal.added 0 (.state s.race.state .idle false none .softReset) ∧
      t = { s with
        time := t.time, race := t.race, roster := t.roster, course := t.course, pen := t.pen, former := t.former
        stand := t.stand, power := t.power, journal := t.journal, portA := t.portA, portB := t.portB })

/-- The silence deadline: the car is off the track with a DESLOT notice, and in GREEN with the de-slot action CAUTION
the race goes under caution with reason DESLOT (R107, R108). -/
def Obligations.DeslotDeadline : Prop :=
  ∀ (s : State) (c : Code) (x : Car) (d : Nat), s.car c = some x → x.race.silence = some d →
    s.race.state.clockRuns = true → d ≤ s.raceClock →
    ∃ t, exec (.silenceDeadline c) s = .next t ∧
      s.carSet t c { x with race := { x.race with state := .offTrack, silence := none } } ∧
      (if s.course.settings.deslot = .caution ∧ s.race.state = .green then
        t.race = { s.race with state := .caution, reason := .deslot, lamps := 0x40 } ∧
          t.time = { s.time with cautionEpoch := s.time.cautionEpoch + 1 } ∧ t.shown ∧
          t.journal = (s.journal.added s.raceMs (.deslot c x.number (x.race.last.map LastPassage.point)
            (x.race.last.bind LastPassage.lane))).added s.raceMs
              (.state .green .caution s.race.held none .deslot)
      else
        t.race = s.race ∧ t.time = s.time ∧
          t.journal = s.journal.added s.raceMs (.deslot c x.number (x.race.last.map LastPassage.point)
            (x.race.last.bind LastPassage.lane))) ∧
      t = { s with
        time := t.time, race := t.race, roster := t.roster, power := t.power, journal := t.journal
        portA := t.portA, portB := t.portB }

/-! ## Penalties -/

/-- CALL from either port in a race or CLOSED: a MANUAL record decided by that port joins the end of the list with the
first free identifier, a full list having lost its earliest final record, and its car is charged what the confirmation
costs it; a list of 32 open records is FULL (R137, R140 to R142, R147 to R149, R154). The layout of the record in the
reply is the model's choice (notes/assumptions/26.md). -/
def Obligations.CallRaised : Prop :=
  (∀ (p : PortId) (s : State) (tag am : Byte) (c : Code) (o : PenaltyOutcome) (x : Car) (payload : List Byte),
    payload = codeBytes c ++ [BitVec.ofNat 8 o.toCode, am] → s.takes p 0x24 tag payload → validCode c = true →
    (s.race.state.racing = true ∨ s.race.state = .closed) → s.car c = some x → x.entered = true →
    s.pen.list.length ≤ 32 → 1 ≤ s.pen.nextId → s.pen.nextId ≤ 255 →
    (s.pen.list.length < 32 ∨ ∃ r ∈ s.pen.list, r.state = .served ∨ r.state = .waived ∨ r.state = .converted) →
    ∃ (t : State) (r0 r : Penalty) (id : Nat), exec (.call p tag payload) s = .next t ∧
      takesId s.pen.nextId ((roomIn s.pen.list).map Penalty.id) id ∧
      r0 = ⟨id, .manual, c, none, s.raceMs, .review, o, clampAmount o am.toNat, none, 10, none, none, none, none,
        none⟩ ∧
      r = s.confirmedAs (match p with | .A => .portA | .B => .portB) r0 ∧ s.carSet t c (s.paid r0 x) ∧
      t.answered p 0x24 tag .ok (r.encodeAt x.number) ∧
      t.pen = { s.pen with
        list := roomIn s.pen.list ++ [r]
        nextId := if id = 255 then 1 else id + 1
        tallyRaised := s.pen.tallyRaised + 1
        tallyEvicted := s.pen.tallyEvicted + (if s.pen.list.length < 32 then 0 else 1) } ∧
      t.race = s.race ∧ t.time = s.time) ∧
  (∀ (p : PortId) (s : State) (tag am : Byte) (c : Code) (o : PenaltyOutcome) (x : Car) (payload : List Byte),
    payload = codeBytes c ++ [BitVec.ofNat 8 o.toCode, am] → s.takes p 0x24 tag payload → validCode c = true →
    (s.race.state.racing = true ∨ s.race.state = .closed) → s.car c = some x → x.entered = true →
    32 ≤ s.pen.list.length → (∀ r ∈ s.pen.list, r.state = .review ∨ r.state = .confirmed ∨ r.state = .serving) →
    ∃ t, exec (.call p tag payload) s = .next t ∧ t.answered p 0x24 tag .full [] ∧ s.onlyPorts t)

/-- CONFIRM from either port: a record in REVIEW is confirmed by that port with its own or the overriding outcome and
amount, and its car is charged what that costs it: the seconds of a TIME, the laps of a LAP_DEDUCT, the conversion
seconds of a serve outcome converted at once; a decided record is answered with its state and decider (R145, R147,
R148, R154). The layout of the record in the reply is the model's choice (notes/assumptions/26.md). -/
def Obligations.ConfirmDecides : Prop :=
  (∀ (p : PortId) (s : State) (tag b ob am : Byte) (r r' : Penalty), s.takes p 0x25 tag [b, ob, am] → b ≠ 0 →
    s.penalty b.toNat = some r → r.state = .review →
    (ob = 0xFF ∧ r' = r ∨ ∃ o : PenaltyOutcome, ob = BitVec.ofNat 8 o.toCode ∧
      r' = { r with outcome := o, amount := clampAmount o am.toNat }) →
    ∃ t, exec (.confirm p tag [b, ob, am]) s = .next t ∧
      t.penalty b.toNat = some (s.confirmedAs (match p with | .A => .portA | .B => .portB) r') ∧
      t.answered p 0x25 tag .ok
        ((s.confirmedAs (match p with | .A => .portA | .B => .portB) r').encodeAt (s.numberOf r.code)) ∧
      (∀ x, s.car r.code = some x → s.carSet t r.code (s.paid r' x)) ∧
      (∀ id : Nat, id ≠ b.toNat → t.penalty id = s.penalty id) ∧ t.race = s.race ∧ t.time = s.time) ∧
  (∀ (p : PortId) (s : State) (tag b : Byte) (r : Penalty), s.takes p 0x25 tag [b, 0xFF, 0] → b ≠ 0 →
    s.penalty b.toNat = some r → r.state ≠ .review →
    ∃ t, exec (.confirm p tag [b, 0xFF, 0]) s = .next t ∧ s.onlyPorts t ∧
      t.answered p 0x25 tag
        (if r.decided = some .portA ∨ r.decided = some .portB then .alreadyDecided else .tooLate)
        (u8 r.state.toCode ++ u8 (deciderCode r.decided)))

/-- WAIVE: a record in REVIEW is waived by either port; a later one only by port A, which takes back what it did to
its car; a served serve outcome is TOO_LATE and a waived record ALREADY waived (R146, R158, R191). That a record
waived from CONFIRMED or SERVING keeps its laps-as-head count is notes/assumptions/17.md. -/
def Obligations.WaiveReverses : Prop :=
  (∀ (p : PortId) (s : State) (tag b : Byte) (r : Penalty), s.takes p 0x26 tag [b] → b ≠ 0 →
    s.penalty b.toNat = some r → r.state = .review →
    ∃ t, exec (.waive p tag [b]) s = .next t ∧ t.answered p 0x26 tag .ok [] ∧
      t.penalty b.toNat = some { r with
        state := .waived, decided := some (match p with | .A => .portA | .B => .portB), review := none
        stopGoEnd := none, lockoutLeft := none } ∧
      t.roster = s.roster ∧ t.race = s.race ∧ t.stand = s.stand) ∧
  (∀ (s : State) (tag b : Byte) (r : Penalty), s.takes .B 0x26 tag [b] → b ≠ 0 →
    s.penalty b.toNat = some r → r.state ≠ .review →
    ∃ t, exec (.waive .B tag [b]) s = .next t ∧ t.answered .B 0x26 tag .refusedPort [] ∧ s.onlyPorts t) ∧
  (∀ (s : State) (tag b : Byte) (r : Penalty) (x : Car), s.takes .A 0x26 tag [b] → b ≠ 0 →
    s.penalty b.toNat = some r → s.car r.code = some x →
    (r.state = .confirmed ∨ r.state = .serving ∨ r.state = .converted
      ∨ r.state = .served ∧ r.outcome.isServe = false) →
    ∃ t y, exec (.waive .A tag [b]) s = .next t ∧ t.answered .A 0x26 tag .ok [] ∧
      t.penalty b.toNat = some { r with
        state := .waived, decided := some .portA, review := none, stopGoEnd := none, lockoutLeft := none } ∧
      t.car r.code = some y ∧
      y.race.timePenalty = x.race.timePenalty - (if r.state = .converted then r.conversion
        else if r.state = .served ∧ r.outcome = .time then r.amount else 0) ∧
      y.race.deductions = x.race.deductions - (if r.state = .served ∧ r.outcome = .lapDeduct then r.amount else 0) ∧
      (∀ c : Code, c ≠ r.code → t.car c = s.car c) ∧ t.race = s.race ∧ t.time = s.time) ∧
  (∀ (s : State) (tag b : Byte) (r : Penalty), s.takes .A 0x26 tag [b] → b ≠ 0 →
    s.penalty b.toNat = some r → (r.state = .waived ∨ r.state = .served ∧ r.outcome.isServe = true) →
    ∃ t, exec (.waive .A tag [b]) s = .next t ∧ s.onlyPorts t ∧
      t.answered .A 0x26 tag (if r.state = .waived then .already else .tooLate) (u8 r.state.toCode))

/-- The deadlines of a record: at the end of its review it is confirmed, and its car charged, or, in the mode
AUTO_WAIVE, waived, by AUTO; at the end of a stop-go it is SERVED and a running car's silence deadline starts again
(R144, R147, R148, R152, R154). That a record in REVIEW with the mode IMMEDIATE or none is confirmed is the model's
choice (notes/assumptions/23.md), and that the SERVED record keeps its laps-as-head count is notes/assumptions/17.md.
-/
def Obligations.PenaltyDeadlines : Prop :=
  (∀ (s : State) (id d : Nat) (r : Penalty), s.penalty id = some r → r.state = .review → r.review = some d →
    s.race.state.clockRuns = true → d ≤ s.raceClock →
    ∃ t, exec (.reviewDeadlineExpiry id) s = .next t ∧
      t.penalty id = some (if r.mode = some .autoWaive then
          { r with
            state := .waived, decided := some .auto, review := none, stopGoEnd := none, lockoutLeft := none }
        else s.confirmedAs .auto r) ∧
      (∀ x, s.car r.code = some x → s.carSet t r.code (if r.mode = some .autoWaive then x else s.paid r x)) ∧
      (∀ j : Nat, j ≠ id → t.penalty j = s.penalty j) ∧ t.race = s.race ∧ t.time = s.time) ∧
  (∀ (s : State) (id d : Nat) (r : Penalty) (x : Car), s.penalty id = some r → r.state = .serving →
    r.stopGoEnd = some d → s.race.state.clockRuns = true → d ≤ s.raceClock → s.car r.code = some x →
    ∃ t, exec (.stopGoEnd id) s = .next t ∧
      t.penalty id = some { r with state := .served, stopGoEnd := none, lockoutLeft := none } ∧
      (∀ j : Nat, j ≠ id → t.penalty j = s.penalty j) ∧
      s.carSet t r.code { x with race := { x.race with
        silence := if x.race.state = .running then
          some (s.raceClock + s.course.settings.silenceLimit * 10000) else x.race.silence } } ∧
      t.race = s.race ∧ t.time = s.time)

/-- An automatic call. A list of 32 open records drops it with a LIST_FULL notice and a tally (R141). Otherwise the
record takes the first free identifier and what its schedule row gives; it is confirmed at once, waived at once, or
left in REVIEW until its deadline, it stands at the end of the list, and a full list has lost its earliest final
record; a confirmation adds to its car what it pays (R140 to R143, R147, R148, R154). With no standings formed its
RAISED notice is the one notice. -/
def Obligations.AutomaticCalls : Prop :=
  ([0, 1, 2, 3, 4, 5].map kindOfRow = [.jump, .cut, .lane, .cautionLane, .pitSpeed, .rejoin]) ∧
  (∀ (s t : State) (k : Fin 6) (c : Code) (q : Nat) (l : Option Lane), t = s.raiseCall k c q l →
    32 ≤ s.pen.list.length →
    (∀ r ∈ s.pen.list, r.state = .review ∨ r.state = .confirmed ∨ r.state = .serving) →
    t.pen = { s.pen with tallyDropped := s.pen.tallyDropped + 1 } ∧
      t.journal = s.journal.added s.raceMs
        (.listFull (kindOfRow k) c (s.numberOf c) q l) ∧
      t = { s with pen := t.pen, journal := t.journal, portA := t.portA, portB := t.portB }) ∧
  (∀ (s : State) (k : Fin 6) (c : Code) (q : Nat) (l : Option Lane) (x : Car) (row : ScheduleRow),
    s.car c = some x → s.pen.list.length ≤ 32 → 1 ≤ s.pen.nextId → s.pen.nextId ≤ 255 →
    (s.pen.list.length < 32 ∨ ∃ r ∈ s.pen.list, r.state = .served ∨ r.state = .waived ∨ r.state = .converted) →
    row = s.pen.schedule[k] →
    ∃ (t : State) (r0 r : Penalty) (id : Nat), t = s.raiseCall k c q l ∧
      takesId s.pen.nextId ((roomIn s.pen.list).map Penalty.id) id ∧
      r0 = ⟨id, kindOfRow k, c, some (q, l), s.raceMs, .review, row.outcome, row.amount, some row.mode,
        row.conversion, none, none, none, none, none⟩ ∧
      (if row.mode = .immediate ∨ row.mode = .autoConfirm ∧ row.window = 0 then
        r = s.confirmedAs .auto r0 ∧ s.carSet t c (s.paid r0 x)
      else if row.window = 0 then
        r = { r0 with state := .waived, decided := some .auto } ∧ s.carSet t c x
      else r = { r0 with review := some (s.raceClock + row.window * 10000) } ∧ s.carSet t c x) ∧
      t.pen = { s.pen with
        list := roomIn s.pen.list ++ [r]
        nextId := if id = 255 then 1 else id + 1
        tallyRaised := s.pen.tallyRaised + 1
        tallyEvicted := s.pen.tallyEvicted + (if s.pen.list.length < 32 then 0 else 1) } ∧
      (s.stand.formed = false → t.journal = s.journal.added s.raceMs (.penalty .raised x.number r)) ∧
      t = { s with
        roster.slots := t.roster.slots, pen := t.pen, power := t.power, stand := t.stand, journal := t.journal
        portA := t.portA, portB := t.portB })

/-- The serve queue and its triggers. The head is the SERVING record or else the first CONFIRMED one (R140). A STOP_GO
at the head begins at a serving-point passage and at nothing else (R103, R151). At a counted lap, in this order, a
drive-through or the last lap of a lockout is SERVED and a lockout with laps left counts down; a CONFIRMED
drive-through or lockout at the head begins; and a head still CONFIRMED counts the lap and is converted at 3, its
seconds added to its car (R153, R154). The laps-as-head count stays in a record that is SERVED
(notes/assumptions/17.md). -/
def Obligations.ServingPenalties : Prop :=
  (∀ (s : State) (c : Code) (r : Penalty), s.queueHead c = some r →
    r ∈ s.pen.list ∧ r.code = c ∧ r.outcome.isServe = true ∧
      (r.state = .serving ∨ r.state = .confirmed ∧
        (∀ q ∈ s.pen.list, q.code = c → q.outcome.isServe = true → q.state ≠ .serving) ∧
        (s.pen.list.find? (fun q => q.code == c && q.outcome.isServe && q.state == .confirmed)) = some r)) ∧
  (∀ (s t : State) (x : Passage) (y : Car) (q : CoursePoint) (r r1 : Penalty), t = s.stageServing x →
    s.car x.code = some y → s.course.points[x.point]? = some q → q.serving = true →
    s.race.state.racing = true → (q.pit = true → x.lane = some 6) → s.queueHead x.code = some r →
    r.state = .confirmed → r.outcome = .stopGo →
    r1 = { r with state := .serving, stopGoEnd := some (s.raceClock + r.amount * 100000) } →
    s.carSet t x.code { y with race := { y.race with silence := none, serving := true } } ∧
      t.penalty r.id = some r1 ∧ (∀ id : Nat, id ≠ r.id → t.penalty id = s.penalty id) ∧
      t.journal = s.journal.added s.raceMs (.penalty .serveBegin y.number r1) ∧
      (y.entered = true → ∀ d : DriveIx, d.val + 1 = y.drive → t.power.rows[d] = t.rowOf d) ∧
      t = { s with
        roster.slots := t.roster.slots, pen.list := t.pen.list, power := t.power, journal := t.journal
        portA := t.portA, portB := t.portB }) ∧
  (∀ (s : State) (x : Passage),
    (s.race.state.racing = false
      ∨ (∀ q, s.course.points[x.point]? = some q → q.serving = false ∨ q.pit = true ∧ x.lane ≠ some 6)
      ∨ ∀ r, s.queueHead x.code = some r → r.state ≠ .confirmed ∨ r.outcome ≠ .stopGo) →
    s.stageServing x = s) ∧
  (∀ (s : State) (c : Code), s.serveTriggers c = ((s.serveProgress c).serveBegin c).serveCount c) ∧
  (∀ (s t : State) (c : Code) (r r1 : Penalty), t = s.serveProgress c → s.servingRecord c = some r →
    (r.outcome = .driveThrough ∨ r.outcome = .lockout ∧ r.lockoutLeft.getD 0 ≤ 1) →
    r1 = { r with state := .served, stopGoEnd := none, lockoutLeft := none } →
    t.penalty r.id = some r1 ∧ (∀ id : Nat, id ≠ r.id → t.penalty id = s.penalty id) ∧
      t.journal = s.journal.added s.raceMs (.penalty .serveEnd (s.numberOf c) r1) ∧
      t = { s with
        pen.list := t.pen.list, power := t.power, journal := t.journal, portA := t.portA, portB := t.portB }) ∧
  (∀ (s t : State) (c : Code) (r : Penalty) (n : Nat), t = s.serveProgress c → s.servingRecord c = some r →
    r.outcome = .lockout → r.lockoutLeft = some (n + 2) →
    t.penalty r.id = some { r with lockoutLeft := some (n + 1) } ∧
      (∀ id : Nat, id ≠ r.id → t.penalty id = s.penalty id) ∧ t = { s with pen.list := t.pen.list }) ∧
  (∀ (s : State) (c : Code), (∀ r, s.servingRecord c = some r → r.outcome ≠ .driveThrough ∧ r.outcome ≠ .lockout) →
    s.serveProgress c = s) ∧
  (∀ (s t : State) (c : Code) (r r1 : Penalty), t = s.serveBegin c → s.queueHead c = some r →
    r.state = .confirmed →
    (r.outcome = .driveThrough ∧ r1 = { r with state := .serving }
      ∨ r.outcome = .lockout ∧ r1 = { r with state := .serving, lockoutLeft := some r.amount }) →
    t.penalty r.id = some r1 ∧ (∀ id : Nat, id ≠ r.id → t.penalty id = s.penalty id) ∧
      t.journal = s.journal.added s.raceMs (.penalty .serveBegin (s.numberOf c) r1) ∧
      t = { s with
        pen.list := t.pen.list, power := t.power, journal := t.journal, portA := t.portA, portB := t.portB }) ∧
  (∀ (s : State) (c : Code), (∀ r, s.queueHead c = some r → r.state ≠ .confirmed ∨ r.outcome = .stopGo) →
    s.serveBegin c = s) ∧
  (∀ (s t : State) (c : Code) (r : Penalty), t = s.serveCount c → s.queueHead c = some r → r.state = .confirmed →
    r.lapsAsHead.getD 0 < 2 →
    t.penalty r.id = some { r with lapsAsHead := some (r.lapsAsHead.getD 0 + 1) } ∧
      (∀ id : Nat, id ≠ r.id → t.penalty id = s.penalty id) ∧ t = { s with pen.list := t.pen.list }) ∧
  (∀ (s t : State) (c : Code) (y : Car) (r r1 : Penalty), t = s.serveCount c → s.car c = some y →
    s.queueHead c = some r → r.state = .confirmed → 2 ≤ r.lapsAsHead.getD 0 →
    r1 = { r with
      state := .converted, review := none, lapsAsHead := none, stopGoEnd := none, lockoutLeft := none } →
    t.penalty r.id = some r1 ∧ (∀ id : Nat, id ≠ r.id → t.penalty id = s.penalty id) ∧
      s.carSet t c { y with race := { y.race with
        timePenalty := min 65535 (y.race.timePenalty + r.conversion) } } ∧
      (s.stand.formed = false →
        t.journal = s.journal.added s.raceMs (.penalty .deadline y.number r1))) ∧
  (∀ (s : State) (c : Code), (∀ r, s.queueHead c = some r → r.state ≠ .confirmed) → s.serveCount c = s)

/-! ## Permits and the power link -/

/-- The row of a drive slot. An entered car's cap is the least of the state cap, the car cap, the serving cap and the
pit cap (R165); it may change lanes only in PRACTICE, GREEN or CHEQUERED without caution held, RUNNING, and serving
neither LOCKOUT nor STOP_GO, and its flag is FINISHED, SERVING, CALLED or none, the first that applies (R166). A slot
no entered car holds has the practice cap in PRACTICE and 0 otherwise (R164). New rows raise the epoch by 1 exactly
when a field changes (R167). -/
def Obligations.PermitRows : Prop :=
  (∀ (s : State) (d : DriveIx) (x : Car) (st car serving pit : Nat), s.driver d = some x →
    st = (match s.race.state with
      | .practice => s.course.settings.practiceCap
      | .green => 63
      | .caution => s.course.settings.cautionCap
      | .chequered => if s.race.held then s.course.settings.cautionCap else 63
      | .idle | .grid | .countdown | .suspended | .closed => 0) →
    car = (match x.race.state with
      | .idle | .running | .offTrack => 63
      | .finished => s.course.settings.coolCap
      | .grid | .retired => 0) →
    serving = (match (s.servingRecord x.code).map Penalty.outcome with
      | some .stopGo => 0
      | some .driveThrough => s.course.settings.driveCap
      | _ => 63) →
    pit = (if (s.race.state = .green ∨ s.race.state = .caution ∨ s.race.state = .chequered)
      ∧ x.race.last.bind LastPassage.lane = some 6 then s.course.settings.pitCap else 63) →
    s.stateCap = st ∧ (s.rowOf d).cap = min (min st car) (min serving pit) ∧
      ((s.rowOf d).laneChange = true ↔ x.race.state = .running ∧
        (s.race.state = .practice ∨ s.race.state = .green ∨ s.race.state = .chequered ∧ s.race.held = false) ∧
        ∀ r, s.servingRecord x.code = some r → r.outcome ≠ .lockout ∧ r.outcome ≠ .stopGo) ∧
      (s.rowOf d).flag = (if x.race.state = .finished then .finished
        else if (s.servingRecord x.code).isSome then .serving
        else if ∃ r ∈ s.pen.list, r.code = x.code ∧ (r.state = .review ∨ r.state = .confirmed) then .called
        else .none)) ∧
  (∀ (s : State) (d : DriveIx), (∀ x ∈ s.cars, x.entered = true → x.drive ≠ d.val + 1) →
    s.rowOf d = ⟨if s.race.state = .practice then s.course.settings.practiceCap else 0, false, .none⟩) ∧
  (∀ (s : State) (rows : Vector PermitRow 32), (s.putRows rows).power.rows = rows ∧
    (s.putRows rows).power.epoch = if rows = s.power.rows then s.power.epoch else s.power.epoch + 1)

/-- A valid poll and the end of a PERMITS transmission: the tally, the silence deadline, the link UP, the status kept;
a status leaving NORMAL suspends the race or aborts the countdown; the reply is sent at once, waits, or displaces the
one that waits, and is built from the table when it is sent (R168 to R170, R172). -/
def Obligations.PowerPoll : Prop :=
  (∀ (s : State) (tag b : Byte) (v : BaseStatus), s.power.rx.completes [b] (ltFrame 0x60 tag [b]) = true →
    baseStatusOf b = some v →
    ∃ t, exec (.pbPoll tag [b]) s = .next t ∧ t.power.tallyPolls = s.power.tallyPolls + 1 ∧
      t.power.silence = some ⟨s.time.session, 10000⟩ ∧ t.power.lastPoll = some s.time.session ∧
      t.power.linkUp = true ∧ t.power.status = some v ∧
      (match s.power.sending, s.power.slot with
        | none, _ => t.power.sending = some (permitsFrame tag t.power.epoch t.power.rows) ∧ t.power.slot = none
        | some f, w => t.power.sending = some f ∧ t.power.slot = some tag ∧
          t.power.tallyUnanswered = s.power.tallyUnanswered + (if w.isSome then 1 else 0)) ∧
      (if s.power.status = some .normal ∧ v ≠ .normal then
        (∀ w, (s.race.state = .green ∧ w = .green ∨ s.race.state = .caution ∧ w = .caution
            ∨ s.race.state = .chequered ∧ w = .chequered s.race.held) →
          s.suspendedWith t (if v = .overload then .power else .base) w) ∧
        (s.race.state = .countdown → s.abortedWith t (if v = .overload then .power else .base)) ∧
        (s.race.state = .idle ∨ s.race.state = .practice ∨ s.race.state = .grid ∨ s.race.state = .suspended
          ∨ s.race.state = .closed → t.race = s.race ∧ t.journal = s.journal)
      else t.race = s.race ∧ t.journal = s.journal)) ∧
  (∀ (s : State) (f : List Byte), s.power.sending = some f → s.power.slot = none →
    exec .permits s = .next { s with power.sending := none }) ∧
  (∀ (s : State) (f : List Byte) (tag : Byte), s.power.sending = some f → s.power.slot = some tag →
    exec .permits s = .next { s with
      power.sending := some (permitsFrame tag s.power.epoch s.power.rows), power.slot := none })

/-- The troubles of the power link: a silent link goes DOWN with the track-enable line low and reports LINK to the
race; a frame with LEN above 240, one with a wrong SUM, or one cut by a gap of more than 2 ms is dropped, counted and
hunted again from the byte after its SYNC; a valid frame that is no poll, or a poll whose payload is no status, is
discarded whole and counted (R168, R171, R173). -/
def Obligations.LinkTrouble : Prop :=
  (∀ (s : State) (w : Timer), s.power.silence = some w → s.reached w →
    ∃ t, exec .linkSilenceDeadline s = .next t ∧ t.power.linkUp = false ∧ t.power.silence = none ∧
      t.power.tallyLinkLosses = s.power.tallyLinkLosses + 1 ∧ t.power.trackEnable = false ∧
      (∀ v, (s.race.state = .green ∧ v = .green ∨ s.race.state = .caution ∧ v = .caution
          ∨ s.race.state = .chequered ∧ v = .chequered s.race.held) → s.suspendedWith t .link v) ∧
      (s.race.state = .countdown → s.abortedWith t .link) ∧
      (s.race.state = .idle ∨ s.race.state = .practice ∨ s.race.state = .grid ∨ s.race.state = .suspended
        ∨ s.race.state = .closed →
        t = { s with power := t.power, portA := t.portA, portB := t.portB } ∧ t.power.rows = s.power.rows)) ∧
  (∀ (s : State) (len : Byte) (tail : List Byte), s.power.rx.bytes = [] → 240 < len.toNat →
    ∃ t, exec (.powerLinkFrameDrop (0xC3 :: len :: tail)) s = .next t ∧
      t.power.rx.bytes = (len :: tail).dropWhile (fun b => b != 0xC3) ∧
      t = { s with power.rx := t.power.rx, power.tallyBadFrames := s.power.tallyBadFrames + 1 }) ∧
  (∀ (s : State) (at_ : Time), s.power.rx.bytes ≠ [] → checkFrame s.power.rx.bytes = .partly →
    200 < (s.time.session - s.power.rx.lastAt).toNat →
    ∃ t, exec (.powerLinkGap [] at_) s = .next t ∧
      t.power.rx.bytes = (s.power.rx.bytes.drop 1).dropWhile (fun b => b != 0xC3) ∧
      t = { s with power.rx := t.power.rx, power.tallyBadFrames := s.power.tallyBadFrames + 1 }) ∧
  (∀ (s : State) (kind tag sum : Byte) (payload : List Byte), s.power.rx.bytes = [] → payload.length ≤ 240 →
    sum ≠ 0 →
    ∃ t, exec (.powerLinkFrameDrop ((ltFrame kind tag payload).dropLast
        ++ [(ltFrame kind tag payload).getLast (by simp [ltFrame]) + sum])) s = .next t ∧
      t.power.rx.bytes = (((ltFrame kind tag payload).dropLast
        ++ [(ltFrame kind tag payload).getLast (by simp [ltFrame]) + sum]).drop 1).dropWhile (fun b => b != 0xC3) ∧
      t = { s with power.rx := t.power.rx, power.tallyBadFrames := s.power.tallyBadFrames + 1 }) ∧
  (∀ (s : State) (kind tag : Byte) (payload : List Byte), s.power.rx.bytes = [] → payload.length ≤ 240 →
    (kind ≠ 0x60 ∨ payload.length ≠ 1 ∨ 2 < (payload.getD 0 0).toNat) →
    ∃ t, exec (.powerLinkFrameDrop (ltFrame kind tag payload)) s = .next t ∧ t.power.rx.bytes = [] ∧
      t = { s with power.rx := t.power.rx, power.tallyBadFrames := s.power.tallyBadFrames + 1 }) ∧
  (∀ (s : State) (tag : Byte) (payload : List Byte), s.power.rx.bytes = [] → payload.length ≤ 240 →
    (payload.length ≠ 1 ∨ 2 < (payload.getD 0 0).toNat) →
    ∃ t, exec (.pbPoll tag payload) s = .next t ∧ t.power.rx.bytes = [] ∧
      t = { s with power.rx := t.power.rx, power.tallyBadFrames := s.power.tallyBadFrames + 1 })

/-! ## Console ports -/

/-- Frames a port does not serve: dropped by LEN, SUM or gap, counted and hunted again from the byte after the SYNC;
taken while the port is engaged, counted and answered BUSY; of an unknown KIND, answered so (R185, R186, R188). That a
BUSY TAG leaves its list as its frame begins, here at once on an idle transmitter, is the model's choice
(notes/assumptions/35.md). -/
def Obligations.ConsoleDrops : Prop :=
  (∀ (p : PortId) (s : State) (len : Byte) (tail : List Byte), (s.port p).rx.bytes = [] → 240 < len.toNat →
    ∃ t, exec (.consoleFrameDrop p (0xC3 :: len :: tail)) s = .next t ∧
      (t.port p).rx.bytes = (len :: tail).dropWhile (fun b => b != 0xC3) ∧
      (t.port p).counters = { (s.port p).counters with droppedLen := (s.port p).counters.droppedLen + 1 } ∧
      t = s.modPort p (fun q => { q with rx := (t.port p).rx, counters := (t.port p).counters })) ∧
  (∀ (p : PortId) (s : State) (kind tag sum : Byte) (payload : List Byte), (s.port p).rx.bytes = [] →
    payload.length ≤ 240 → sum ≠ 0 →
    ∃ t, exec (.consoleFrameDrop p ((ltFrame kind tag payload).dropLast
        ++ [(ltFrame kind tag payload).getLast (by simp [ltFrame]) + sum])) s = .next t ∧
      (t.port p).rx.bytes = (((ltFrame kind tag payload).dropLast
        ++ [(ltFrame kind tag payload).getLast (by simp [ltFrame]) + sum]).drop 1).dropWhile (fun b => b != 0xC3) ∧
      (t.port p).counters = { (s.port p).counters with droppedSum := (s.port p).counters.droppedSum + 1 } ∧
      t = s.modPort p (fun q => { q with rx := (t.port p).rx, counters := (t.port p).counters })) ∧
  (∀ (p : PortId) (s : State) (at_ : Time), (s.port p).rx.bytes ≠ [] → checkFrame (s.port p).rx.bytes = .partly →
    200 < (s.time.session - (s.port p).rx.lastAt).toNat →
    ∃ t, exec (.consoleGap p [] at_) s = .next t ∧
      (t.port p).rx.bytes = ((s.port p).rx.bytes.drop 1).dropWhile (fun b => b != 0xC3) ∧
      (t.port p).counters = { (s.port p).counters with droppedGap := (s.port p).counters.droppedGap + 1 } ∧
      t = s.modPort p (fun q => { q with rx := (t.port p).rx, counters := (t.port p).counters })) ∧
  (∀ (p : PortId) (s : State) (kind tag : Byte) (payload : List Byte), (s.port p).engaged = true →
    (s.port p).rx.completes payload (ltFrame kind tag payload) = true → (s.port p).busyList.length < 50 →
    ∃ t, exec (.busy p kind tag payload) s = .next t ∧ s.onlyPorts t ∧
      (t.port p).counters.busy = (s.port p).counters.busy + 1 ∧
      (t.port p).counters.framesTaken = (s.port p).counters.framesTaken + 1 ∧ (t.port p).engaged = true ∧
      ((s.port p).tx ≠ none → (t.port p).busyList = (s.port p).busyList ++ [tag]) ∧
      ((s.port p).tx = none → (s.port p).busyList = [] →
        (t.port p).tx = some ⟨.busy, busyFrame tag⟩ ∧ (t.port p).busyList = [])) ∧
  (∀ (p : PortId) (s : State) (kind tag : Byte) (payload : List Byte), s.takes p kind tag payload →
    (kind = 0 ∨ 0x34 < kind.toNat) →
    ∃ t, exec (.unknownKind p kind tag payload) s = .next t ∧ t.answered p kind tag .unknownKind [] ∧
      s.onlyPorts t)

/-- The transmitter of a port: at the end of a frame it takes the next BUSY TAG, else the reply, else, with no hold
and a notice unsent, a GAP when notices were lost, else the notice at its cursor; the end of a reply ends the
engagement. HOLD clamps to 6,000 units of 10 ms and 0 ends a hold; the hold deadline ends it too (R187, R189, R195,
R196). That the BUSY TAG leaves its list as its frame begins is the model's choice (notes/assumptions/35.md). -/
def Obligations.ConsoleTransmit : Prop :=
  (∀ (p : PortId) (s : State) (f : TxFrame), (s.port p).tx = some f →
    ∃ t, exec (.transmitEnd p) s = .next t ∧ s.onlyPorts t ∧
      (t.port p).engaged = (if f.kind = .reply then false else (s.port p).engaged) ∧
      (∀ tag rest, (s.port p).busyList = tag :: rest →
        (t.port p).tx = some ⟨.busy, busyFrame tag⟩ ∧ (t.port p).busyList = rest ∧
          (t.port p).reply = (s.port p).reply ∧ (t.port p).cursor = (s.port p).cursor) ∧
      (∀ r, (s.port p).busyList = [] → (s.port p).reply = some r →
        (t.port p).tx = some ⟨.reply, r⟩ ∧ (t.port p).reply = none ∧ (t.port p).cursor = (s.port p).cursor) ∧
      ((s.port p).busyList = [] → (s.port p).reply = none → (s.port p).hold = none →
        (s.port p).cursor ≠ s.journal.next → 0 < (s.port p).lost →
        (t.port p).tx = some ⟨.gap, gapFrame (s.port p).lost (s.port p).cursor⟩ ∧ (t.port p).lost = 0 ∧
          (t.port p).cursor = (s.port p).cursor) ∧
      (∀ n, (s.port p).busyList = [] → (s.port p).reply = none → (s.port p).hold = none →
        (s.port p).cursor ≠ s.journal.next → (s.port p).lost = 0 →
        s.journal.ring.find? (fun m => m.seq == (s.port p).cursor) = some n →
        (t.port p).tx = some ⟨.notice, noticeFrame n⟩ ∧ (t.port p).cursor = (s.port p).cursor + 1) ∧
      ((s.port p).busyList = [] → (s.port p).reply = none →
        ((s.port p).hold ≠ none ∨ (s.port p).cursor = s.journal.next) → (t.port p).tx = none)) ∧
  (∀ (p : PortId) (s : State) (tag : Byte) (n m : Nat), s.takes p 0x27 tag (u16 n) → n < 65536 → m = min 6000 n →
    ∃ t, exec (.hold p tag (u16 n)) s = .next t ∧ t.answered p 0x27 tag .ok (u16 m) ∧ s.onlyPorts t ∧
      (t.port p).hold = if m = 0 then none else some ⟨s.time.session, m * 1000⟩) ∧
  (∀ (p : PortId) (s : State) (w : Timer), (s.port p).hold = some w → s.reached w →
    ∃ t, exec (.holdDeadline p) s = .next t ∧ (t.port p).hold = none ∧ s.onlyPorts t)

/-- Each query from either port is answered OK with the data its rule names and changes nothing but the ports (R36,
R57, R76, R77, R88, R136, R161, R162, R174, R183, R197). The layout of the data is the model's reading where the spec
leaves it open (notes/assumptions/13.md and notes/assumptions/26.md). -/
def Obligations.QueriesAnswered : Prop :=
  ∀ (p : PortId) (s : State) (tag : Byte),
    (∀ g : Gate, s.takes p 0x28 tag [gateByte g] → ∃ t, exec (.queryGate p tag [gateByte g]) s = .next t ∧
      t.answered p 0x28 tag .ok (s.gateData g) ∧ s.onlyPorts t) ∧
    (s.takes p 0x29 tag [] → ∃ t, exec (.queryUnattributed p tag []) s = .next t ∧
      t.answered p 0x29 tag .ok s.unattributedData ∧ s.onlyPorts t) ∧
    (∀ (c : Code) (i : Slot) (x : Car), s.takes p 0x2A tag (codeBytes c) → validCode c = true →
      s.roster.find c = some i → s.roster.slots[i] = some x →
      ∃ t, exec (.queryCar p tag (codeBytes c)) s = .next t ∧
        t.answered p 0x2A tag .ok (u8 i.val ++ s.staticBytes x ++ s.raceBytes x.race) ∧ s.onlyPorts t) ∧
    (∀ b : Byte, s.takes p 0x2B tag [b] → b.toNat ≤ 71 → ∃ t, exec (.queryRoster p tag [b]) s = .next t ∧
      t.answered p 0x2B tag .ok (s.rosterData b.toNat) ∧ s.onlyPorts t) ∧
    (s.takes p 0x2C tag [] → ∃ t, exec (.queryEntries p tag []) s = .next t ∧
      t.answered p 0x2C tag .ok (u8 s.entries.length ++ s.entries.flatMap entryBytes) ∧ s.onlyPorts t) ∧
    (s.takes p 0x2D tag [] → ∃ t, exec (.queryCourse p tag []) s = .next t ∧
      t.answered p 0x2D tag .ok s.courseData ∧ s.onlyPorts t) ∧
    (s.takes p 0x2E tag [] → ∃ t, exec (.queryRace p tag []) s = .next t ∧
      t.answered p 0x2E tag .ok s.raceData ∧ s.onlyPorts t) ∧
    (∀ (b : Byte) (r : Penalty), s.takes p 0x2F tag [b] → b ≠ 0 → s.penalty b.toNat = some r →
      ∃ t, exec (.queryPenalty p tag [b]) s = .next t ∧ t.answered p 0x2F tag .ok (s.penaltyBytes r) ∧
        s.onlyPorts t) ∧
    (∀ (c : Code) (b : Byte), s.takes p 0x30 tag (codeBytes c ++ [b]) → (c = 0 ∨ validCode c = true) →
      b.toNat ≤ 31 → ∃ t, exec (.queryPenalties p tag (codeBytes c ++ [b])) s = .next t ∧
        t.answered p 0x30 tag .ok (s.penaltiesData c b.toNat) ∧ s.onlyPorts t) ∧
    (s.takes p 0x31 tag [] → ∃ t, exec (.querySchedule p tag []) s = .next t ∧
      t.answered p 0x31 tag .ok ((List.finRange 6).flatMap (fun k => s.pen.schedule[k].encode k.val)) ∧
        s.onlyPorts t) ∧
    (s.takes p 0x32 tag [] → ∃ t, exec (.queryPermits p tag []) s = .next t ∧
      t.answered p 0x32 tag .ok s.permitsData ∧ s.onlyPorts t) ∧
    (∀ b : Byte, s.takes p 0x33 tag [b] → 1 ≤ b.toNat → b.toNat ≤ 32 →
      ∃ t, exec (.queryStandings p tag [b]) s = .next t ∧ t.answered p 0x33 tag .ok (s.standData b.toNat) ∧
        s.onlyPorts t) ∧
    (∀ q : PortId, s.takes p 0x34 tag [match q with | .A => 0 | .B => 1] →
      ∃ t, exec (.queryPort p tag [match q with | .A => 0 | .B => 1]) s = .next t ∧
        t.answered p 0x34 tag .ok
          (((s.frameTaken p (ltFrame 0x34 tag [match q with | .A => 0 | .B => 1])).engage p).portData q) ∧
        s.onlyPorts t)

/-- A request of race control sent on port B is answered REFUSED_PORT whatever its payload, and does nothing else
(R186, R191). -/
def Obligations.RefusedPort : Prop :=
  ∀ (i : Instr) (s : State) (kind tag : Byte) (payload : List Byte), i.request = some (kind, .B, tag, payload) →
    raceControlOnly i = true → s.takes .B kind tag payload →
    ∃ t, exec i s = .next t ∧ t.answered .B kind tag .refusedPort [] ∧ s.onlyPorts t

/-- A frame as R198 builds it is the frame its receiver takes, whatever bytes follow; with any other last byte it is
dropped for its SUM (R185, R198). -/
def Obligations.FrameRoundTrip : Prop :=
  ∀ (kind tag : Byte) (payload rest : List Byte), payload.length ≤ 240 →
    checkFrame (ltFrame kind tag payload ++ rest) = .valid kind tag payload rest ∧
    ∀ b : Byte, ltFrame kind tag payload ≠ (ltFrame kind tag payload).dropLast ++ [b] →
      checkFrame ((ltFrame kind tag payload).dropLast ++ b :: rest) = .badSum

/-! ## Standings and laps -/

/-- A re-sort of a formed list: every key fresh from its car record, more laps first, then less time, then the lower
grid slot; the amendment count grows, to at most 255, when a fixed classification's keys changed. A list not formed
stands (R175, R178, R182). -/
def Obligations.ResortOrder : Prop :=
  ∀ (s : State) (cause : LeaderCause),
    (s.stand.formed = true →
      (s.resort cause).stand.list.Perm (s.stand.list.map s.freshEntry) ∧
      (s.resort cause).stand.list.Pairwise (fun a b => b.laps < a.laps
        ∨ a.laps = b.laps ∧ (a.time < b.time ∨ a.time = b.time ∧ a.grid ≤ b.grid)) ∧
      (s.resort cause).stand.amendments =
        (if s.stand.fixed = true ∧ s.stand.list.map s.freshEntry ≠ s.stand.list
          then min 255 (s.stand.amendments + 1) else s.stand.amendments) ∧
      ((s.stand.list.head?.map StandEntry.code = (s.resort cause).stand.list.head?.map StandEntry.code) ↔
        (s.resort cause).journal = s.journal)) ∧
    (s.stand.formed = false → s.resort cause = s)

/-- A passage of a car. In GREEN, at point 0, later than the last one and within the miss tolerance, by a RUNNING car
whose lap is timed: the lap counts, its time is the session time between the two captures less the neutral time
between them, and a new timed lap opens at the capture (R93, R97, R98, R100, R104); that its missed points start again
at 0 is notes/assumptions/29.md. In every race state one that is not later than the last is late: only the last-seen
time and the tally change (R90), and a chequered race in which every entered car is done then closes (R130). -/
def Obligations.PassageAccounting : Prop :=
  (∀ (s : State) (y : Car) (x : Passage) (l : LastPassage) (o : LapStart), s.car x.code = some y →
    s.race.state = .green → y.race.state = .running → x.point = 0 → l.point < s.course.points.length →
    y.race.last = some l → s.sinceGreen l.capture.time < s.sinceGreen x.capture.time →
    s.sinceGreen x.capture.time ≤ s.elapsed → x.capture.tag.race = .green →
    (if l.point = 0 then s.course.points.length else s.course.points.length - l.point)
      ≤ s.course.settings.missTolerance + 1 →
    y.race.lapState = .openTimed → y.race.lapStart = some o →
    ∃ z, (s.processPassage x).car x.code = some z ∧ z.race.counted = min 65535 (y.race.counted + 1) ∧
      z.race.lastLapMs = some (min 16777215
        (((x.capture.time - o.time).toNat - (x.capture.neutral - o.neutral).toNat) / 100)) ∧
      z.race.lastCountedMs = s.captureMs x.capture ∧ z.race.lapState = .openTimed ∧
      z.race.lapStart = some ⟨x.capture.time, x.capture.neutral, x.capture.tag⟩ ∧ z.race.missed = 0 ∧
      z.race.last = some ⟨0, x.lane, x.capture, s.captureMs x.capture⟩ ∧ z.lastSeen = x.capture.time) ∧
  (∀ (s : State) (y : Car) (x : Passage) (l : LastPassage), s.car x.code = some y →
    (s.race.state = .chequered →
      ∃ e ∈ s.cars, e.entered = true ∧ e.race.state ≠ .finished ∧ e.race.state ≠ .retired) →
    y.race.state ≠ .finished → y.race.state ≠ .retired → x.point < s.course.points.length →
    y.race.last = some l → s.sinceGreen x.capture.time ≤ s.sinceGreen l.capture.time →
    s.carSet (s.processPassage x) x.code { y with lastSeen := x.capture.time } ∧
      (s.processPassage x).course.tallies = { s.course.tallies with late := s.course.tallies.late + 1 } ∧
      s.processPassage x = { s with
        roster := (s.processPassage x).roster
        course := { s.course with tallies := (s.processPassage x).course.tallies } }) ∧
  (∀ (s : State) (y : Car) (x : Passage) (l : LastPassage), s.car x.code = some y → s.race.state = .chequered →
    (∀ e ∈ s.cars, e.entered = true → e.race.state = .finished ∨ e.race.state = .retired) →
    y.race.state ≠ .finished → y.race.state ≠ .retired → x.point < s.course.points.length →
    y.race.last = some l → s.sinceGreen x.capture.time ≤ s.sinceGreen l.capture.time →
    ∃ u : State, s.carSet u x.code { y with lastSeen := x.capture.time } ∧
      u = { s with
        roster.slots := u.roster.slots, course.tallies.late := s.course.tallies.late + 1 } ∧
      u.closedWith (s.processPassage x) .finished)

/-- The laps of a RUNNING car at a passage in GREEN that reaches or misses point 0, from its last passage or, without
one, from the line that opened its lap: lap state, lap start and missed points; a lap counted within the tolerance,
timed from a timed start, or lost beyond it with its notice and tally (R93, R97, R98, R100, R101). That the missed
points start again at every passage that reaches or misses point 0 is notes/assumptions/29.md. A timed lap with none
of the flags CAUTION, NEUTRAL, OVER, PREDICTED and SERVING becomes the reference, and the best when it is the
shortest; any other leaves both (R99, R100). A car with no last passage and no lap only opens one at point 0, and a
passage that neither reaches nor misses point 0 leaves the lap as it is. -/
def Obligations.LapTable : Prop :=
  (∀ (s t : State) (y : Car) (x : Passage) (p len : Nat), t = s.processPassage x → s.car x.code = some y →
    s.race.state = .green → y.race.state = .running → x.point < s.course.points.length →
    p < s.course.points.length →
    ((∃ l, y.race.last = some l ∧ p = l.point ∧ s.sinceGreen l.capture.time < s.sinceGreen x.capture.time)
      ∨ y.race.last = none ∧ y.race.lapState ≠ .closed ∧ p = 0) →
    s.sinceGreen x.capture.time ≤ s.elapsed →
    (x.capture.tag.race = .green ∨ x.capture.tag.race = .caution ∨ x.capture.tag.race = .suspended
      ∨ x.capture.tag.race = .chequered) →
    (x.point = 0 ∨ x.point ≤ p) → len = s.lengthTo p x.point →
    ∃ z, t.car x.code = some z ∧
      z.race.lapState = (if x.point = 0 then .openTimed else .openUntimed) ∧
      z.race.lapStart = (if x.point = 0
        then some ⟨x.capture.time, x.capture.neutral, x.capture.tag⟩ else none) ∧
      z.race.missed = (if x.point = 0 then 0 else x.point - 1) ∧
      t.course.tallies.relocated = s.course.tallies.relocated
        + (if len ≤ s.course.settings.missTolerance + 1 then 0 else 1) ∧
      t.course.tallies.lost = s.course.tallies.lost
        + (if s.course.settings.missTolerance + 1 < len ∧ y.race.lapState ≠ .closed then 1 else 0) ∧
      (len ≤ s.course.settings.missTolerance + 1 → y.race.lapState ≠ .closed →
        z.race.counted = min 65535 (y.race.counted + 1) ∧ z.race.lastCountedMs = s.captureMs x.capture ∧
        (x.point ≠ 0 ∨ y.race.lapState = .openUntimed → z.race.lastLapMs = none ∧
          z.race.bestLapMs = y.race.bestLapMs ∧ z.race.refTicks = y.race.refTicks)) ∧
      (s.course.settings.missTolerance + 1 < len ∨ y.race.lapState = .closed →
        z.race.counted = y.race.counted ∧ z.race.lastLapMs = y.race.lastLapMs ∧
          z.race.bestLapMs = y.race.bestLapMs ∧ z.race.refTicks = y.race.refTicks) ∧
      (s.course.settings.missTolerance + 1 < len → y.race.lapState ≠ .closed → s.serveQueue x.code = [] →
        t.journal = s.journal.added s.raceMs
          (.lostLap x.code y.number x.point (len - 1) 0 (s.captureMs x.capture)))) ∧
  (∀ (s t : State) (y : Car) (x : Passage) (l : LastPassage) (o : LapStart) (ticks : Nat) (clean : Bool),
    t = s.processPassage x → s.car x.code = some y → s.race.state = .green → y.race.state = .running →
    x.point = 0 → l.point < s.course.points.length → y.race.last = some l →
    s.sinceGreen l.capture.time < s.sinceGreen x.capture.time → s.sinceGreen x.capture.time ≤ s.elapsed →
    (x.capture.tag.race = .green ∨ x.capture.tag.race = .caution ∨ x.capture.tag.race = .suspended
      ∨ x.capture.tag.race = .chequered) →
    s.lengthTo l.point 0 ≤ s.course.settings.missTolerance + 1 → y.race.lapState = .openTimed →
    y.race.lapStart = some o →
    ticks = (x.capture.time - o.time).toNat - (x.capture.neutral - o.neutral).toNat →
    (clean = true ↔ o.tag.cautionEpoch = x.capture.tag.cautionEpoch ∧ o.tag.race ≠ .caution ∧
      x.capture.tag.race ≠ .caution ∧ ¬ (o.tag.race = .chequered ∧ o.tag.held = true) ∧
      ¬ (x.capture.tag.race = .chequered ∧ x.capture.tag.held = true) ∧
      o.tag.suspensionEpoch = x.capture.tag.suspensionEpoch ∧ o.tag.race ≠ .suspended ∧
      x.capture.tag.race ≠ .suspended ∧ ticks / 100 ≤ 16777215 ∧ (x.origin = .coded ∨ x.origin = .shared) ∧
      y.race.serving = false) →
    ∃ z, t.car x.code = some z ∧ z.race.lastLapMs = some (min 16777215 (ticks / 100)) ∧
      z.race.refTicks = (if clean then some ticks else y.race.refTicks) ∧
      z.race.bestLapMs = (if clean = true ∧ y.race.bestLapMs.all (fun b => decide (ticks / 100 < b)) = true
        then some (ticks / 100) else y.race.bestLapMs)) ∧
  (∀ (s t : State) (y : Car) (x : Passage), t = s.processPassage x → s.car x.code = some y →
    s.race.state = .green → y.race.state = .running → x.point < s.course.points.length →
    y.race.last = none → y.race.lapState = .closed → s.sinceGreen x.capture.time ≤ s.elapsed →
    x.capture.tag.race = .green →
    ∃ z, t.car x.code = some z ∧ z.race.counted = y.race.counted ∧
      z.race.lapState = (if x.point = 0 then .openTimed else .closed) ∧
      z.race.lapStart = (if x.point = 0
        then some ⟨x.capture.time, x.capture.neutral, x.capture.tag⟩ else y.race.lapStart) ∧
      t.course.tallies = s.course.tallies) ∧
  (∀ (s t : State) (y : Car) (x : Passage) (l : LastPassage), t = s.processPassage x → s.car x.code = some y →
    s.race.state = .green → y.race.state = .running → y.race.last = some l → l.point < x.point →
    x.point < s.course.points.length → s.sinceGreen l.capture.time < s.sinceGreen x.capture.time →
    s.sinceGreen x.capture.time ≤ s.elapsed → x.capture.tag.race = .green →
    ∃ z, t.car x.code = some z ∧ z.race.counted = y.race.counted ∧ z.race.lapState = y.race.lapState ∧
      z.race.lapStart = y.race.lapStart ∧
      z.race.missed = min 11 (y.race.missed + (x.point - l.point - 1)) ∧
      t.course.tallies.lost = s.course.tallies.lost ∧
      t.course.tallies.relocated = s.course.tallies.relocated
        + (if x.point - l.point ≤ s.course.settings.missTolerance + 1 then 0 else 1))

/-- A passage in GREEN, CAUTION or CHEQUERED, captured in one of them, by a car RUNNING or OFF_TRACK, at a later point
of the same lap that is no serving point, with no missed point beyond the tolerance. An OFF_TRACK car rejoins with its
notice and its mark; the calls REJOIN, LANE, CAUTION_LANE, CUT and PIT_SPEED that the rules find are raised in that
order, and nothing else touches the penalty list; then the missed points and the last passage are kept and the silence
deadline starts again (R89, R92, R94 to R97, R104). -/
def Obligations.RejoinAndChecks : Prop :=
  ∀ (s t : State) (y : Car) (x : Passage) (l : LastPassage) (sp : List Sector) (ticks : Nat)
    (mark differ change off : Bool) (calls : List (Fin 6)),
    t = s.processPassage x → s.car x.code = some y →
    (s.race.state = .green ∨ s.race.state = .caution ∨ s.race.state = .chequered ∧
      ∃ e ∈ s.cars, e.entered = true ∧ e.race.state ≠ .finished ∧ e.race.state ≠ .retired) →
    (x.capture.tag.race = .green ∨ x.capture.tag.race = .caution ∨ x.capture.tag.race = .chequered) →
    (y.race.state = .running ∧ off = false ∨ y.race.state = .offTrack ∧ off = true) →
    y.race.last = some l → s.sinceGreen l.capture.time < s.sinceGreen x.capture.time →
    s.sinceGreen x.capture.time ≤ s.elapsed → l.point < x.point → x.point < s.course.points.length →
    x.point - l.point ≤ s.course.settings.missTolerance + 1 →
    (∀ q, s.course.points[x.point]? = some q → q.serving = false) →
    sp = s.spanned l.point (x.point - l.point) →
    ticks = (x.capture.time - l.capture.time).toNat - (x.capture.neutral - l.capture.neutral).toNat →
    (mark = true ↔ ¬ changePlausible sp l.lane x.lane) →
    (differ = true ↔ ∃ a b : Lane, l.lane = some a ∧ x.lane = some b ∧ a ≠ b) →
    (change = true ↔ ∃ a b : Lane, l.lane = some a ∧ x.lane = some b ∧ a ≠ b ∧ a.val < 6 ∧ b.val < 6) →
    calls =
      (if off = true ∧ differ = true ∧ (s.course.sectors.getD l.point Sector.initial).laneRule = .closed
        then [5] else [])
      ++ (if off = false ∧ change = true ∧ ∀ a ∈ sp, a.laneRule = .closed then [2] else [])
      ++ (if change = true ∧ (l.capture.tag.race = .caution
        ∨ l.capture.tag.race = .chequered ∧ l.capture.tag.held = true) then [3] else [])
      ++ (if off = false ∧ ticks < 100 * (sp.map Sector.minimum).sum then [1] else [])
      ++ (if off = false ∧ l.lane = some 6 ∧ x.lane = some 6 ∧ (∀ a ∈ sp, a.pitRule = .within)
        ∧ ticks < 100 * (sp.map Sector.pitMinimum).sum then [4] else []) →
    ∃ (u v : State) (z : Car), s.carSet u x.code { y with race := { y.race with state := .running } } ∧
      u.course = { s.course with tallies := { s.course.tallies with
        implausible := s.course.tallies.implausible + (if mark then 1 else 0) } } ∧
      u.journal = (if off then s.journal.added s.raceMs (.rejoin x.code y.number x.point x.lane x.origin
          (if mark then 64 else 0) x.capture.merged (s.captureMs x.capture))
        else s.journal) ∧
      (off = false → u.power = s.power) ∧
      u = { s with
        roster.slots := u.roster.slots, course := u.course, power := u.power, journal := u.journal
        portA := u.portA, portB := u.portB } ∧
      v = calls.foldl (fun a k => a.raiseCall k x.code x.point x.lane) u ∧
      t.pen = v.pen ∧ t.journal = v.journal ∧ t.race = s.race ∧ t.time = s.time ∧ t.course = u.course ∧
      t.car x.code = some z ∧ z.lastSeen = x.capture.time ∧ z.race.state = .running ∧
      z.race.last = some ⟨x.point, x.lane, x.capture, s.captureMs x.capture⟩ ∧
      z.race.missed = min 11 (y.race.missed + (x.point - l.point - 1)) ∧
      z.race.lapState = y.race.lapState ∧ z.race.lapStart = y.race.lapStart ∧
      z.race.counted = y.race.counted ∧
      (s.servingRecord x.code = none →
        z.race.silence = some (s.raceClock + s.course.settings.silenceLimit * 10000))

/-- A countdown passage of a car that is neither FINISHED nor RETIRED, at a point of the map and not late. In
COUNTDOWN: the last-seen time, the crossed-early flag, and at a jump the jump-called flag with a JUMP call, or with
JUMP_ABORT and the return to GRID (R91, R121). After the green moment a jump is a call whatever the jump action, and
the first passage at point 0 opens the lap as the green moment opens it (R91, R106); that the lap start takes the
epochs as they stand when the passage is processed is the model's choice (notes/assumptions/33.md). -/
def Obligations.JumpHandling : Prop :=
  (∀ (s t : State) (y z : Car) (x : Passage), t = s.processPassage x → s.car x.code = some y →
    s.race.state = .countdown → y.race.state ≠ .finished → y.race.state ≠ .retired →
    x.point < s.course.points.length →
    (∀ l, y.race.last = some l → s.sinceGreen l.capture.time < s.sinceGreen x.capture.time) →
    z = { y with
      lastSeen := x.capture.time
      race := { y.race with crossedEarly :=
        y.race.crossedEarly || decide (x.point = 0 ∧ s.course.settings.gridPosition = .behindLine) } } →
    (¬ s.jumps y.race x.capture → s.carSet t x.code z ∧ t = { s with roster.slots := t.roster.slots }) ∧
    (s.jumps y.race x.capture → s.course.settings.jump = .restart →
      ∃ u : State, s.carSet u x.code { z with race := { z.race with jumpCalled := true } } ∧
        u.journal = s.journal.added 0 (.jumpAbort x.code y.number x.point x.lane) ∧
        u = { s with
          roster.slots := u.roster.slots, journal := u.journal, portA := u.portA, portB := u.portB } ∧
        u.abortedWith t .jump) ∧
    (s.jumps y.race x.capture → s.course.settings.jump = .call →
      ∃ u : State, s.carSet u x.code { z with race := { z.race with jumpCalled := true } } ∧
        u = { s with roster.slots := u.roster.slots } ∧ t = u.raiseCall 0 x.code x.point x.lane)) ∧
  (∀ (s t : State) (y z : Car) (x : Passage), t = s.processPassage x → s.car x.code = some y →
    (s.race.state = .green ∨ s.race.state = .caution ∨ s.race.state = .suspended
      ∨ s.race.state = .chequered ∧
        ∃ e ∈ s.cars, e.entered = true ∧ e.race.state ≠ .finished ∧ e.race.state ≠ .retired) →
    x.capture.tag.race = .countdown → y.race.state ≠ .finished → y.race.state ≠ .retired →
    x.point < s.course.points.length →
    (∀ l, y.race.last = some l → s.sinceGreen l.capture.time < s.sinceGreen x.capture.time) →
    z = { y with
      lastSeen := x.capture.time
      race := { y.race with crossedEarly :=
        y.race.crossedEarly || decide (x.point = 0 ∧ s.course.settings.gridPosition = .behindLine) } } →
    ∃ u v : State, u = { s with roster.slots := u.roster.slots } ∧
      (¬ s.jumps y.race x.capture → s.carSet u x.code z ∧ v = u) ∧
      (s.jumps y.race x.capture → s.carSet u x.code { z with race := { z.race with jumpCalled := true } } ∧
        v = u.raiseCall 0 x.code x.point x.lane) ∧
      (if x.point = 0 ∧ s.course.settings.gridPosition = .behindLine ∧ y.race.lapState = .closed
          ∧ y.race.last = none then
        t = { v with roster.slots := t.roster.slots } ∧
          ∀ w, v.car x.code = some w → v.carSet t x.code { w with race := { w.race with
            lapState := .openTimed
            lapStart := some ⟨s.time.green, 0,
              ⟨.green, false, s.time.cautionEpoch, s.time.suspensionEpoch⟩⟩ } }
      else t = v))

/-- The finish checks of a RUNNING car: under the chequered flag it is FINISHED, and at the LAPS limit in GREEN or
CAUTION the race becomes CHEQUERED with reason LIMIT first; no silence deadline, the finish position is its place in
the standings, the FINISH notice follows, and its serve queue is settled, each CONFIRMED record converted and its
seconds added and a SERVING one SERVED (R102, R129, R154, R155, R180); the laps-as-head count stays in a record SERVED
so (notes/assumptions/17.md). In every other case nothing changes. A lap counted under the flag finishes the car, and
the race closes exactly when every other entered car is done (R101, R102, R130). -/
def Obligations.Finishing : Prop :=
  (∀ (s t : State) (c : Code) (x : Car), t = s.finishChecks c → s.car c = some x → x.race.state = .running →
    s.race.state = .chequered →
    ∃ z, t.car c = some z ∧ z.race.state = .finished ∧ z.race.silence = none ∧ z.race.counted = x.race.counted ∧
      (∀ n, s.position c = some n → z.race.finishPos = some n) ∧ t.race = s.race ∧ t.time = s.time ∧
      t.serveQueue c = [] ∧
      (x.race.timePenalty ≤ 65535 → z.race.timePenalty = min 65535 (x.race.timePenalty
        + (((s.serveQueue c).filter (fun r => r.state == .confirmed)).map Penalty.conversion).sum)) ∧
      ((s.pen.list.map Penalty.id).Nodup → ∀ r ∈ s.serveQueue c, t.penalty r.id = some
        (if r.state = .confirmed then
          { r with state := .converted, review := none, lapsAsHead := none, stopGoEnd := none, lockoutLeft := none }
        else { r with state := .served, stopGoEnd := none, lockoutLeft := none })) ∧
      (∀ n, s.position c = some n → s.serveQueue c = [] → t.journal = s.journal.added s.raceMs
        (.finish c x.number n x.race.counted x.race.effective x.race.adjustedTime x.race.lastCountedMs))) ∧
  (∀ (s t : State) (c : Code) (x : Car), t = s.finishChecks c → s.car c = some x → x.race.state = .running →
    x.entered = true → (s.race.state = .green ∨ s.race.state = .caution) → s.course.settings.mode = .laps →
    s.course.settings.limit ≤ x.race.effective →
    t.race = { s.race with
      state := .chequered, held := decide (s.race.state = .caution), raceLimit := none
      finishWindow := some (s.raceClock + s.course.settings.finishWindow * 100000)
      reason := .limit, lamps := t.race.lamps } ∧ t.time = s.time ∧ t.serveQueue c = [] ∧
      (∃ z, t.car c = some z ∧ z.race.state = .finished ∧ z.race.silence = none ∧
        ∀ n, s.position c = some n → z.race.finishPos = some n) ∧
      (∀ n, s.position c = some n → s.serveQueue c = [] → t.journal = (s.journal.added s.raceMs
        (.state s.race.state .chequered (decide (s.race.state = .caution)) none .limit)).added s.raceMs
          (.finish c x.number n x.race.counted x.race.effective x.race.adjustedTime x.race.lastCountedMs))) ∧
  (∀ (s : State) (c : Code) (x : Car), s.car c = some x →
    (x.race.state ≠ .running
      ∨ s.race.state ≠ .chequered ∧ ((s.race.state ≠ .green ∧ s.race.state ≠ .caution)
        ∨ s.course.settings.mode = .time ∨ x.race.effective < s.course.settings.limit)) →
    s.finishChecks c = s) ∧
  (∀ (s t : State) (y : Car) (x : Passage) (l : LastPassage) (before after : List Car), t = s.processPassage x →
    s.car x.code = some y → s.cars = before ++ y :: after → s.race.state = .chequered →
    (y.race.state = .running ∨ y.race.state = .offTrack) → x.point < s.course.points.length →
    l.point < s.course.points.length → y.race.last = some l →
    s.sinceGreen l.capture.time < s.sinceGreen x.capture.time → s.sinceGreen x.capture.time ≤ s.elapsed →
    (x.capture.tag.race = .green ∨ x.capture.tag.race = .caution ∨ x.capture.tag.race = .suspended
      ∨ x.capture.tag.race = .chequered) →
    (x.point = 0 ∨ x.point ≤ l.point) →
    s.lengthTo l.point x.point ≤ s.course.settings.missTolerance + 1 → y.race.lapState ≠ .closed →
    (∃ z, t.car x.code = some z ∧ z.race.state = .finished ∧ z.race.silence = none ∧
      z.race.counted = min 65535 (y.race.counted + 1)) ∧
    ((∀ e ∈ before ++ after, e.entered = true → e.race.state = .finished ∨ e.race.state = .retired) →
      t.race.state = .closed ∧ t.race.reason = .finished ∧ t.stand.fixed = true) ∧
    ((∃ e ∈ before ++ after, e.entered = true ∧ e.race.state ≠ .finished ∧ e.race.state ≠ .retired) →
      t.race = s.race ∧ t.time = s.time))

/-! ## Invariants -/

/-- Every step keeps the output lines right: track-enable by race state and link (R173), lamps by race state and step
(R135). -/
def Obligations.OutputsKept : Prop :=  ∀ s t : State, s.outputsRight → step s = .next t → t.outputsRight

/-- Every step keeps every row's cap within the cap of the race state (R165, R167). -/
def Obligations.CapsKept : Prop := ∀ s t : State, s.capsRight → step s = .next t → t.capsRight

/-- Every step keeps caution held to CHEQUERED and the saved return state to SUSPENDED (R110). -/
def Obligations.AttributesKept : Prop :=  ∀ s t : State, s.attributesRight → step s = .next t → t.attributesRight

/-- Every step keeps the journal within 256 notices with every unsent notice among them (R193, R194); the capture
stacks, the unattributed list, the penalty list and the BUSY lists within their sizes of 4, 8, 32 and 50 (R12, R51,
R140, R188); and the next identifiers of the unattributed list and of the penalty list within 1 to 255 (R51, R140). -/
def Obligations.ListsKept : Prop :=
  ∀ s t : State, s.noticesRight → s.sizesRight → s.idsRight → step s = .next t →
    t.noticesRight ∧ t.sizesRight ∧ t.idsRight

/-- The invariants hold of the machine right after reset. -/
def Obligations.InvariantsAtReset : Prop :=
  State.reset.outputsRight ∧ State.reset.capsRight ∧ State.reset.attributesRight ∧ State.reset.noticesRight ∧
    State.reset.sizesRight ∧ State.reset.idsRight
end

