-- ==== Sys2Proof/Laws/State.lean ====
section
/-! SUPPORT. What each plain update of State leaves in each block, one lemma per block, true by definition: a proof
cites these and unfolds no record update. -/

namespace Sys2Proof.Machine

open Sys2Proof

variable (s : State)

/-! ## modHead -/

@[simp] theorem State.modHead_time (g : Gate) (f : Head → Head) : (s.modHead g f).time = s.time := rfl
@[simp] theorem State.modHead_bus (g : Gate) (f : Head → Head) :
    (s.modHead g f).bus = { s.bus with heads := s.bus.heads.set g (f s.bus.heads[g]) } := rfl
@[simp] theorem State.modHead_former (g : Gate) (f : Head → Head) : (s.modHead g f).former = s.former := rfl
@[simp] theorem State.modHead_roster (g : Gate) (f : Head → Head) : (s.modHead g f).roster = s.roster := rfl
@[simp] theorem State.modHead_course (g : Gate) (f : Head → Head) : (s.modHead g f).course = s.course := rfl
@[simp] theorem State.modHead_race (g : Gate) (f : Head → Head) : (s.modHead g f).race = s.race := rfl
@[simp] theorem State.modHead_pen (g : Gate) (f : Head → Head) : (s.modHead g f).pen = s.pen := rfl
@[simp] theorem State.modHead_power (g : Gate) (f : Head → Head) : (s.modHead g f).power = s.power := rfl
@[simp] theorem State.modHead_stand (g : Gate) (f : Head → Head) : (s.modHead g f).stand = s.stand := rfl
@[simp] theorem State.modHead_portA (g : Gate) (f : Head → Head) : (s.modHead g f).portA = s.portA := rfl
@[simp] theorem State.modHead_portB (g : Gate) (f : Head → Head) : (s.modHead g f).portB = s.portB := rfl
@[simp] theorem State.modHead_journal (g : Gate) (f : Head → Head) : (s.modHead g f).journal = s.journal := rfl
@[simp] theorem State.modHead_pending (g : Gate) (f : Head → Head) : (s.modHead g f).pending = s.pending := rfl

/-! ## modGate -/

@[simp] theorem State.modGate_time (g : Gate) (f : GateCapture → GateCapture) :
    (s.modGate g f).time = { s.time with gates := s.time.gates.set g (f s.time.gates[g]) } := rfl
@[simp] theorem State.modGate_bus (g : Gate) (f : GateCapture → GateCapture) : (s.modGate g f).bus = s.bus := rfl
@[simp] theorem State.modGate_former (g : Gate) (f : GateCapture → GateCapture) :
    (s.modGate g f).former = s.former := rfl
@[simp] theorem State.modGate_roster (g : Gate) (f : GateCapture → GateCapture) :
    (s.modGate g f).roster = s.roster := rfl
@[simp] theorem State.modGate_course (g : Gate) (f : GateCapture → GateCapture) :
    (s.modGate g f).course = s.course := rfl
@[simp] theorem State.modGate_race (g : Gate) (f : GateCapture → GateCapture) : (s.modGate g f).race = s.race := rfl
@[simp] theorem State.modGate_pen (g : Gate) (f : GateCapture → GateCapture) : (s.modGate g f).pen = s.pen := rfl
@[simp] theorem State.modGate_power (g : Gate) (f : GateCapture → GateCapture) :
    (s.modGate g f).power = s.power := rfl
@[simp] theorem State.modGate_stand (g : Gate) (f : GateCapture → GateCapture) :
    (s.modGate g f).stand = s.stand := rfl
@[simp] theorem State.modGate_portA (g : Gate) (f : GateCapture → GateCapture) :
    (s.modGate g f).portA = s.portA := rfl
@[simp] theorem State.modGate_portB (g : Gate) (f : GateCapture → GateCapture) :
    (s.modGate g f).portB = s.portB := rfl
@[simp] theorem State.modGate_journal (g : Gate) (f : GateCapture → GateCapture) :
    (s.modGate g f).journal = s.journal := rfl
@[simp] theorem State.modGate_pending (g : Gate) (f : GateCapture → GateCapture) :
    (s.modGate g f).pending = s.pending := rfl

/-! ## appendAt -/

@[simp] theorem State.appendAt_time (ms : Nat) (n : Notice) : (s.appendAt ms n).time = s.time := rfl
@[simp] theorem State.appendAt_bus (ms : Nat) (n : Notice) : (s.appendAt ms n).bus = s.bus := rfl
@[simp] theorem State.appendAt_former (ms : Nat) (n : Notice) : (s.appendAt ms n).former = s.former := rfl
@[simp] theorem State.appendAt_roster (ms : Nat) (n : Notice) : (s.appendAt ms n).roster = s.roster := rfl
@[simp] theorem State.appendAt_course (ms : Nat) (n : Notice) : (s.appendAt ms n).course = s.course := rfl
@[simp] theorem State.appendAt_race (ms : Nat) (n : Notice) : (s.appendAt ms n).race = s.race := rfl
@[simp] theorem State.appendAt_pen (ms : Nat) (n : Notice) : (s.appendAt ms n).pen = s.pen := rfl
@[simp] theorem State.appendAt_power (ms : Nat) (n : Notice) : (s.appendAt ms n).power = s.power := rfl
@[simp] theorem State.appendAt_stand (ms : Nat) (n : Notice) : (s.appendAt ms n).stand = s.stand := rfl
@[simp] theorem State.appendAt_portA (ms : Nat) (n : Notice) :
    (s.appendAt ms n).portA = s.portA.overrun s.journal := rfl
@[simp] theorem State.appendAt_portB (ms : Nat) (n : Notice) :
    (s.appendAt ms n).portB = s.portB.overrun s.journal := rfl
@[simp] theorem State.appendAt_journal (ms : Nat) (n : Notice) :
    (s.appendAt ms n).journal = ⟨newest256 (s.journal.ring ++ [⟨s.journal.next, ms, n⟩]), s.journal.next + 1⟩ := rfl
@[simp] theorem State.appendAt_pending (ms : Nat) (n : Notice) : (s.appendAt ms n).pending = s.pending := rfl

/-! ## append -/

@[simp] theorem State.append_time (n : Notice) : (s.append n).time = s.time := rfl
@[simp] theorem State.append_bus (n : Notice) : (s.append n).bus = s.bus := rfl
@[simp] theorem State.append_former (n : Notice) : (s.append n).former = s.former := rfl
@[simp] theorem State.append_roster (n : Notice) : (s.append n).roster = s.roster := rfl
@[simp] theorem State.append_course (n : Notice) : (s.append n).course = s.course := rfl
@[simp] theorem State.append_race (n : Notice) : (s.append n).race = s.race := rfl
@[simp] theorem State.append_pen (n : Notice) : (s.append n).pen = s.pen := rfl
@[simp] theorem State.append_power (n : Notice) : (s.append n).power = s.power := rfl
@[simp] theorem State.append_stand (n : Notice) : (s.append n).stand = s.stand := rfl
@[simp] theorem State.append_portA (n : Notice) : (s.append n).portA = s.portA.overrun s.journal := rfl
@[simp] theorem State.append_portB (n : Notice) : (s.append n).portB = s.portB.overrun s.journal := rfl
@[simp] theorem State.append_journal (n : Notice) :
    (s.append n).journal = ⟨newest256 (s.journal.ring ++ [⟨s.journal.next, s.raceMs, n⟩]), s.journal.next + 1⟩ := rfl
@[simp] theorem State.append_pending (n : Notice) : (s.append n).pending = s.pending := rfl

/-! ## transmit -/

@[simp] theorem State.transmit_time : (s.transmit).time = s.time := rfl
@[simp] theorem State.transmit_bus : (s.transmit).bus = s.bus := rfl
@[simp] theorem State.transmit_former : (s.transmit).former = s.former := rfl
@[simp] theorem State.transmit_roster : (s.transmit).roster = s.roster := rfl
@[simp] theorem State.transmit_course : (s.transmit).course = s.course := rfl
@[simp] theorem State.transmit_race : (s.transmit).race = s.race := rfl
@[simp] theorem State.transmit_pen : (s.transmit).pen = s.pen := rfl
@[simp] theorem State.transmit_power : (s.transmit).power = s.power := rfl
@[simp] theorem State.transmit_stand : (s.transmit).stand = s.stand := rfl
@[simp] theorem State.transmit_portA : (s.transmit).portA = s.portA.choose s.journal := rfl
@[simp] theorem State.transmit_portB : (s.transmit).portB = s.portB.choose s.journal := rfl
@[simp] theorem State.transmit_journal : (s.transmit).journal = s.journal := rfl
@[simp] theorem State.transmit_pending : (s.transmit).pending = s.pending := rfl

/-! ## mapCars -/

@[simp] theorem State.mapCars_time (f : Car → Car) : (s.mapCars f).time = s.time := rfl
@[simp] theorem State.mapCars_bus (f : Car → Car) : (s.mapCars f).bus = s.bus := rfl
@[simp] theorem State.mapCars_former (f : Car → Car) : (s.mapCars f).former = s.former := rfl
@[simp] theorem State.mapCars_roster (f : Car → Car) :
    (s.mapCars f).roster = { s.roster with slots := mapVec (fun o => o.map f) s.roster.slots } := rfl
@[simp] theorem State.mapCars_course (f : Car → Car) : (s.mapCars f).course = s.course := rfl
@[simp] theorem State.mapCars_race (f : Car → Car) : (s.mapCars f).race = s.race := rfl
@[simp] theorem State.mapCars_pen (f : Car → Car) : (s.mapCars f).pen = s.pen := rfl
@[simp] theorem State.mapCars_power (f : Car → Car) : (s.mapCars f).power = s.power := rfl
@[simp] theorem State.mapCars_stand (f : Car → Car) : (s.mapCars f).stand = s.stand := rfl
@[simp] theorem State.mapCars_portA (f : Car → Car) : (s.mapCars f).portA = s.portA := rfl
@[simp] theorem State.mapCars_portB (f : Car → Car) : (s.mapCars f).portB = s.portB := rfl
@[simp] theorem State.mapCars_journal (f : Car → Car) : (s.mapCars f).journal = s.journal := rfl
@[simp] theorem State.mapCars_pending (f : Car → Car) : (s.mapCars f).pending = s.pending := rfl

/-! ## putCar -/

@[simp] theorem State.putCar_time (i : Slot) (x : Car) : (s.putCar i x).time = s.time := rfl
@[simp] theorem State.putCar_bus (i : Slot) (x : Car) : (s.putCar i x).bus = s.bus := rfl
@[simp] theorem State.putCar_former (i : Slot) (x : Car) : (s.putCar i x).former = s.former := rfl
@[simp] theorem State.putCar_roster (i : Slot) (x : Car) :
    (s.putCar i x).roster = { s.roster with slots := s.roster.slots.set i (some x) } := rfl
@[simp] theorem State.putCar_course (i : Slot) (x : Car) : (s.putCar i x).course = s.course := rfl
@[simp] theorem State.putCar_race (i : Slot) (x : Car) : (s.putCar i x).race = s.race := rfl
@[simp] theorem State.putCar_pen (i : Slot) (x : Car) : (s.putCar i x).pen = s.pen := rfl
@[simp] theorem State.putCar_power (i : Slot) (x : Car) : (s.putCar i x).power = s.power := rfl
@[simp] theorem State.putCar_stand (i : Slot) (x : Car) : (s.putCar i x).stand = s.stand := rfl
@[simp] theorem State.putCar_portA (i : Slot) (x : Car) : (s.putCar i x).portA = s.portA := rfl
@[simp] theorem State.putCar_portB (i : Slot) (x : Car) : (s.putCar i x).portB = s.portB := rfl
@[simp] theorem State.putCar_journal (i : Slot) (x : Car) : (s.putCar i x).journal = s.journal := rfl
@[simp] theorem State.putCar_pending (i : Slot) (x : Car) : (s.putCar i x).pending = s.pending := rfl

/-! ## emptySlot -/

@[simp] theorem State.emptySlot_time (i : Slot) : (s.emptySlot i).time = s.time := rfl
@[simp] theorem State.emptySlot_bus (i : Slot) : (s.emptySlot i).bus = s.bus := rfl
@[simp] theorem State.emptySlot_former (i : Slot) : (s.emptySlot i).former = s.former := rfl
@[simp] theorem State.emptySlot_roster (i : Slot) :
    (s.emptySlot i).roster = { s.roster with slots := s.roster.slots.set i none } := rfl
@[simp] theorem State.emptySlot_course (i : Slot) : (s.emptySlot i).course = s.course := rfl
@[simp] theorem State.emptySlot_race (i : Slot) : (s.emptySlot i).race = s.race := rfl
@[simp] theorem State.emptySlot_pen (i : Slot) : (s.emptySlot i).pen = s.pen := rfl
@[simp] theorem State.emptySlot_power (i : Slot) : (s.emptySlot i).power = s.power := rfl
@[simp] theorem State.emptySlot_stand (i : Slot) : (s.emptySlot i).stand = s.stand := rfl
@[simp] theorem State.emptySlot_portA (i : Slot) : (s.emptySlot i).portA = s.portA := rfl
@[simp] theorem State.emptySlot_portB (i : Slot) : (s.emptySlot i).portB = s.portB := rfl
@[simp] theorem State.emptySlot_journal (i : Slot) : (s.emptySlot i).journal = s.journal := rfl
@[simp] theorem State.emptySlot_pending (i : Slot) : (s.emptySlot i).pending = s.pending := rfl

/-! ## initCars -/

@[simp] theorem State.initCars_time (k : Bool) : (s.initCars k).time = s.time := rfl
@[simp] theorem State.initCars_bus (k : Bool) : (s.initCars k).bus = s.bus := rfl
@[simp] theorem State.initCars_former (k : Bool) : (s.initCars k).former = s.former := rfl
@[simp] theorem State.initCars_course (k : Bool) : (s.initCars k).course = s.course := rfl
@[simp] theorem State.initCars_race (k : Bool) : (s.initCars k).race = s.race := rfl
@[simp] theorem State.initCars_pen (k : Bool) : (s.initCars k).pen = s.pen := rfl
@[simp] theorem State.initCars_power (k : Bool) : (s.initCars k).power = s.power := rfl
@[simp] theorem State.initCars_stand (k : Bool) : (s.initCars k).stand = s.stand := rfl
@[simp] theorem State.initCars_portA (k : Bool) : (s.initCars k).portA = s.portA := rfl
@[simp] theorem State.initCars_portB (k : Bool) : (s.initCars k).portB = s.portB := rfl
@[simp] theorem State.initCars_journal (k : Bool) : (s.initCars k).journal = s.journal := rfl
@[simp] theorem State.initCars_pending (k : Bool) : (s.initCars k).pending = s.pending := rfl

/-! ## joinQueue -/

@[simp] theorem State.joinQueue_time (g : Gate) (k : BusKind) : (s.joinQueue g k).time = s.time := rfl
@[simp] theorem State.joinQueue_bus (g : Gate) (k : BusKind) :
    (s.joinQueue g k).bus = { s.bus with queue := s.bus.queue ++ [⟨g, k⟩] } := rfl
@[simp] theorem State.joinQueue_former (g : Gate) (k : BusKind) : (s.joinQueue g k).former = s.former := rfl
@[simp] theorem State.joinQueue_roster (g : Gate) (k : BusKind) : (s.joinQueue g k).roster = s.roster := rfl
@[simp] theorem State.joinQueue_course (g : Gate) (k : BusKind) : (s.joinQueue g k).course = s.course := rfl
@[simp] theorem State.joinQueue_race (g : Gate) (k : BusKind) : (s.joinQueue g k).race = s.race := rfl
@[simp] theorem State.joinQueue_pen (g : Gate) (k : BusKind) : (s.joinQueue g k).pen = s.pen := rfl
@[simp] theorem State.joinQueue_power (g : Gate) (k : BusKind) : (s.joinQueue g k).power = s.power := rfl
@[simp] theorem State.joinQueue_stand (g : Gate) (k : BusKind) : (s.joinQueue g k).stand = s.stand := rfl
@[simp] theorem State.joinQueue_portA (g : Gate) (k : BusKind) : (s.joinQueue g k).portA = s.portA := rfl
@[simp] theorem State.joinQueue_portB (g : Gate) (k : BusKind) : (s.joinQueue g k).portB = s.portB := rfl
@[simp] theorem State.joinQueue_journal (g : Gate) (k : BusKind) : (s.joinQueue g k).journal = s.journal := rfl
@[simp] theorem State.joinQueue_pending (g : Gate) (k : BusKind) : (s.joinQueue g k).pending = s.pending := rfl

/-! ## dropEntries -/

@[simp] theorem State.dropEntries_time (g : Gate) : (s.dropEntries g).time = s.time := rfl
@[simp] theorem State.dropEntries_bus (g : Gate) :
    (s.dropEntries g).bus = { s.bus with queue := s.bus.queue.filter (fun e => e.gate != g) } := rfl
@[simp] theorem State.dropEntries_former (g : Gate) : (s.dropEntries g).former = s.former := rfl
@[simp] theorem State.dropEntries_roster (g : Gate) : (s.dropEntries g).roster = s.roster := rfl
@[simp] theorem State.dropEntries_course (g : Gate) : (s.dropEntries g).course = s.course := rfl
@[simp] theorem State.dropEntries_race (g : Gate) : (s.dropEntries g).race = s.race := rfl
@[simp] theorem State.dropEntries_pen (g : Gate) : (s.dropEntries g).pen = s.pen := rfl
@[simp] theorem State.dropEntries_power (g : Gate) : (s.dropEntries g).power = s.power := rfl
@[simp] theorem State.dropEntries_stand (g : Gate) : (s.dropEntries g).stand = s.stand := rfl
@[simp] theorem State.dropEntries_portA (g : Gate) : (s.dropEntries g).portA = s.portA := rfl
@[simp] theorem State.dropEntries_portB (g : Gate) : (s.dropEntries g).portB = s.portB := rfl
@[simp] theorem State.dropEntries_journal (g : Gate) : (s.dropEntries g).journal = s.journal := rfl
@[simp] theorem State.dropEntries_pending (g : Gate) : (s.dropEntries g).pending = s.pending := rfl

/-! ## freeLine -/

@[simp] theorem State.freeLine_time : (s.freeLine).time = s.time := rfl
@[simp] theorem State.freeLine_bus : (s.freeLine).bus = { s.bus with line := none } := rfl
@[simp] theorem State.freeLine_former : (s.freeLine).former = s.former := rfl
@[simp] theorem State.freeLine_roster : (s.freeLine).roster = s.roster := rfl
@[simp] theorem State.freeLine_course : (s.freeLine).course = s.course := rfl
@[simp] theorem State.freeLine_race : (s.freeLine).race = s.race := rfl
@[simp] theorem State.freeLine_pen : (s.freeLine).pen = s.pen := rfl
@[simp] theorem State.freeLine_power : (s.freeLine).power = s.power := rfl
@[simp] theorem State.freeLine_stand : (s.freeLine).stand = s.stand := rfl
@[simp] theorem State.freeLine_portA : (s.freeLine).portA = s.portA := rfl
@[simp] theorem State.freeLine_portB : (s.freeLine).portB = s.portB := rfl
@[simp] theorem State.freeLine_journal : (s.freeLine).journal = s.journal := rfl
@[simp] theorem State.freeLine_pending : (s.freeLine).pending = s.pending := rfl

/-! ## tallyPassage -/

@[simp] theorem State.tallyPassage_time (f : PassageTallies → PassageTallies) :
    (s.tallyPassage f).time = s.time := rfl
@[simp] theorem State.tallyPassage_bus (f : PassageTallies → PassageTallies) : (s.tallyPassage f).bus = s.bus := rfl
@[simp] theorem State.tallyPassage_former (f : PassageTallies → PassageTallies) :
    (s.tallyPassage f).former = { s.former with tallies := f s.former.tallies } := rfl
@[simp] theorem State.tallyPassage_roster (f : PassageTallies → PassageTallies) :
    (s.tallyPassage f).roster = s.roster := rfl
@[simp] theorem State.tallyPassage_course (f : PassageTallies → PassageTallies) :
    (s.tallyPassage f).course = s.course := rfl
@[simp] theorem State.tallyPassage_race (f : PassageTallies → PassageTallies) :
    (s.tallyPassage f).race = s.race := rfl
@[simp] theorem State.tallyPassage_pen (f : PassageTallies → PassageTallies) : (s.tallyPassage f).pen = s.pen := rfl
@[simp] theorem State.tallyPassage_power (f : PassageTallies → PassageTallies) :
    (s.tallyPassage f).power = s.power := rfl
@[simp] theorem State.tallyPassage_stand (f : PassageTallies → PassageTallies) :
    (s.tallyPassage f).stand = s.stand := rfl
@[simp] theorem State.tallyPassage_portA (f : PassageTallies → PassageTallies) :
    (s.tallyPassage f).portA = s.portA := rfl
@[simp] theorem State.tallyPassage_portB (f : PassageTallies → PassageTallies) :
    (s.tallyPassage f).portB = s.portB := rfl
@[simp] theorem State.tallyPassage_journal (f : PassageTallies → PassageTallies) :
    (s.tallyPassage f).journal = s.journal := rfl
@[simp] theorem State.tallyPassage_pending (f : PassageTallies → PassageTallies) :
    (s.tallyPassage f).pending = s.pending := rfl

/-! ## tallyLap -/

@[simp] theorem State.tallyLap_time (f : LapTallies → LapTallies) : (s.tallyLap f).time = s.time := rfl
@[simp] theorem State.tallyLap_bus (f : LapTallies → LapTallies) : (s.tallyLap f).bus = s.bus := rfl
@[simp] theorem State.tallyLap_former (f : LapTallies → LapTallies) : (s.tallyLap f).former = s.former := rfl
@[simp] theorem State.tallyLap_roster (f : LapTallies → LapTallies) : (s.tallyLap f).roster = s.roster := rfl
@[simp] theorem State.tallyLap_course (f : LapTallies → LapTallies) :
    (s.tallyLap f).course = { s.course with tallies := f s.course.tallies } := rfl
@[simp] theorem State.tallyLap_race (f : LapTallies → LapTallies) : (s.tallyLap f).race = s.race := rfl
@[simp] theorem State.tallyLap_pen (f : LapTallies → LapTallies) : (s.tallyLap f).pen = s.pen := rfl
@[simp] theorem State.tallyLap_power (f : LapTallies → LapTallies) : (s.tallyLap f).power = s.power := rfl
@[simp] theorem State.tallyLap_stand (f : LapTallies → LapTallies) : (s.tallyLap f).stand = s.stand := rfl
@[simp] theorem State.tallyLap_portA (f : LapTallies → LapTallies) : (s.tallyLap f).portA = s.portA := rfl
@[simp] theorem State.tallyLap_portB (f : LapTallies → LapTallies) : (s.tallyLap f).portB = s.portB := rfl
@[simp] theorem State.tallyLap_journal (f : LapTallies → LapTallies) : (s.tallyLap f).journal = s.journal := rfl
@[simp] theorem State.tallyLap_pending (f : LapTallies → LapTallies) : (s.tallyLap f).pending = s.pending := rfl

/-! ## clearClocks -/

@[simp] theorem State.clearClocks_time :
    (s.clearClocks).time = { s.time with green := 0, nClosed := 0, s0 := 0, latched := none } := rfl
@[simp] theorem State.clearClocks_bus : (s.clearClocks).bus = s.bus := rfl
@[simp] theorem State.clearClocks_former : (s.clearClocks).former = s.former := rfl
@[simp] theorem State.clearClocks_roster : (s.clearClocks).roster = s.roster := rfl
@[simp] theorem State.clearClocks_course : (s.clearClocks).course = s.course := rfl
@[simp] theorem State.clearClocks_race : (s.clearClocks).race = s.race := rfl
@[simp] theorem State.clearClocks_pen : (s.clearClocks).pen = s.pen := rfl
@[simp] theorem State.clearClocks_power : (s.clearClocks).power = s.power := rfl
@[simp] theorem State.clearClocks_stand : (s.clearClocks).stand = s.stand := rfl
@[simp] theorem State.clearClocks_portA : (s.clearClocks).portA = s.portA := rfl
@[simp] theorem State.clearClocks_portB : (s.clearClocks).portB = s.portB := rfl
@[simp] theorem State.clearClocks_journal : (s.clearClocks).journal = s.journal := rfl
@[simp] theorem State.clearClocks_pending : (s.clearClocks).pending = s.pending := rfl

/-! ## startClocks -/

@[simp] theorem State.startClocks_time :
    (s.startClocks).time = { s.time with green := s.time.session, nClosed := 0, s0 := 0, latched := none } := rfl
@[simp] theorem State.startClocks_bus : (s.startClocks).bus = s.bus := rfl
@[simp] theorem State.startClocks_former : (s.startClocks).former = s.former := rfl
@[simp] theorem State.startClocks_roster : (s.startClocks).roster = s.roster := rfl
@[simp] theorem State.startClocks_course : (s.startClocks).course = s.course := rfl
@[simp] theorem State.startClocks_race : (s.startClocks).race = s.race := rfl
@[simp] theorem State.startClocks_pen : (s.startClocks).pen = s.pen := rfl
@[simp] theorem State.startClocks_power : (s.startClocks).power = s.power := rfl
@[simp] theorem State.startClocks_stand : (s.startClocks).stand = s.stand := rfl
@[simp] theorem State.startClocks_portA : (s.startClocks).portA = s.portA := rfl
@[simp] theorem State.startClocks_portB : (s.startClocks).portB = s.portB := rfl
@[simp] theorem State.startClocks_journal : (s.startClocks).journal = s.journal := rfl
@[simp] theorem State.startClocks_pending : (s.startClocks).pending = s.pending := rfl

/-! ## endSuspension -/

@[simp] theorem State.endSuspension_time :
    (s.endSuspension).time = { s.time with nClosed := s.time.nClosed + (s.time.session - s.time.s0) } := rfl
@[simp] theorem State.endSuspension_bus : (s.endSuspension).bus = s.bus := rfl
@[simp] theorem State.endSuspension_former : (s.endSuspension).former = s.former := rfl
@[simp] theorem State.endSuspension_roster : (s.endSuspension).roster = s.roster := rfl
@[simp] theorem State.endSuspension_course : (s.endSuspension).course = s.course := rfl
@[simp] theorem State.endSuspension_race : (s.endSuspension).race = s.race := rfl
@[simp] theorem State.endSuspension_pen : (s.endSuspension).pen = s.pen := rfl
@[simp] theorem State.endSuspension_power : (s.endSuspension).power = s.power := rfl
@[simp] theorem State.endSuspension_stand : (s.endSuspension).stand = s.stand := rfl
@[simp] theorem State.endSuspension_portA : (s.endSuspension).portA = s.portA := rfl
@[simp] theorem State.endSuspension_portB : (s.endSuspension).portB = s.portB := rfl
@[simp] theorem State.endSuspension_journal : (s.endSuspension).journal = s.journal := rfl
@[simp] theorem State.endSuspension_pending : (s.endSuspension).pending = s.pending := rfl

/-! ## growCaution -/

@[simp] theorem State.growCaution_time :
    (s.growCaution).time = { s.time with cautionEpoch := s.time.cautionEpoch + 1 } := rfl
@[simp] theorem State.growCaution_bus : (s.growCaution).bus = s.bus := rfl
@[simp] theorem State.growCaution_former : (s.growCaution).former = s.former := rfl
@[simp] theorem State.growCaution_roster : (s.growCaution).roster = s.roster := rfl
@[simp] theorem State.growCaution_course : (s.growCaution).course = s.course := rfl
@[simp] theorem State.growCaution_race : (s.growCaution).race = s.race := rfl
@[simp] theorem State.growCaution_pen : (s.growCaution).pen = s.pen := rfl
@[simp] theorem State.growCaution_power : (s.growCaution).power = s.power := rfl
@[simp] theorem State.growCaution_stand : (s.growCaution).stand = s.stand := rfl
@[simp] theorem State.growCaution_portA : (s.growCaution).portA = s.portA := rfl
@[simp] theorem State.growCaution_portB : (s.growCaution).portB = s.portB := rfl
@[simp] theorem State.growCaution_journal : (s.growCaution).journal = s.journal := rfl
@[simp] theorem State.growCaution_pending : (s.growCaution).pending = s.pending := rfl

/-! ## clearCaptures -/

@[simp] theorem State.clearCaptures_time :
    (s.clearCaptures).time
      = { s.time with gates := mapVec (fun q => { q with stack := [], last := none }) s.time.gates } := rfl
@[simp] theorem State.clearCaptures_bus : (s.clearCaptures).bus = s.bus := rfl
@[simp] theorem State.clearCaptures_former : (s.clearCaptures).former = s.former := rfl
@[simp] theorem State.clearCaptures_roster : (s.clearCaptures).roster = s.roster := rfl
@[simp] theorem State.clearCaptures_course : (s.clearCaptures).course = s.course := rfl
@[simp] theorem State.clearCaptures_race : (s.clearCaptures).race = s.race := rfl
@[simp] theorem State.clearCaptures_pen : (s.clearCaptures).pen = s.pen := rfl
@[simp] theorem State.clearCaptures_power : (s.clearCaptures).power = s.power := rfl
@[simp] theorem State.clearCaptures_stand : (s.clearCaptures).stand = s.stand := rfl
@[simp] theorem State.clearCaptures_portA : (s.clearCaptures).portA = s.portA := rfl
@[simp] theorem State.clearCaptures_portB : (s.clearCaptures).portB = s.portB := rfl
@[simp] theorem State.clearCaptures_journal : (s.clearCaptures).journal = s.journal := rfl
@[simp] theorem State.clearCaptures_pending : (s.clearCaptures).pending = s.pending := rfl

/-! ## setTrackEnable -/

@[simp] theorem State.setTrackEnable_time : (s.setTrackEnable).time = s.time := rfl
@[simp] theorem State.setTrackEnable_bus : (s.setTrackEnable).bus = s.bus := rfl
@[simp] theorem State.setTrackEnable_former : (s.setTrackEnable).former = s.former := rfl
@[simp] theorem State.setTrackEnable_roster : (s.setTrackEnable).roster = s.roster := rfl
@[simp] theorem State.setTrackEnable_course : (s.setTrackEnable).course = s.course := rfl
@[simp] theorem State.setTrackEnable_race : (s.setTrackEnable).race = s.race := rfl
@[simp] theorem State.setTrackEnable_pen : (s.setTrackEnable).pen = s.pen := rfl
@[simp] theorem State.setTrackEnable_power :
    (s.setTrackEnable).power = { s.power with trackEnable := s.race.state.clockRuns && s.power.linkUp } := rfl
@[simp] theorem State.setTrackEnable_stand : (s.setTrackEnable).stand = s.stand := rfl
@[simp] theorem State.setTrackEnable_portA : (s.setTrackEnable).portA = s.portA := rfl
@[simp] theorem State.setTrackEnable_portB : (s.setTrackEnable).portB = s.portB := rfl
@[simp] theorem State.setTrackEnable_journal : (s.setTrackEnable).journal = s.journal := rfl
@[simp] theorem State.setTrackEnable_pending : (s.setTrackEnable).pending = s.pending := rfl

/-! ## setLamps -/

@[simp] theorem State.setLamps_time : (s.setLamps).time = s.time := rfl
@[simp] theorem State.setLamps_bus : (s.setLamps).bus = s.bus := rfl
@[simp] theorem State.setLamps_former : (s.setLamps).former = s.former := rfl
@[simp] theorem State.setLamps_roster : (s.setLamps).roster = s.roster := rfl
@[simp] theorem State.setLamps_course : (s.setLamps).course = s.course := rfl
@[simp] theorem State.setLamps_race : (s.setLamps).race = { s.race with lamps := s.lampPattern } := rfl
@[simp] theorem State.setLamps_pen : (s.setLamps).pen = s.pen := rfl
@[simp] theorem State.setLamps_power : (s.setLamps).power = s.power := rfl
@[simp] theorem State.setLamps_stand : (s.setLamps).stand = s.stand := rfl
@[simp] theorem State.setLamps_portA : (s.setLamps).portA = s.portA := rfl
@[simp] theorem State.setLamps_portB : (s.setLamps).portB = s.portB := rfl
@[simp] theorem State.setLamps_journal : (s.setLamps).journal = s.journal := rfl
@[simp] theorem State.setLamps_pending : (s.setLamps).pending = s.pending := rfl

/-! ## clearPenalties -/

@[simp] theorem State.clearPenalties_time : (s.clearPenalties).time = s.time := rfl
@[simp] theorem State.clearPenalties_bus : (s.clearPenalties).bus = s.bus := rfl
@[simp] theorem State.clearPenalties_former : (s.clearPenalties).former = s.former := rfl
@[simp] theorem State.clearPenalties_roster : (s.clearPenalties).roster = s.roster := rfl
@[simp] theorem State.clearPenalties_course : (s.clearPenalties).course = s.course := rfl
@[simp] theorem State.clearPenalties_race : (s.clearPenalties).race = s.race := rfl
@[simp] theorem State.clearPenalties_pen : (s.clearPenalties).pen = { s.pen with list := [] } := rfl
@[simp] theorem State.clearPenalties_power : (s.clearPenalties).power = s.power := rfl
@[simp] theorem State.clearPenalties_stand : (s.clearPenalties).stand = s.stand := rfl
@[simp] theorem State.clearPenalties_portA : (s.clearPenalties).portA = s.portA := rfl
@[simp] theorem State.clearPenalties_portB : (s.clearPenalties).portB = s.portB := rfl
@[simp] theorem State.clearPenalties_journal : (s.clearPenalties).journal = s.journal := rfl
@[simp] theorem State.clearPenalties_pending : (s.clearPenalties).pending = s.pending := rfl

/-! ## clearUnattributed -/

@[simp] theorem State.clearUnattributed_time : (s.clearUnattributed).time = s.time := rfl
@[simp] theorem State.clearUnattributed_bus : (s.clearUnattributed).bus = s.bus := rfl
@[simp] theorem State.clearUnattributed_former : (s.clearUnattributed).former = { s.former with list := [] } := rfl
@[simp] theorem State.clearUnattributed_roster : (s.clearUnattributed).roster = s.roster := rfl
@[simp] theorem State.clearUnattributed_course : (s.clearUnattributed).course = s.course := rfl
@[simp] theorem State.clearUnattributed_race : (s.clearUnattributed).race = s.race := rfl
@[simp] theorem State.clearUnattributed_pen : (s.clearUnattributed).pen = s.pen := rfl
@[simp] theorem State.clearUnattributed_power : (s.clearUnattributed).power = s.power := rfl
@[simp] theorem State.clearUnattributed_stand : (s.clearUnattributed).stand = s.stand := rfl
@[simp] theorem State.clearUnattributed_portA : (s.clearUnattributed).portA = s.portA := rfl
@[simp] theorem State.clearUnattributed_portB : (s.clearUnattributed).portB = s.portB := rfl
@[simp] theorem State.clearUnattributed_journal : (s.clearUnattributed).journal = s.journal := rfl
@[simp] theorem State.clearUnattributed_pending : (s.clearUnattributed).pending = s.pending := rfl

/-! ## clearStandings -/

@[simp] theorem State.clearStandings_time : (s.clearStandings).time = s.time := rfl
@[simp] theorem State.clearStandings_bus : (s.clearStandings).bus = s.bus := rfl
@[simp] theorem State.clearStandings_former : (s.clearStandings).former = s.former := rfl
@[simp] theorem State.clearStandings_roster : (s.clearStandings).roster = s.roster := rfl
@[simp] theorem State.clearStandings_course : (s.clearStandings).course = s.course := rfl
@[simp] theorem State.clearStandings_race : (s.clearStandings).race = s.race := rfl
@[simp] theorem State.clearStandings_pen : (s.clearStandings).pen = s.pen := rfl
@[simp] theorem State.clearStandings_power : (s.clearStandings).power = s.power := rfl
@[simp] theorem State.clearStandings_stand : (s.clearStandings).stand = Standings.reset := rfl
@[simp] theorem State.clearStandings_portA : (s.clearStandings).portA = s.portA := rfl
@[simp] theorem State.clearStandings_portB : (s.clearStandings).portB = s.portB := rfl
@[simp] theorem State.clearStandings_journal : (s.clearStandings).journal = s.journal := rfl
@[simp] theorem State.clearStandings_pending : (s.clearStandings).pending = s.pending := rfl

/-! ## putPenalty -/

@[simp] theorem State.putPenalty_time (r : Penalty) : (s.putPenalty r).time = s.time := rfl
@[simp] theorem State.putPenalty_bus (r : Penalty) : (s.putPenalty r).bus = s.bus := rfl
@[simp] theorem State.putPenalty_former (r : Penalty) : (s.putPenalty r).former = s.former := rfl
@[simp] theorem State.putPenalty_roster (r : Penalty) : (s.putPenalty r).roster = s.roster := rfl
@[simp] theorem State.putPenalty_course (r : Penalty) : (s.putPenalty r).course = s.course := rfl
@[simp] theorem State.putPenalty_race (r : Penalty) : (s.putPenalty r).race = s.race := rfl
@[simp] theorem State.putPenalty_pen (r : Penalty) :
    (s.putPenalty r).pen = { s.pen with list := s.pen.list.map (fun x => if x.id = r.id then r else x) } := rfl
@[simp] theorem State.putPenalty_power (r : Penalty) : (s.putPenalty r).power = s.power := rfl
@[simp] theorem State.putPenalty_stand (r : Penalty) : (s.putPenalty r).stand = s.stand := rfl
@[simp] theorem State.putPenalty_portA (r : Penalty) : (s.putPenalty r).portA = s.portA := rfl
@[simp] theorem State.putPenalty_portB (r : Penalty) : (s.putPenalty r).portB = s.portB := rfl
@[simp] theorem State.putPenalty_journal (r : Penalty) : (s.putPenalty r).journal = s.journal := rfl
@[simp] theorem State.putPenalty_pending (r : Penalty) : (s.putPenalty r).pending = s.pending := rfl

/-! ## noticePenalty -/

@[simp] theorem State.noticePenalty_time (c : PenaltyCause) (r : Penalty) : (s.noticePenalty c r).time = s.time := rfl
@[simp] theorem State.noticePenalty_bus (c : PenaltyCause) (r : Penalty) : (s.noticePenalty c r).bus = s.bus := rfl
@[simp] theorem State.noticePenalty_former (c : PenaltyCause) (r : Penalty) :
    (s.noticePenalty c r).former = s.former := rfl
@[simp] theorem State.noticePenalty_roster (c : PenaltyCause) (r : Penalty) :
    (s.noticePenalty c r).roster = s.roster := rfl
@[simp] theorem State.noticePenalty_course (c : PenaltyCause) (r : Penalty) :
    (s.noticePenalty c r).course = s.course := rfl
@[simp] theorem State.noticePenalty_race (c : PenaltyCause) (r : Penalty) : (s.noticePenalty c r).race = s.race := rfl
@[simp] theorem State.noticePenalty_pen (c : PenaltyCause) (r : Penalty) : (s.noticePenalty c r).pen = s.pen := rfl
@[simp] theorem State.noticePenalty_power (c : PenaltyCause) (r : Penalty) :
    (s.noticePenalty c r).power = s.power := rfl
@[simp] theorem State.noticePenalty_stand (c : PenaltyCause) (r : Penalty) :
    (s.noticePenalty c r).stand = s.stand := rfl
@[simp] theorem State.noticePenalty_portA (c : PenaltyCause) (r : Penalty) :
    (s.noticePenalty c r).portA = s.portA.overrun s.journal := rfl
@[simp] theorem State.noticePenalty_portB (c : PenaltyCause) (r : Penalty) :
    (s.noticePenalty c r).portB = s.portB.overrun s.journal := rfl
@[simp] theorem State.noticePenalty_journal (c : PenaltyCause) (r : Penalty) :
    (s.noticePenalty c r).journal
      = ⟨newest256 (s.journal.ring ++ [⟨s.journal.next, s.raceMs, .penalty c (s.numberOf r.code) r⟩]), s.journal.next + 1⟩ := rfl
@[simp] theorem State.noticePenalty_pending (c : PenaltyCause) (r : Penalty) :
    (s.noticePenalty c r).pending = s.pending := rfl

/-! ## Updates by cases -/

@[simp] theorem State.modCar_time (c : Code) (f : Car → Car) : (s.modCar c f).time = s.time := by
  unfold State.modCar; split <;> rfl
@[simp] theorem State.modRace_time (c : Code) (f : RacePart → RacePart) : (s.modRace c f).time = s.time := by
  simp [State.modRace]
@[simp] theorem State.modCar_bus (c : Code) (f : Car → Car) : (s.modCar c f).bus = s.bus := by
  unfold State.modCar; split <;> rfl
@[simp] theorem State.modRace_bus (c : Code) (f : RacePart → RacePart) : (s.modRace c f).bus = s.bus := by
  simp [State.modRace]
@[simp] theorem State.modCar_former (c : Code) (f : Car → Car) : (s.modCar c f).former = s.former := by
  unfold State.modCar; split <;> rfl
@[simp] theorem State.modRace_former (c : Code) (f : RacePart → RacePart) : (s.modRace c f).former = s.former := by
  simp [State.modRace]
@[simp] theorem State.modCar_course (c : Code) (f : Car → Car) : (s.modCar c f).course = s.course := by
  unfold State.modCar; split <;> rfl
@[simp] theorem State.modRace_course (c : Code) (f : RacePart → RacePart) : (s.modRace c f).course = s.course := by
  simp [State.modRace]
@[simp] theorem State.modCar_race (c : Code) (f : Car → Car) : (s.modCar c f).race = s.race := by
  unfold State.modCar; split <;> rfl
@[simp] theorem State.modRace_race (c : Code) (f : RacePart → RacePart) : (s.modRace c f).race = s.race := by
  simp [State.modRace]
@[simp] theorem State.modCar_pen (c : Code) (f : Car → Car) : (s.modCar c f).pen = s.pen := by
  unfold State.modCar; split <;> rfl
@[simp] theorem State.modRace_pen (c : Code) (f : RacePart → RacePart) : (s.modRace c f).pen = s.pen := by
  simp [State.modRace]
@[simp] theorem State.modCar_power (c : Code) (f : Car → Car) : (s.modCar c f).power = s.power := by
  unfold State.modCar; split <;> rfl
@[simp] theorem State.modRace_power (c : Code) (f : RacePart → RacePart) : (s.modRace c f).power = s.power := by
  simp [State.modRace]
@[simp] theorem State.modCar_stand (c : Code) (f : Car → Car) : (s.modCar c f).stand = s.stand := by
  unfold State.modCar; split <;> rfl
@[simp] theorem State.modRace_stand (c : Code) (f : RacePart → RacePart) : (s.modRace c f).stand = s.stand := by
  simp [State.modRace]
@[simp] theorem State.modCar_portA (c : Code) (f : Car → Car) : (s.modCar c f).portA = s.portA := by
  unfold State.modCar; split <;> rfl
@[simp] theorem State.modRace_portA (c : Code) (f : RacePart → RacePart) : (s.modRace c f).portA = s.portA := by
  simp [State.modRace]
@[simp] theorem State.modCar_portB (c : Code) (f : Car → Car) : (s.modCar c f).portB = s.portB := by
  unfold State.modCar; split <;> rfl
@[simp] theorem State.modRace_portB (c : Code) (f : RacePart → RacePart) : (s.modRace c f).portB = s.portB := by
  simp [State.modRace]
@[simp] theorem State.modCar_journal (c : Code) (f : Car → Car) : (s.modCar c f).journal = s.journal := by
  unfold State.modCar; split <;> rfl
@[simp] theorem State.modRace_journal (c : Code) (f : RacePart → RacePart) : (s.modRace c f).journal = s.journal := by
  simp [State.modRace]
@[simp] theorem State.modCar_pending (c : Code) (f : Car → Car) : (s.modCar c f).pending = s.pending := by
  unfold State.modCar; split <;> rfl
@[simp] theorem State.modRace_pending (c : Code) (f : RacePart → RacePart) : (s.modRace c f).pending = s.pending := by
  simp [State.modRace]
@[simp] theorem State.modPort_time (p : PortId) (f : Port → Port) : (s.modPort p f).time = s.time := by
  cases p <;> rfl
@[simp] theorem State.modPort_bus (p : PortId) (f : Port → Port) : (s.modPort p f).bus = s.bus := by
  cases p <;> rfl
@[simp] theorem State.modPort_former (p : PortId) (f : Port → Port) : (s.modPort p f).former = s.former := by
  cases p <;> rfl
@[simp] theorem State.modPort_roster (p : PortId) (f : Port → Port) : (s.modPort p f).roster = s.roster := by
  cases p <;> rfl
@[simp] theorem State.modPort_course (p : PortId) (f : Port → Port) : (s.modPort p f).course = s.course := by
  cases p <;> rfl
@[simp] theorem State.modPort_race (p : PortId) (f : Port → Port) : (s.modPort p f).race = s.race := by
  cases p <;> rfl
@[simp] theorem State.modPort_pen (p : PortId) (f : Port → Port) : (s.modPort p f).pen = s.pen := by
  cases p <;> rfl
@[simp] theorem State.modPort_power (p : PortId) (f : Port → Port) : (s.modPort p f).power = s.power := by
  cases p <;> rfl
@[simp] theorem State.modPort_stand (p : PortId) (f : Port → Port) : (s.modPort p f).stand = s.stand := by
  cases p <;> rfl
@[simp] theorem State.modPort_journal (p : PortId) (f : Port → Port) : (s.modPort p f).journal = s.journal := by
  cases p <;> rfl
@[simp] theorem State.modPort_pending (p : PortId) (f : Port → Port) : (s.modPort p f).pending = s.pending := by
  cases p <;> rfl

@[simp] theorem State.modPort_port_self (p : PortId) (f : Port → Port) : (s.modPort p f).port p = f (s.port p) := by
  cases p <;> rfl

theorem State.modPort_port_other (p q : PortId) (f : Port → Port) (h : q ≠ p) :
    (s.modPort p f).port q = s.port q := by
  cases p <;> cases q <;> first | rfl | exact absurd rfl h

@[simp] theorem State.putRows_time (rows : Vector PermitRow 32) : (s.putRows rows).time = s.time := by
  unfold State.putRows; split <;> rfl
@[simp] theorem State.putRows_bus (rows : Vector PermitRow 32) : (s.putRows rows).bus = s.bus := by
  unfold State.putRows; split <;> rfl
@[simp] theorem State.putRows_former (rows : Vector PermitRow 32) : (s.putRows rows).former = s.former := by
  unfold State.putRows; split <;> rfl
@[simp] theorem State.putRows_roster (rows : Vector PermitRow 32) : (s.putRows rows).roster = s.roster := by
  unfold State.putRows; split <;> rfl
@[simp] theorem State.putRows_course (rows : Vector PermitRow 32) : (s.putRows rows).course = s.course := by
  unfold State.putRows; split <;> rfl
@[simp] theorem State.putRows_race (rows : Vector PermitRow 32) : (s.putRows rows).race = s.race := by
  unfold State.putRows; split <;> rfl
@[simp] theorem State.putRows_pen (rows : Vector PermitRow 32) : (s.putRows rows).pen = s.pen := by
  unfold State.putRows; split <;> rfl
@[simp] theorem State.putRows_stand (rows : Vector PermitRow 32) : (s.putRows rows).stand = s.stand := by
  unfold State.putRows; split <;> rfl
@[simp] theorem State.putRows_portA (rows : Vector PermitRow 32) : (s.putRows rows).portA = s.portA := by
  unfold State.putRows; split <;> rfl
@[simp] theorem State.putRows_portB (rows : Vector PermitRow 32) : (s.putRows rows).portB = s.portB := by
  unfold State.putRows; split <;> rfl
@[simp] theorem State.putRows_journal (rows : Vector PermitRow 32) : (s.putRows rows).journal = s.journal := by
  unfold State.putRows; split <;> rfl
@[simp] theorem State.putRows_pending (rows : Vector PermitRow 32) : (s.putRows rows).pending = s.pending := by
  unfold State.putRows; split <;> rfl
@[simp] theorem State.recomputeAll_time : s.recomputeAll.time = s.time := by
  simp [State.recomputeAll]
@[simp] theorem State.recomputeDrive_time (d : Nat) : (s.recomputeDrive d).time = s.time := by
  unfold State.recomputeDrive; split <;> simp
@[simp] theorem State.recomputeCar_time (c : Code) : (s.recomputeCar c).time = s.time := by
  unfold State.recomputeCar; split <;> (try split) <;> simp
@[simp] theorem State.recomputeAll_bus : s.recomputeAll.bus = s.bus := by
  simp [State.recomputeAll]
@[simp] theorem State.recomputeDrive_bus (d : Nat) : (s.recomputeDrive d).bus = s.bus := by
  unfold State.recomputeDrive; split <;> simp
@[simp] theorem State.recomputeCar_bus (c : Code) : (s.recomputeCar c).bus = s.bus := by
  unfold State.recomputeCar; split <;> (try split) <;> simp
@[simp] theorem State.recomputeAll_former : s.recomputeAll.former = s.former := by
  simp [State.recomputeAll]
@[simp] theorem State.recomputeDrive_former (d : Nat) : (s.recomputeDrive d).former = s.former := by
  unfold State.recomputeDrive; split <;> simp
@[simp] theorem State.recomputeCar_former (c : Code) : (s.recomputeCar c).former = s.former := by
  unfold State.recomputeCar; split <;> (try split) <;> simp
@[simp] theorem State.recomputeAll_roster : s.recomputeAll.roster = s.roster := by
  simp [State.recomputeAll]
@[simp] theorem State.recomputeDrive_roster (d : Nat) : (s.recomputeDrive d).roster = s.roster := by
  unfold State.recomputeDrive; split <;> simp
@[simp] theorem State.recomputeCar_roster (c : Code) : (s.recomputeCar c).roster = s.roster := by
  unfold State.recomputeCar; split <;> (try split) <;> simp
@[simp] theorem State.recomputeAll_course : s.recomputeAll.course = s.course := by
  simp [State.recomputeAll]
@[simp] theorem State.recomputeDrive_course (d : Nat) : (s.recomputeDrive d).course = s.course := by
  unfold State.recomputeDrive; split <;> simp
@[simp] theorem State.recomputeCar_course (c : Code) : (s.recomputeCar c).course = s.course := by
  unfold State.recomputeCar; split <;> (try split) <;> simp
@[simp] theorem State.recomputeAll_race : s.recomputeAll.race = s.race := by
  simp [State.recomputeAll]
@[simp] theorem State.recomputeDrive_race (d : Nat) : (s.recomputeDrive d).race = s.race := by
  unfold State.recomputeDrive; split <;> simp
@[simp] theorem State.recomputeCar_race (c : Code) : (s.recomputeCar c).race = s.race := by
  unfold State.recomputeCar; split <;> (try split) <;> simp
@[simp] theorem State.recomputeAll_pen : s.recomputeAll.pen = s.pen := by
  simp [State.recomputeAll]
@[simp] theorem State.recomputeDrive_pen (d : Nat) : (s.recomputeDrive d).pen = s.pen := by
  unfold State.recomputeDrive; split <;> simp
@[simp] theorem State.recomputeCar_pen (c : Code) : (s.recomputeCar c).pen = s.pen := by
  unfold State.recomputeCar; split <;> (try split) <;> simp
@[simp] theorem State.recomputeAll_stand : s.recomputeAll.stand = s.stand := by
  simp [State.recomputeAll]
@[simp] theorem State.recomputeDrive_stand (d : Nat) : (s.recomputeDrive d).stand = s.stand := by
  unfold State.recomputeDrive; split <;> simp
@[simp] theorem State.recomputeCar_stand (c : Code) : (s.recomputeCar c).stand = s.stand := by
  unfold State.recomputeCar; split <;> (try split) <;> simp
@[simp] theorem State.recomputeAll_portA : s.recomputeAll.portA = s.portA := by
  simp [State.recomputeAll]
@[simp] theorem State.recomputeDrive_portA (d : Nat) : (s.recomputeDrive d).portA = s.portA := by
  unfold State.recomputeDrive; split <;> simp
@[simp] theorem State.recomputeCar_portA (c : Code) : (s.recomputeCar c).portA = s.portA := by
  unfold State.recomputeCar; split <;> (try split) <;> simp
@[simp] theorem State.recomputeAll_portB : s.recomputeAll.portB = s.portB := by
  simp [State.recomputeAll]
@[simp] theorem State.recomputeDrive_portB (d : Nat) : (s.recomputeDrive d).portB = s.portB := by
  unfold State.recomputeDrive; split <;> simp
@[simp] theorem State.recomputeCar_portB (c : Code) : (s.recomputeCar c).portB = s.portB := by
  unfold State.recomputeCar; split <;> (try split) <;> simp
@[simp] theorem State.recomputeAll_journal : s.recomputeAll.journal = s.journal := by
  simp [State.recomputeAll]
@[simp] theorem State.recomputeDrive_journal (d : Nat) : (s.recomputeDrive d).journal = s.journal := by
  unfold State.recomputeDrive; split <;> simp
@[simp] theorem State.recomputeCar_journal (c : Code) : (s.recomputeCar c).journal = s.journal := by
  unfold State.recomputeCar; split <;> (try split) <;> simp
@[simp] theorem State.recomputeAll_pending : s.recomputeAll.pending = s.pending := by
  simp [State.recomputeAll]
@[simp] theorem State.recomputeDrive_pending (d : Nat) : (s.recomputeDrive d).pending = s.pending := by
  unfold State.recomputeDrive; split <;> simp
@[simp] theorem State.recomputeCar_pending (c : Code) : (s.recomputeCar c).pending = s.pending := by
  unfold State.recomputeCar; split <;> (try split) <;> simp
@[simp] theorem State.showState_time : s.showState.time = s.time := by
  simp [State.showState]
@[simp] theorem State.showState_bus : s.showState.bus = s.bus := by
  simp [State.showState]
@[simp] theorem State.showState_former : s.showState.former = s.former := by
  simp [State.showState]
@[simp] theorem State.showState_roster : s.showState.roster = s.roster := by
  simp [State.showState]
@[simp] theorem State.showState_course : s.showState.course = s.course := by
  simp [State.showState]
@[simp] theorem State.showState_pen : s.showState.pen = s.pen := by
  simp [State.showState]
@[simp] theorem State.showState_stand : s.showState.stand = s.stand := by
  simp [State.showState]
@[simp] theorem State.showState_portA : s.showState.portA = s.portA := by
  simp [State.showState]
@[simp] theorem State.showState_portB : s.showState.portB = s.portB := by
  simp [State.showState]
@[simp] theorem State.showState_journal : s.showState.journal = s.journal := by
  simp [State.showState]
@[simp] theorem State.showState_pending : s.showState.pending = s.pending := by
  simp [State.showState]
@[simp] theorem State.discardLine_time (g : Gate) (b : Bool) : (s.discardLine g b).time = s.time := by
  unfold State.discardLine; split <;> (try split) <;> rfl
@[simp] theorem State.arbitrate_time : s.arbitrate.time = s.time := by
  unfold State.arbitrate; repeat' split
  all_goals rfl
@[simp] theorem State.countBy_time (g : Gate) (o : CounterObject) (n : Nat) : (s.countBy g o n).time = s.time := rfl
@[simp] theorem State.discardLine_former (g : Gate) (b : Bool) : (s.discardLine g b).former = s.former := by
  unfold State.discardLine; split <;> (try split) <;> rfl
@[simp] theorem State.arbitrate_former : s.arbitrate.former = s.former := by
  unfold State.arbitrate; repeat' split
  all_goals rfl
@[simp] theorem State.countBy_former (g : Gate) (o : CounterObject) (n : Nat) : (s.countBy g o n).former = s.former := rfl
@[simp] theorem State.discardLine_roster (g : Gate) (b : Bool) : (s.discardLine g b).roster = s.roster := by
  unfold State.discardLine; split <;> (try split) <;> rfl
@[simp] theorem State.arbitrate_roster : s.arbitrate.roster = s.roster := by
  unfold State.arbitrate; repeat' split
  all_goals rfl
@[simp] theorem State.countBy_roster (g : Gate) (o : CounterObject) (n : Nat) : (s.countBy g o n).roster = s.roster := rfl
@[simp] theorem State.discardLine_course (g : Gate) (b : Bool) : (s.discardLine g b).course = s.course := by
  unfold State.discardLine; split <;> (try split) <;> rfl
@[simp] theorem State.arbitrate_course : s.arbitrate.course = s.course := by
  unfold State.arbitrate; repeat' split
  all_goals rfl
@[simp] theorem State.countBy_course (g : Gate) (o : CounterObject) (n : Nat) : (s.countBy g o n).course = s.course := rfl
@[simp] theorem State.discardLine_race (g : Gate) (b : Bool) : (s.discardLine g b).race = s.race := by
  unfold State.discardLine; split <;> (try split) <;> rfl
@[simp] theorem State.arbitrate_race : s.arbitrate.race = s.race := by
  unfold State.arbitrate; repeat' split
  all_goals rfl
@[simp] theorem State.countBy_race (g : Gate) (o : CounterObject) (n : Nat) : (s.countBy g o n).race = s.race := rfl
@[simp] theorem State.discardLine_pen (g : Gate) (b : Bool) : (s.discardLine g b).pen = s.pen := by
  unfold State.discardLine; split <;> (try split) <;> rfl
@[simp] theorem State.arbitrate_pen : s.arbitrate.pen = s.pen := by
  unfold State.arbitrate; repeat' split
  all_goals rfl
@[simp] theorem State.countBy_pen (g : Gate) (o : CounterObject) (n : Nat) : (s.countBy g o n).pen = s.pen := rfl
@[simp] theorem State.discardLine_power (g : Gate) (b : Bool) : (s.discardLine g b).power = s.power := by
  unfold State.discardLine; split <;> (try split) <;> rfl
@[simp] theorem State.arbitrate_power : s.arbitrate.power = s.power := by
  unfold State.arbitrate; repeat' split
  all_goals rfl
@[simp] theorem State.countBy_power (g : Gate) (o : CounterObject) (n : Nat) : (s.countBy g o n).power = s.power := rfl
@[simp] theorem State.discardLine_stand (g : Gate) (b : Bool) : (s.discardLine g b).stand = s.stand := by
  unfold State.discardLine; split <;> (try split) <;> rfl
@[simp] theorem State.arbitrate_stand : s.arbitrate.stand = s.stand := by
  unfold State.arbitrate; repeat' split
  all_goals rfl
@[simp] theorem State.countBy_stand (g : Gate) (o : CounterObject) (n : Nat) : (s.countBy g o n).stand = s.stand := rfl
@[simp] theorem State.discardLine_portA (g : Gate) (b : Bool) : (s.discardLine g b).portA = s.portA := by
  unfold State.discardLine; split <;> (try split) <;> rfl
@[simp] theorem State.arbitrate_portA : s.arbitrate.portA = s.portA := by
  unfold State.arbitrate; repeat' split
  all_goals rfl
@[simp] theorem State.countBy_portA (g : Gate) (o : CounterObject) (n : Nat) : (s.countBy g o n).portA = s.portA := rfl
@[simp] theorem State.discardLine_portB (g : Gate) (b : Bool) : (s.discardLine g b).portB = s.portB := by
  unfold State.discardLine; split <;> (try split) <;> rfl
@[simp] theorem State.arbitrate_portB : s.arbitrate.portB = s.portB := by
  unfold State.arbitrate; repeat' split
  all_goals rfl
@[simp] theorem State.countBy_portB (g : Gate) (o : CounterObject) (n : Nat) : (s.countBy g o n).portB = s.portB := rfl
@[simp] theorem State.discardLine_journal (g : Gate) (b : Bool) : (s.discardLine g b).journal = s.journal := by
  unfold State.discardLine; split <;> (try split) <;> rfl
@[simp] theorem State.arbitrate_journal : s.arbitrate.journal = s.journal := by
  unfold State.arbitrate; repeat' split
  all_goals rfl
@[simp] theorem State.countBy_journal (g : Gate) (o : CounterObject) (n : Nat) : (s.countBy g o n).journal = s.journal := rfl
@[simp] theorem State.discardLine_pending (g : Gate) (b : Bool) : (s.discardLine g b).pending = s.pending := by
  unfold State.discardLine; split <;> (try split) <;> rfl
@[simp] theorem State.arbitrate_pending : s.arbitrate.pending = s.pending := by
  unfold State.arbitrate; repeat' split
  all_goals rfl
@[simp] theorem State.countBy_pending (g : Gate) (o : CounterObject) (n : Nat) : (s.countBy g o n).pending = s.pending := rfl

end Sys2Proof.Machine
end

