-- ==== Sys2Proof/Laws/Ports.lean ====
section
/-! SUPPORT. What the operations of the console ports can do: transmitters, appends, and a request from its frame to
its reply. -/

namespace Sys2Proof.Machine

open Sys2Proof

/-! ## Transmitters -/

@[simp] theorem Port.choose_engaged (p : Port) (j : Journal) : (p.choose j).engaged = p.engaged := by
  unfold Port.choose
  repeat' split
  all_goals rfl

@[simp] theorem Port.choose_rx (p : Port) (j : Journal) : (p.choose j).rx = p.rx := by
  unfold Port.choose
  repeat' split
  all_goals rfl

@[simp] theorem Port.choose_hold (p : Port) (j : Journal) : (p.choose j).hold = p.hold := by
  unfold Port.choose
  repeat' split
  all_goals rfl

/-- A reply that waits still waits or is being sent once the transmitter has chosen (R189). -/
theorem Port.choose_reply (p : Port) (j : Journal) (r : List Byte) (h : p.reply = some r) :
    (p.choose j).reply = some r ∨ (p.choose j).tx = some ⟨.reply, r⟩ := by
  unfold Port.choose
  split
  · exact .inl h
  · split
    · exact .inl h
    · rename_i hr _
      simp_all
    · rename_i hr _
      simp_all

/-- The list of BUSY TAGs never grows at a choice. -/
theorem Port.choose_busyList_length (p : Port) (j : Journal) :
    (p.choose j).busyList.length ≤ p.busyList.length := by
  unfold Port.choose
  repeat' split
  all_goals simp_all

/-- The transmitters change nothing but the ports. -/
theorem State.transmit_onlyPorts (s : State) : s.onlyPorts s.transmit := rfl

theorem State.transmit_port (s : State) (p : PortId) : s.transmit.port p = (s.port p).choose s.journal := by
  cases p <;> rfl

/-! ## Appends -/

@[simp] theorem Port.overrun_engaged (p : Port) (j : Journal) : (p.overrun j).engaged = p.engaged := by
  unfold Port.overrun
  split <;> rfl

@[simp] theorem Port.overrun_reply (p : Port) (j : Journal) : (p.overrun j).reply = p.reply := by
  unfold Port.overrun
  split <;> rfl

@[simp] theorem Port.overrun_tx (p : Port) (j : Journal) : (p.overrun j).tx = p.tx := by
  unfold Port.overrun
  split <;> rfl

@[simp] theorem Port.overrun_busyList (p : Port) (j : Journal) : (p.overrun j).busyList = p.busyList := by
  unfold Port.overrun
  split <;> rfl

@[simp] theorem Port.overrun_rx (p : Port) (j : Journal) : (p.overrun j).rx = p.rx := by
  unfold Port.overrun
  split <;> rfl

@[simp] theorem Port.overrun_hold (p : Port) (j : Journal) : (p.overrun j).hold = p.hold := by
  unfold Port.overrun
  split <;> rfl

/-- An append changes the journal and the ports, nothing else (R193). -/
theorem State.append_frame (s : State) (n : Notice) :
    s.append n = { s with
      journal := s.journal.added s.raceMs n, portA := s.portA.overrun s.journal
      portB := s.portB.overrun s.journal } := rfl

theorem State.append_port (s : State) (n : Notice) (p : PortId) :
    (s.append n).port p = (s.port p).overrun s.journal := by
  cases p <;> rfl

theorem newest256_length (l : List NoticeRec) : (newest256 l).length ≤ 256 := by
  simp only [newest256, List.length_drop]
  omega

/-! ## Requests -/

@[simp] theorem State.engage_engaged (s : State) (p : PortId) : ((s.engage p).port p).engaged = true := by
  simp [State.engage]

@[simp] theorem State.frameTaken_engaged (s : State) (p : PortId) (frame : List Byte) :
    ((s.frameTaken p frame).port p).engaged = (s.port p).engaged := by
  simp [State.frameTaken]

/-- Everything a taken frame can do: nothing, when its receiver cannot complete it; BUSY, on an engaged port; else the
request's own work and its reply (R185 to R188). -/
theorem State.takeFrame_cases {s t : State} {p : PortId} {kind tag : Byte} {payload : List Byte}
    {body : State → Served} (h : s.takeFrame p kind tag payload body = .next t) :
    ((s.port p).rx.completes payload (ltFrame kind tag payload) = false ∧ t = s)
      ∨ ((s.port p).rx.completes payload (ltFrame kind tag payload) = true ∧ (s.port p).engaged = true
        ∧ (s.frameTaken p (ltFrame kind tag payload)).answerBusy p tag = .next t)
      ∨ (s.takes p kind tag payload
        ∧ t = (State.replied p kind tag
          (body ((s.frameTaken p (ltFrame kind tag payload)).engage p))).transmit) := by
  unfold State.takeFrame at h
  by_cases hc : (s.port p).rx.completes payload (ltFrame kind tag payload) = true
  · by_cases he : (s.port p).engaged = true
    · exact .inr (.inl ⟨hc, he, by simpa [hc, he] using h⟩)
    · have he' : (s.port p).engaged = false := by simpa using he
      exact .inr (.inr ⟨⟨he', hc⟩, by simpa [hc, he', eq_comm] using h⟩)
  · have hc' : (s.port p).rx.completes payload (ltFrame kind tag payload) = false := by simpa using hc
    exact .inl ⟨hc', by simpa [hc', eq_comm] using h⟩

/-- A request that is taken is judged and replied to. -/
theorem State.serve_of_takes {s : State} {p : PortId} {kind tag : Byte} {payload : List Byte} (onlyA : Bool)
    (len : Nat) (body : State → Served) (h : s.takes p kind tag payload) :
    s.serve p kind tag payload onlyA len body = .next (State.replied p kind tag
      (judge p payload onlyA len body ((s.frameTaken p (ltFrame kind tag payload)).engage p))).transmit := by
  unfold State.serve State.takeFrame
  simp [h.1, h.2]

/-- A request whose own work leaves its port engaged is answered as that work says, and the transmitters change nothing
but the ports. -/
theorem State.serve_answered {s s1 : State} {p : PortId} {kind tag : Byte} {payload : List Byte} {onlyA : Bool}
    {len : Nat} {body : State → Served} {a : Answer} (h : s.takes p kind tag payload)
    (hp : onlyA = true → p = .A) (hl : payload.length = len)
    (hb : body ((s.frameTaken p (ltFrame kind tag payload)).engage p) = (s1, some a))
    (he : (s1.port p).engaged = true) :
    ∃ t, s.serve p kind tag payload onlyA len body = .next t ∧ t.answered p kind tag a.status a.data ∧
      s1.onlyPorts t := by
  refine ⟨_, State.serve_of_takes onlyA len body h, ?_, ?_⟩
  · have hj : judge p payload onlyA len body ((s.frameTaken p (ltFrame kind tag payload)).engage p)
        = (s1, some a) := by
      unfold judge
      by_cases ho : onlyA = true
      · simp [ho, hp ho, hl, ← hb]
      · simp [ho, hl, ← hb]
    rw [hj]
    constructor
    · simp [State.transmit_port, State.replied, State.putReply, he]
    · rw [State.transmit_port]
      have hr : ((State.replied p kind tag (s1, some a)).port p).reply = some (replyFrame kind tag a) := by
        simp [State.replied, State.putReply]
      exact Port.choose_reply _ _ _ hr
  · have hj : judge p payload onlyA len body ((s.frameTaken p (ltFrame kind tag payload)).engage p)
        = (s1, some a) := by
      unfold judge
      by_cases ho : onlyA = true
      · simp [ho, hp ho, hl, ← hb]
      · simp [ho, hl, ← hb]
    rw [hj]
    cases p <;> rfl

/-- Taking a frame and engaging the port change nothing outside the ports. -/
theorem State.taken_onlyPorts (s : State) (p : PortId) (frame : List Byte) :
    s.onlyPorts ((s.frameTaken p frame).engage p) := by
  cases p <;> rfl

end Sys2Proof.Machine
end

