-- ==== Sys2Proof/Laws/Blocks.lean ====
section
/-! SUPPORT. Which blocks the shared operations of the model leave alone, and what the rows, the lines and the lamps are
once they have been shown. -/

namespace Sys2Proof.Machine

open Sys2Proof

variable (s : State)

/-! ## noticeLeader -/

@[simp] theorem State.noticeLeader_time (b : Option StandEntry) (c : LeaderCause) : (s.noticeLeader b c).time = s.time := by
  unfold State.noticeLeader; repeat' split
  all_goals simp
@[simp] theorem State.noticeLeader_bus (b : Option StandEntry) (c : LeaderCause) : (s.noticeLeader b c).bus = s.bus := by
  unfold State.noticeLeader; repeat' split
  all_goals simp
@[simp] theorem State.noticeLeader_former (b : Option StandEntry) (c : LeaderCause) : (s.noticeLeader b c).former = s.former := by
  unfold State.noticeLeader; repeat' split
  all_goals simp
@[simp] theorem State.noticeLeader_roster (b : Option StandEntry) (c : LeaderCause) : (s.noticeLeader b c).roster = s.roster := by
  unfold State.noticeLeader; repeat' split
  all_goals simp
@[simp] theorem State.noticeLeader_course (b : Option StandEntry) (c : LeaderCause) : (s.noticeLeader b c).course = s.course := by
  unfold State.noticeLeader; repeat' split
  all_goals simp
@[simp] theorem State.noticeLeader_race (b : Option StandEntry) (c : LeaderCause) : (s.noticeLeader b c).race = s.race := by
  unfold State.noticeLeader; repeat' split
  all_goals simp
@[simp] theorem State.noticeLeader_pen (b : Option StandEntry) (c : LeaderCause) : (s.noticeLeader b c).pen = s.pen := by
  unfold State.noticeLeader; repeat' split
  all_goals simp
@[simp] theorem State.noticeLeader_power (b : Option StandEntry) (c : LeaderCause) : (s.noticeLeader b c).power = s.power := by
  unfold State.noticeLeader; repeat' split
  all_goals simp
@[simp] theorem State.noticeLeader_stand (b : Option StandEntry) (c : LeaderCause) : (s.noticeLeader b c).stand = s.stand := by
  unfold State.noticeLeader; repeat' split
  all_goals simp
@[simp] theorem State.noticeLeader_pending (b : Option StandEntry) (c : LeaderCause) : (s.noticeLeader b c).pending = s.pending := by
  unfold State.noticeLeader; repeat' split
  all_goals simp

/-! ## resort -/

@[simp] theorem State.resort_time (c : LeaderCause) : (s.resort c).time = s.time := by
  unfold State.resort; split <;> simp
@[simp] theorem State.resort_bus (c : LeaderCause) : (s.resort c).bus = s.bus := by
  unfold State.resort; split <;> simp
@[simp] theorem State.resort_former (c : LeaderCause) : (s.resort c).former = s.former := by
  unfold State.resort; split <;> simp
@[simp] theorem State.resort_roster (c : LeaderCause) : (s.resort c).roster = s.roster := by
  unfold State.resort; split <;> simp
@[simp] theorem State.resort_course (c : LeaderCause) : (s.resort c).course = s.course := by
  unfold State.resort; split <;> simp
@[simp] theorem State.resort_race (c : LeaderCause) : (s.resort c).race = s.race := by
  unfold State.resort; split <;> simp
@[simp] theorem State.resort_pen (c : LeaderCause) : (s.resort c).pen = s.pen := by
  unfold State.resort; split <;> simp
@[simp] theorem State.resort_power (c : LeaderCause) : (s.resort c).power = s.power := by
  unfold State.resort; split <;> simp
@[simp] theorem State.resort_pending (c : LeaderCause) : (s.resort c).pending = s.pending := by
  unfold State.resort; split <;> simp

/-! ## handOn -/

@[simp] theorem State.handOn_time (k : PenaltyCause) (c : Code) (b : Bool) : (s.handOn k c b).time = s.time := by
  unfold State.handOn; split <;> simp
@[simp] theorem State.handOn_bus (k : PenaltyCause) (c : Code) (b : Bool) : (s.handOn k c b).bus = s.bus := by
  unfold State.handOn; split <;> simp
@[simp] theorem State.handOn_former (k : PenaltyCause) (c : Code) (b : Bool) : (s.handOn k c b).former = s.former := by
  unfold State.handOn; split <;> simp
@[simp] theorem State.handOn_roster (k : PenaltyCause) (c : Code) (b : Bool) : (s.handOn k c b).roster = s.roster := by
  unfold State.handOn; split <;> simp
@[simp] theorem State.handOn_course (k : PenaltyCause) (c : Code) (b : Bool) : (s.handOn k c b).course = s.course := by
  unfold State.handOn; split <;> simp
@[simp] theorem State.handOn_race (k : PenaltyCause) (c : Code) (b : Bool) : (s.handOn k c b).race = s.race := by
  unfold State.handOn; split <;> simp
@[simp] theorem State.handOn_pen (k : PenaltyCause) (c : Code) (b : Bool) : (s.handOn k c b).pen = s.pen := by
  unfold State.handOn; split <;> simp
@[simp] theorem State.handOn_pending (k : PenaltyCause) (c : Code) (b : Bool) : (s.handOn k c b).pending = s.pending := by
  unfold State.handOn; split <;> simp

/-! ## finishEvent -/

@[simp] theorem State.finishEvent_time (k : PenaltyCause) (r : Penalty) (b : Bool) : (s.finishEvent k r b).time = s.time := by
  simp [State.finishEvent]
@[simp] theorem State.finishEvent_bus (k : PenaltyCause) (r : Penalty) (b : Bool) : (s.finishEvent k r b).bus = s.bus := by
  simp [State.finishEvent]
@[simp] theorem State.finishEvent_former (k : PenaltyCause) (r : Penalty) (b : Bool) : (s.finishEvent k r b).former = s.former := by
  simp [State.finishEvent]
@[simp] theorem State.finishEvent_roster (k : PenaltyCause) (r : Penalty) (b : Bool) : (s.finishEvent k r b).roster = s.roster := by
  simp [State.finishEvent]
@[simp] theorem State.finishEvent_course (k : PenaltyCause) (r : Penalty) (b : Bool) : (s.finishEvent k r b).course = s.course := by
  simp [State.finishEvent]
@[simp] theorem State.finishEvent_race (k : PenaltyCause) (r : Penalty) (b : Bool) : (s.finishEvent k r b).race = s.race := by
  simp [State.finishEvent]
@[simp] theorem State.finishEvent_pending (k : PenaltyCause) (r : Penalty) (b : Bool) : (s.finishEvent k r b).pending = s.pending := by
  simp [State.finishEvent]

/-! ## addTime -/

@[simp] theorem State.addTime_time (c : Code) (n : Nat) : (s.addTime c n).time = s.time := by
  simp [State.addTime]
@[simp] theorem State.addTime_bus (c : Code) (n : Nat) : (s.addTime c n).bus = s.bus := by
  simp [State.addTime]
@[simp] theorem State.addTime_former (c : Code) (n : Nat) : (s.addTime c n).former = s.former := by
  simp [State.addTime]
@[simp] theorem State.addTime_course (c : Code) (n : Nat) : (s.addTime c n).course = s.course := by
  simp [State.addTime]
@[simp] theorem State.addTime_race (c : Code) (n : Nat) : (s.addTime c n).race = s.race := by
  simp [State.addTime]
@[simp] theorem State.addTime_pen (c : Code) (n : Nat) : (s.addTime c n).pen = s.pen := by
  simp [State.addTime]
@[simp] theorem State.addTime_power (c : Code) (n : Nat) : (s.addTime c n).power = s.power := by
  simp [State.addTime]
@[simp] theorem State.addTime_stand (c : Code) (n : Nat) : (s.addTime c n).stand = s.stand := by
  simp [State.addTime]
@[simp] theorem State.addTime_portA (c : Code) (n : Nat) : (s.addTime c n).portA = s.portA := by
  simp [State.addTime]
@[simp] theorem State.addTime_portB (c : Code) (n : Nat) : (s.addTime c n).portB = s.portB := by
  simp [State.addTime]
@[simp] theorem State.addTime_journal (c : Code) (n : Nat) : (s.addTime c n).journal = s.journal := by
  simp [State.addTime]
@[simp] theorem State.addTime_pending (c : Code) (n : Nat) : (s.addTime c n).pending = s.pending := by
  simp [State.addTime]

/-! ## subTime -/

@[simp] theorem State.subTime_time (c : Code) (n : Nat) : (s.subTime c n).time = s.time := by
  simp [State.subTime]
@[simp] theorem State.subTime_bus (c : Code) (n : Nat) : (s.subTime c n).bus = s.bus := by
  simp [State.subTime]
@[simp] theorem State.subTime_former (c : Code) (n : Nat) : (s.subTime c n).former = s.former := by
  simp [State.subTime]
@[simp] theorem State.subTime_course (c : Code) (n : Nat) : (s.subTime c n).course = s.course := by
  simp [State.subTime]
@[simp] theorem State.subTime_race (c : Code) (n : Nat) : (s.subTime c n).race = s.race := by
  simp [State.subTime]
@[simp] theorem State.subTime_pen (c : Code) (n : Nat) : (s.subTime c n).pen = s.pen := by
  simp [State.subTime]
@[simp] theorem State.subTime_power (c : Code) (n : Nat) : (s.subTime c n).power = s.power := by
  simp [State.subTime]
@[simp] theorem State.subTime_stand (c : Code) (n : Nat) : (s.subTime c n).stand = s.stand := by
  simp [State.subTime]
@[simp] theorem State.subTime_portA (c : Code) (n : Nat) : (s.subTime c n).portA = s.portA := by
  simp [State.subTime]
@[simp] theorem State.subTime_portB (c : Code) (n : Nat) : (s.subTime c n).portB = s.portB := by
  simp [State.subTime]
@[simp] theorem State.subTime_journal (c : Code) (n : Nat) : (s.subTime c n).journal = s.journal := by
  simp [State.subTime]
@[simp] theorem State.subTime_pending (c : Code) (n : Nat) : (s.subTime c n).pending = s.pending := by
  simp [State.subTime]

/-! ## addDeduct -/

@[simp] theorem State.addDeduct_time (c : Code) (n : Nat) : (s.addDeduct c n).time = s.time := by
  simp [State.addDeduct]
@[simp] theorem State.addDeduct_bus (c : Code) (n : Nat) : (s.addDeduct c n).bus = s.bus := by
  simp [State.addDeduct]
@[simp] theorem State.addDeduct_former (c : Code) (n : Nat) : (s.addDeduct c n).former = s.former := by
  simp [State.addDeduct]
@[simp] theorem State.addDeduct_course (c : Code) (n : Nat) : (s.addDeduct c n).course = s.course := by
  simp [State.addDeduct]
@[simp] theorem State.addDeduct_race (c : Code) (n : Nat) : (s.addDeduct c n).race = s.race := by
  simp [State.addDeduct]
@[simp] theorem State.addDeduct_pen (c : Code) (n : Nat) : (s.addDeduct c n).pen = s.pen := by
  simp [State.addDeduct]
@[simp] theorem State.addDeduct_power (c : Code) (n : Nat) : (s.addDeduct c n).power = s.power := by
  simp [State.addDeduct]
@[simp] theorem State.addDeduct_stand (c : Code) (n : Nat) : (s.addDeduct c n).stand = s.stand := by
  simp [State.addDeduct]
@[simp] theorem State.addDeduct_portA (c : Code) (n : Nat) : (s.addDeduct c n).portA = s.portA := by
  simp [State.addDeduct]
@[simp] theorem State.addDeduct_portB (c : Code) (n : Nat) : (s.addDeduct c n).portB = s.portB := by
  simp [State.addDeduct]
@[simp] theorem State.addDeduct_journal (c : Code) (n : Nat) : (s.addDeduct c n).journal = s.journal := by
  simp [State.addDeduct]
@[simp] theorem State.addDeduct_pending (c : Code) (n : Nat) : (s.addDeduct c n).pending = s.pending := by
  simp [State.addDeduct]

/-! ## subDeduct -/

@[simp] theorem State.subDeduct_time (c : Code) (n : Nat) : (s.subDeduct c n).time = s.time := by
  simp [State.subDeduct]
@[simp] theorem State.subDeduct_bus (c : Code) (n : Nat) : (s.subDeduct c n).bus = s.bus := by
  simp [State.subDeduct]
@[simp] theorem State.subDeduct_former (c : Code) (n : Nat) : (s.subDeduct c n).former = s.former := by
  simp [State.subDeduct]
@[simp] theorem State.subDeduct_course (c : Code) (n : Nat) : (s.subDeduct c n).course = s.course := by
  simp [State.subDeduct]
@[simp] theorem State.subDeduct_race (c : Code) (n : Nat) : (s.subDeduct c n).race = s.race := by
  simp [State.subDeduct]
@[simp] theorem State.subDeduct_pen (c : Code) (n : Nat) : (s.subDeduct c n).pen = s.pen := by
  simp [State.subDeduct]
@[simp] theorem State.subDeduct_power (c : Code) (n : Nat) : (s.subDeduct c n).power = s.power := by
  simp [State.subDeduct]
@[simp] theorem State.subDeduct_stand (c : Code) (n : Nat) : (s.subDeduct c n).stand = s.stand := by
  simp [State.subDeduct]
@[simp] theorem State.subDeduct_portA (c : Code) (n : Nat) : (s.subDeduct c n).portA = s.portA := by
  simp [State.subDeduct]
@[simp] theorem State.subDeduct_portB (c : Code) (n : Nat) : (s.subDeduct c n).portB = s.portB := by
  simp [State.subDeduct]
@[simp] theorem State.subDeduct_journal (c : Code) (n : Nat) : (s.subDeduct c n).journal = s.journal := by
  simp [State.subDeduct]
@[simp] theorem State.subDeduct_pending (c : Code) (n : Nat) : (s.subDeduct c n).pending = s.pending := by
  simp [State.subDeduct]

/-! ## restartSilence -/

@[simp] theorem State.restartSilence_time (c : Code) : (s.restartSilence c).time = s.time := by
  simp [State.restartSilence]
@[simp] theorem State.restartSilence_bus (c : Code) : (s.restartSilence c).bus = s.bus := by
  simp [State.restartSilence]
@[simp] theorem State.restartSilence_former (c : Code) : (s.restartSilence c).former = s.former := by
  simp [State.restartSilence]
@[simp] theorem State.restartSilence_course (c : Code) : (s.restartSilence c).course = s.course := by
  simp [State.restartSilence]
@[simp] theorem State.restartSilence_race (c : Code) : (s.restartSilence c).race = s.race := by
  simp [State.restartSilence]
@[simp] theorem State.restartSilence_pen (c : Code) : (s.restartSilence c).pen = s.pen := by
  simp [State.restartSilence]
@[simp] theorem State.restartSilence_power (c : Code) : (s.restartSilence c).power = s.power := by
  simp [State.restartSilence]
@[simp] theorem State.restartSilence_stand (c : Code) : (s.restartSilence c).stand = s.stand := by
  simp [State.restartSilence]
@[simp] theorem State.restartSilence_portA (c : Code) : (s.restartSilence c).portA = s.portA := by
  simp [State.restartSilence]
@[simp] theorem State.restartSilence_portB (c : Code) : (s.restartSilence c).portB = s.portB := by
  simp [State.restartSilence]
@[simp] theorem State.restartSilence_journal (c : Code) : (s.restartSilence c).journal = s.journal := by
  simp [State.restartSilence]
@[simp] theorem State.restartSilence_pending (c : Code) : (s.restartSilence c).pending = s.pending := by
  simp [State.restartSilence]

/-! ## markServing -/

@[simp] theorem State.markServing_time (c : Code) : (s.markServing c).time = s.time := by
  simp [State.markServing]
@[simp] theorem State.markServing_bus (c : Code) : (s.markServing c).bus = s.bus := by
  simp [State.markServing]
@[simp] theorem State.markServing_former (c : Code) : (s.markServing c).former = s.former := by
  simp [State.markServing]
@[simp] theorem State.markServing_course (c : Code) : (s.markServing c).course = s.course := by
  simp [State.markServing]
@[simp] theorem State.markServing_race (c : Code) : (s.markServing c).race = s.race := by
  simp [State.markServing]
@[simp] theorem State.markServing_pen (c : Code) : (s.markServing c).pen = s.pen := by
  simp [State.markServing]
@[simp] theorem State.markServing_power (c : Code) : (s.markServing c).power = s.power := by
  simp [State.markServing]
@[simp] theorem State.markServing_stand (c : Code) : (s.markServing c).stand = s.stand := by
  simp [State.markServing]
@[simp] theorem State.markServing_portA (c : Code) : (s.markServing c).portA = s.portA := by
  simp [State.markServing]
@[simp] theorem State.markServing_portB (c : Code) : (s.markServing c).portB = s.portB := by
  simp [State.markServing]
@[simp] theorem State.markServing_journal (c : Code) : (s.markServing c).journal = s.journal := by
  simp [State.markServing]
@[simp] theorem State.markServing_pending (c : Code) : (s.markServing c).pending = s.pending := by
  simp [State.markServing]

/-! ## setLastSeen -/

@[simp] theorem State.setLastSeen_time (c : Code) (t : Time) : (s.setLastSeen c t).time = s.time := by
  simp [State.setLastSeen]
@[simp] theorem State.setLastSeen_bus (c : Code) (t : Time) : (s.setLastSeen c t).bus = s.bus := by
  simp [State.setLastSeen]
@[simp] theorem State.setLastSeen_former (c : Code) (t : Time) : (s.setLastSeen c t).former = s.former := by
  simp [State.setLastSeen]
@[simp] theorem State.setLastSeen_course (c : Code) (t : Time) : (s.setLastSeen c t).course = s.course := by
  simp [State.setLastSeen]
@[simp] theorem State.setLastSeen_race (c : Code) (t : Time) : (s.setLastSeen c t).race = s.race := by
  simp [State.setLastSeen]
@[simp] theorem State.setLastSeen_pen (c : Code) (t : Time) : (s.setLastSeen c t).pen = s.pen := by
  simp [State.setLastSeen]
@[simp] theorem State.setLastSeen_power (c : Code) (t : Time) : (s.setLastSeen c t).power = s.power := by
  simp [State.setLastSeen]
@[simp] theorem State.setLastSeen_stand (c : Code) (t : Time) : (s.setLastSeen c t).stand = s.stand := by
  simp [State.setLastSeen]
@[simp] theorem State.setLastSeen_portA (c : Code) (t : Time) : (s.setLastSeen c t).portA = s.portA := by
  simp [State.setLastSeen]
@[simp] theorem State.setLastSeen_portB (c : Code) (t : Time) : (s.setLastSeen c t).portB = s.portB := by
  simp [State.setLastSeen]
@[simp] theorem State.setLastSeen_journal (c : Code) (t : Time) : (s.setLastSeen c t).journal = s.journal := by
  simp [State.setLastSeen]
@[simp] theorem State.setLastSeen_pending (c : Code) (t : Time) : (s.setLastSeen c t).pending = s.pending := by
  simp [State.setLastSeen]

/-! ## announce -/

@[simp] theorem State.announce_time (l : RaceState) (r : StateReason) : (s.announce l r).time = s.time := by
  simp [State.announce]
@[simp] theorem State.announce_bus (l : RaceState) (r : StateReason) : (s.announce l r).bus = s.bus := by
  simp [State.announce]
@[simp] theorem State.announce_former (l : RaceState) (r : StateReason) : (s.announce l r).former = s.former := by
  simp [State.announce]
@[simp] theorem State.announce_roster (l : RaceState) (r : StateReason) : (s.announce l r).roster = s.roster := by
  simp [State.announce]
@[simp] theorem State.announce_course (l : RaceState) (r : StateReason) : (s.announce l r).course = s.course := by
  simp [State.announce]
@[simp] theorem State.announce_pen (l : RaceState) (r : StateReason) : (s.announce l r).pen = s.pen := by
  simp [State.announce]
@[simp] theorem State.announce_power (l : RaceState) (r : StateReason) : (s.announce l r).power = s.power := by
  simp [State.announce]
@[simp] theorem State.announce_stand (l : RaceState) (r : StateReason) : (s.announce l r).stand = s.stand := by
  simp [State.announce]
@[simp] theorem State.announce_pending (l : RaceState) (r : StateReason) : (s.announce l r).pending = s.pending := by
  simp [State.announce]

/-! ## applyShadow -/

@[simp] theorem State.applyShadow_time : (s.applyShadow).time = s.time := by
  unfold State.applyShadow; split <;> rfl
@[simp] theorem State.applyShadow_bus : (s.applyShadow).bus = s.bus := by
  unfold State.applyShadow; split <;> rfl
@[simp] theorem State.applyShadow_former : (s.applyShadow).former = s.former := by
  unfold State.applyShadow; split <;> rfl
@[simp] theorem State.applyShadow_roster : (s.applyShadow).roster = s.roster := by
  unfold State.applyShadow; split <;> rfl
@[simp] theorem State.applyShadow_race : (s.applyShadow).race = s.race := by
  unfold State.applyShadow; split <;> rfl
@[simp] theorem State.applyShadow_pen : (s.applyShadow).pen = s.pen := by
  unfold State.applyShadow; split <;> rfl
@[simp] theorem State.applyShadow_power : (s.applyShadow).power = s.power := by
  unfold State.applyShadow; split <;> rfl
@[simp] theorem State.applyShadow_stand : (s.applyShadow).stand = s.stand := by
  unfold State.applyShadow; split <;> rfl
@[simp] theorem State.applyShadow_portA : (s.applyShadow).portA = s.portA := by
  unfold State.applyShadow; split <;> rfl
@[simp] theorem State.applyShadow_portB : (s.applyShadow).portB = s.portB := by
  unfold State.applyShadow; split <;> rfl
@[simp] theorem State.applyShadow_journal : (s.applyShadow).journal = s.journal := by
  unfold State.applyShadow; split <;> rfl
@[simp] theorem State.applyShadow_pending : (s.applyShadow).pending = s.pending := by
  unfold State.applyShadow; split <;> rfl

/-! ## enterCaution -/

@[simp] theorem State.enterCaution_bus (r : StateReason) : (s.enterCaution r).bus = s.bus := by
  simp [State.enterCaution]
@[simp] theorem State.enterCaution_former (r : StateReason) : (s.enterCaution r).former = s.former := by
  simp [State.enterCaution]
@[simp] theorem State.enterCaution_roster (r : StateReason) : (s.enterCaution r).roster = s.roster := by
  simp [State.enterCaution]
@[simp] theorem State.enterCaution_course (r : StateReason) : (s.enterCaution r).course = s.course := by
  simp [State.enterCaution]
@[simp] theorem State.enterCaution_pen (r : StateReason) : (s.enterCaution r).pen = s.pen := by
  simp [State.enterCaution]
@[simp] theorem State.enterCaution_stand (r : StateReason) : (s.enterCaution r).stand = s.stand := by
  simp [State.enterCaution]
@[simp] theorem State.enterCaution_pending (r : StateReason) : (s.enterCaution r).pending = s.pending := by
  simp [State.enterCaution]

/-! ## suspendRace -/

@[simp] theorem State.suspendRace_bus (r : StateReason) : (s.suspendRace r).bus = s.bus := by
  simp [State.suspendRace]
@[simp] theorem State.suspendRace_former (r : StateReason) : (s.suspendRace r).former = s.former := by
  simp [State.suspendRace]
@[simp] theorem State.suspendRace_roster (r : StateReason) : (s.suspendRace r).roster = s.roster := by
  simp [State.suspendRace]
@[simp] theorem State.suspendRace_course (r : StateReason) : (s.suspendRace r).course = s.course := by
  simp [State.suspendRace]
@[simp] theorem State.suspendRace_pen (r : StateReason) : (s.suspendRace r).pen = s.pen := by
  simp [State.suspendRace]
@[simp] theorem State.suspendRace_stand (r : StateReason) : (s.suspendRace r).stand = s.stand := by
  simp [State.suspendRace]
@[simp] theorem State.suspendRace_pending (r : StateReason) : (s.suspendRace r).pending = s.pending := by
  simp [State.suspendRace]

/-! ## beginStep -/

@[simp] theorem State.beginStep_time (i : Fin 16) : (s.beginStep i).time = s.time := by
  unfold State.beginStep; dsimp only; split <;> simp
@[simp] theorem State.beginStep_bus (i : Fin 16) : (s.beginStep i).bus = s.bus := by
  unfold State.beginStep; dsimp only; split <;> simp
@[simp] theorem State.beginStep_former (i : Fin 16) : (s.beginStep i).former = s.former := by
  unfold State.beginStep; dsimp only; split <;> simp
@[simp] theorem State.beginStep_roster (i : Fin 16) : (s.beginStep i).roster = s.roster := by
  unfold State.beginStep; dsimp only; split <;> simp
@[simp] theorem State.beginStep_course (i : Fin 16) : (s.beginStep i).course = s.course := by
  unfold State.beginStep; dsimp only; split <;> simp
@[simp] theorem State.beginStep_pen (i : Fin 16) : (s.beginStep i).pen = s.pen := by
  unfold State.beginStep; dsimp only; split <;> simp
@[simp] theorem State.beginStep_power (i : Fin 16) : (s.beginStep i).power = s.power := by
  unfold State.beginStep; dsimp only; split <;> simp
@[simp] theorem State.beginStep_stand (i : Fin 16) : (s.beginStep i).stand = s.stand := by
  unfold State.beginStep; dsimp only; split <;> simp
@[simp] theorem State.beginStep_portA (i : Fin 16) : (s.beginStep i).portA = s.portA := by
  unfold State.beginStep; dsimp only; split <;> simp
@[simp] theorem State.beginStep_portB (i : Fin 16) : (s.beginStep i).portB = s.portB := by
  unfold State.beginStep; dsimp only; split <;> simp
@[simp] theorem State.beginStep_journal (i : Fin 16) : (s.beginStep i).journal = s.journal := by
  unfold State.beginStep; dsimp only; split <;> simp
@[simp] theorem State.beginStep_pending (i : Fin 16) : (s.beginStep i).pending = s.pending := by
  unfold State.beginStep; dsimp only; split <;> simp

/-! ## abortToGrid -/

@[simp] theorem State.abortToGrid_time (r : StateReason) : (s.abortToGrid r).time = s.time := by
  simp [State.abortToGrid]
@[simp] theorem State.abortToGrid_bus (r : StateReason) : (s.abortToGrid r).bus = s.bus := by
  simp [State.abortToGrid]
@[simp] theorem State.abortToGrid_former (r : StateReason) : (s.abortToGrid r).former = s.former := by
  simp [State.abortToGrid]
@[simp] theorem State.abortToGrid_roster (r : StateReason) : (s.abortToGrid r).roster = s.roster := by
  simp [State.abortToGrid]
@[simp] theorem State.abortToGrid_course (r : StateReason) : (s.abortToGrid r).course = s.course := by
  simp [State.abortToGrid]
@[simp] theorem State.abortToGrid_pen (r : StateReason) : (s.abortToGrid r).pen = s.pen := by
  simp [State.abortToGrid]
@[simp] theorem State.abortToGrid_stand (r : StateReason) : (s.abortToGrid r).stand = s.stand := by
  simp [State.abortToGrid]
@[simp] theorem State.abortToGrid_pending (r : StateReason) : (s.abortToGrid r).pending = s.pending := by
  simp [State.abortToGrid]

/-! ## structuralEdit -/

@[simp] theorem State.structuralEdit_time : (s.structuralEdit).time = s.time := by
  simp [State.structuralEdit]
@[simp] theorem State.structuralEdit_bus : (s.structuralEdit).bus = s.bus := by
  simp [State.structuralEdit]
@[simp] theorem State.structuralEdit_former : (s.structuralEdit).former = s.former := by
  simp [State.structuralEdit]
@[simp] theorem State.structuralEdit_course : (s.structuralEdit).course = s.course := by
  simp [State.structuralEdit]
@[simp] theorem State.structuralEdit_race : (s.structuralEdit).race = s.race := by
  simp [State.structuralEdit]
@[simp] theorem State.structuralEdit_pen : (s.structuralEdit).pen = s.pen := by
  simp [State.structuralEdit]
@[simp] theorem State.structuralEdit_power : (s.structuralEdit).power = s.power := by
  simp [State.structuralEdit]
@[simp] theorem State.structuralEdit_stand : (s.structuralEdit).stand = s.stand := by
  simp [State.structuralEdit]
@[simp] theorem State.structuralEdit_portA : (s.structuralEdit).portA = s.portA := by
  simp [State.structuralEdit]
@[simp] theorem State.structuralEdit_portB : (s.structuralEdit).portB = s.portB := by
  simp [State.structuralEdit]
@[simp] theorem State.structuralEdit_journal : (s.structuralEdit).journal = s.journal := by
  simp [State.structuralEdit]
@[simp] theorem State.structuralEdit_pending : (s.structuralEdit).pending = s.pending := by
  simp [State.structuralEdit]

/-! ## joinRecord -/

@[simp] theorem State.joinRecord_time (r : Penalty) (b : Bool) : (s.joinRecord r b).time = s.time := by
  simp [State.joinRecord]
@[simp] theorem State.joinRecord_bus (r : Penalty) (b : Bool) : (s.joinRecord r b).bus = s.bus := by
  simp [State.joinRecord]
@[simp] theorem State.joinRecord_former (r : Penalty) (b : Bool) : (s.joinRecord r b).former = s.former := by
  simp [State.joinRecord]
@[simp] theorem State.joinRecord_roster (r : Penalty) (b : Bool) : (s.joinRecord r b).roster = s.roster := by
  simp [State.joinRecord]
@[simp] theorem State.joinRecord_course (r : Penalty) (b : Bool) : (s.joinRecord r b).course = s.course := by
  simp [State.joinRecord]
@[simp] theorem State.joinRecord_race (r : Penalty) (b : Bool) : (s.joinRecord r b).race = s.race := by
  simp [State.joinRecord]
@[simp] theorem State.joinRecord_pending (r : Penalty) (b : Bool) : (s.joinRecord r b).pending = s.pending := by
  simp [State.joinRecord]

/-! ## Heads -/

/-- A change of one head leaves every other head alone. -/
theorem State.modHead_other (g k : Gate) (f : Head → Head) (h : k ≠ g) :
    (s.modHead g f).bus.heads[k] = s.bus.heads[k] := by
  have : g.val ≠ k.val := fun e => h (Fin.ext e.symm)
  simp [this]

/-- The changed head itself. -/
@[simp] theorem State.modHead_self (g : Gate) (f : Head → Head) :
    (s.modHead g f).bus.heads[g] = f s.bus.heads[g] := by
  simp

/-- The arbiter changes no head and no running check (R32). -/
@[simp] theorem State.arbitrate_heads : s.arbitrate.bus.heads = s.bus.heads := by
  unfold State.arbitrate
  repeat' split
  all_goals rfl

@[simp] theorem State.arbitrate_check : s.arbitrate.bus.check = s.bus.check := by
  unfold State.arbitrate
  repeat' split
  all_goals rfl

/-! ## Rows -/

theorem mapVec_getElem {α β : Type} {n : Nat} (f : α → β) (xs : Vector α n) (i : Nat) (h : i < n) :
    (mapVec f xs)[i] = f xs[i] := by
  simp [mapVec, Vector.getElem_mk]

@[simp] theorem driveSlots_getElem (d : DriveIx) : driveSlots[d] = d := by
  revert d
  decide

/-- New rows are the rows (R167). -/
@[simp] theorem State.putRows_rows (rows : Vector PermitRow 32) : (s.putRows rows).power.rows = rows := by
  unfold State.putRows
  split
  · rename_i h
    exact (Vector.toList_inj.mp h).symm
  · rfl

/-- The epoch grows by 1 exactly when a row changes (R167). -/
theorem State.putRows_epoch (rows : Vector PermitRow 32) :
    (s.putRows rows).power.epoch = if rows = s.power.rows then s.power.epoch else s.power.epoch + 1 := by
  unfold State.putRows
  by_cases h : rows = s.power.rows
  · simp [h]
  · have : rows.toList ≠ s.power.rows.toList := fun e => h (Vector.toList_inj.mp e)
    simp [h, this]

/-- New rows change nothing of the power link but rows and epoch. -/
theorem State.putRows_power (rows : Vector PermitRow 32) :
    (s.putRows rows).power
      = { s.power with rows := rows, epoch := (s.putRows rows).power.epoch } := by
  unfold State.putRows
  split
  · rename_i h
    rw [Vector.toList_inj.mp h]
  · rfl

/-- Recomputing every row puts each drive slot's row as the state gives it (R165 to R167). -/
theorem State.recomputeAll_row (d : DriveIx) : s.recomputeAll.power.rows[d] = s.rowOf d := by
  have h := mapVec_getElem s.rowOf driveSlots d.val d.isLt
  have e : driveSlots[d.val] = d := driveSlots_getElem d
  rw [e] at h
  simpa [State.recomputeAll] using h

/-- A row depends on the roster, the course, the penalties, the race state and caution held alone (R165, R166). -/
theorem State.rowOf_congr {s t : State} (hr : t.roster = s.roster) (hc : t.course = s.course) (hp : t.pen = s.pen)
    (hs : t.race.state = s.race.state) (hh : t.race.held = s.race.held) (d : DriveIx) : t.rowOf d = s.rowOf d := by
  have hd : t.driver d = s.driver d := by unfold State.driver State.cars; rw [hr]
  have hv (c : Code) : t.servingRecord c = s.servingRecord c := by unfold State.servingRecord; rw [hp]
  have hl (c : Code) : t.hasCalled c = s.hasCalled c := by unfold State.hasCalled; rw [hp]
  have h1 : t.stateCap = s.stateCap := by unfold State.stateCap; rw [hs, hh, hc]
  have h2 (k : CarState) : t.carCap k = s.carCap k := by unfold State.carCap; rw [hc]
  have h3 (r : Option Penalty) : t.servingCap r = s.servingCap r := by unfold State.servingCap; rw [hc]
  have h4 (r : RacePart) : t.pitCap r = s.pitCap r := by unfold State.pitCap; rw [hs, hc]
  have h5 (x : Car) (r : Option Penalty) : t.laneAllowed x r = s.laneAllowed x r := by
    unfold State.laneAllowed; rw [hs, hh]
  have h6 (x : Car) (r : Option Penalty) : t.rowFlag x r = s.rowFlag x r := by unfold State.rowFlag; rw [hl]
  have ho (x : Car) : t.occupiedRow x = s.occupiedRow x := by
    unfold State.occupiedRow; dsimp only; rw [hv, h1, h2, h3, h4, h5, h6]
  have hf : t.freeRow = s.freeRow := by unfold State.freeRow; rw [hs, hc]
  unfold State.rowOf
  rw [hd]
  split
  · exact ho _
  · exact hf

/-- Of the controller, showing the state changes the lamps alone. -/
theorem State.showState_race : s.showState.race = { s.race with lamps := s.showState.race.lamps } := by
  simp [State.showState]

/-- Once shown, the rows, the line and the lamps are right (R111 steps 4 and 5). -/
theorem State.showState_shown : s.showState.shown := by
  refine ⟨fun d => ?_, ?_, ?_⟩
  · rw [State.rowOf_congr (s := s) (by simp) (by simp) (by simp) (by rw [s.showState_race]) (by rw [s.showState_race])]
    exact s.recomputeAll_row d
  · simp [State.showState]
  · rfl


end Sys2Proof.Machine
end

