-- ==== Sys2Proof/Laws/Lists.lean ====
section
/-! SUPPORT. What the list operations of the model do: ordering by insertion, and the search for a free identifier. -/

namespace Sys2Proof.Machine

open Sys2Proof

theorem insertBy_perm {α : Type} (before : α → α → Bool) (x : α) (l : List α) :
    (insertBy before x l).Perm (x :: l) := by
  induction l with
  | nil => exact .refl _
  | cons y l ih =>
    unfold insertBy
    split
    · exact .refl _
    · exact (ih.cons y).trans (.swap x y l)

/-- A list put in order holds what it held. -/
theorem sortBy_perm {α : Type} (before : α → α → Bool) (l : List α) : (sortBy before l).Perm l := by
  induction l with
  | nil => exact .refl _
  | cons x l ih => exact (insertBy_perm before x _).trans (ih.cons x)

@[simp] theorem insertBy_length {α : Type} (before : α → α → Bool) (x : α) (l : List α) :
    (insertBy before x l).length = l.length + 1 := by
  rw [(insertBy_perm before x l).length_eq, List.length_cons]

@[simp] theorem sortBy_length {α : Type} (before : α → α → Bool) (l : List α) :
    (sortBy before l).length = l.length := (sortBy_perm before l).length_eq

/-- Insertion keeps an order in which nothing stands before what precedes it. -/
theorem insertBy_sorted {α : Type} (before : α → α → Bool) (asymm : ∀ a b, before a b = true → before b a = false)
    (trans : ∀ a b c, before b a = false → before c b = false → before c a = false) (x : α) (l : List α)
    (h : l.Pairwise (fun a b => before b a = false)) :
    (insertBy before x l).Pairwise (fun a b => before b a = false) := by
  induction l with
  | nil => simp [insertBy]
  | cons y l ih =>
    unfold insertBy
    split
    · rename_i hb
      refine List.pairwise_cons.mpr ⟨fun z hz => ?_, h⟩
      rcases List.mem_cons.mp hz with rfl | hz
      · exact asymm _ _ hb
      · exact trans _ _ _ (asymm _ _ hb) ((List.pairwise_cons.mp h).1 z hz)
    · rename_i hb
      refine List.pairwise_cons.mpr ⟨fun z hz => ?_, ih (List.pairwise_cons.mp h).2⟩
      rcases List.mem_cons.mp ((insertBy_perm before x l).mem_iff.mp hz) with rfl | hz
      · simpa using hb
      · exact (List.pairwise_cons.mp h).1 z hz

/-- A list put in order is in order. -/
theorem sortBy_sorted {α : Type} (before : α → α → Bool) (asymm : ∀ a b, before a b = true → before b a = false)
    (trans : ∀ a b c, before b a = false → before c b = false → before c a = false) (l : List α) :
    (sortBy before l).Pairwise (fun a b => before b a = false) := by
  induction l with
  | nil => simp [sortBy]
  | cons x l ih => exact insertBy_sorted before asymm trans x _ ih

/-- The search for a free identifier answers one the list does not hold, from 1 to 255, when it finds one
(R51, R140). -/
theorem freeId_of_some {used : List Nat} {start i : Nat}
    (h : ((List.range 255).map (fun k => (start - 1 + k) % 255 + 1)).find? (fun j => !used.contains j) = some i) :
    freeId used start = i ∧ i ∉ used ∧ 1 ≤ i ∧ i ≤ 255 := by
  refine ⟨by rw [freeId, h]; rfl, ?_, ?_⟩
  · simpa using List.find?_some h
  · obtain ⟨k, -, rfl⟩ := List.mem_map.mp (List.mem_of_find?_eq_some h)
    omega

end Sys2Proof.Machine
end

