-- ==== Sys2Proof/Laws/Passages.lean ====
section
/-! SUPPORT. What a passage and the changes of race state it can cause leave alone: the gate bus, the unattributed list,
the capture stacks, the session clock, the random source and the queue of commands. -/

namespace Sys2Proof.Machine

open Sys2Proof

/-- A fold keeps what each of its steps keeps. -/
theorem foldl_keeps {α β γ : Type} (π : α → γ) (f : α → β → α) (h : ∀ a b, π (f a b) = π a) (l : List β) (a : α) :
    π (l.foldl f a) = π a := by
  induction l generalizing a with
  | nil => rfl
  | cons b l ih => rw [List.foldl_cons, ih, h]

/-- A confirmed record is the record R147's table gives, and of the machine only the car's totals change. -/
theorem State.confirmRecord_record (s : State) (d : Decider) (r : Penalty) :
    (s.confirmRecord d r).2.1 = s.confirmedAs d r := by
  have hp : s.hasServingPoint = false ↔ ∀ q ∈ s.course.points, q.serving = false := by
    simp [State.hasServingPoint]
  unfold State.confirmRecord State.confirmedAs State.convertsAtOnce
  cases ho : r.outcome <;> cases hc : s.car r.code <;> simp [← hp, Penalty.converted]
  all_goals (split <;> simp_all)
  all_goals tauto

variable (s : State)

/-! ## confirmRecord -/

@[simp] theorem State.confirmRecord_bus (d : Decider) (r : Penalty) : (s.confirmRecord d r).1.bus = s.bus := by
  unfold State.confirmRecord; repeat' split
  all_goals simp
@[simp] theorem State.confirmRecord_former (d : Decider) (r : Penalty) : (s.confirmRecord d r).1.former = s.former := by
  unfold State.confirmRecord; repeat' split
  all_goals simp
@[simp] theorem State.confirmRecord_pending (d : Decider) (r : Penalty) : (s.confirmRecord d r).1.pending = s.pending := by
  unfold State.confirmRecord; repeat' split
  all_goals simp
@[simp] theorem State.confirmRecord_gates (d : Decider) (r : Penalty) : (s.confirmRecord d r).1.time.gates = s.time.gates := by
  unfold State.confirmRecord; repeat' split
  all_goals simp
@[simp] theorem State.confirmRecord_session (d : Decider) (r : Penalty) : (s.confirmRecord d r).1.time.session = s.time.session := by
  unfold State.confirmRecord; repeat' split
  all_goals simp
@[simp] theorem State.confirmRecord_rng (d : Decider) (r : Penalty) : (s.confirmRecord d r).1.time.rng = s.time.rng := by
  unfold State.confirmRecord; repeat' split
  all_goals simp

/-! ## decideByMode -/

@[simp] theorem State.decideByMode_bus (r : Penalty) : (s.decideByMode r).1.bus = s.bus := by
  unfold State.decideByMode; split <;> simp
@[simp] theorem State.decideByMode_former (r : Penalty) : (s.decideByMode r).1.former = s.former := by
  unfold State.decideByMode; split <;> simp
@[simp] theorem State.decideByMode_pending (r : Penalty) : (s.decideByMode r).1.pending = s.pending := by
  unfold State.decideByMode; split <;> simp
@[simp] theorem State.decideByMode_gates (r : Penalty) : (s.decideByMode r).1.time.gates = s.time.gates := by
  unfold State.decideByMode; split <;> simp
@[simp] theorem State.decideByMode_session (r : Penalty) : (s.decideByMode r).1.time.session = s.time.session := by
  unfold State.decideByMode; split <;> simp
@[simp] theorem State.decideByMode_rng (r : Penalty) : (s.decideByMode r).1.time.rng = s.time.rng := by
  unfold State.decideByMode; split <;> simp

/-! ## reviewStep -/

@[simp] theorem State.reviewStep_bus (w : Nat) (r : Penalty) : (s.reviewStep w r).1.bus = s.bus := by
  unfold State.reviewStep; repeat' split
  all_goals simp
@[simp] theorem State.reviewStep_former (w : Nat) (r : Penalty) : (s.reviewStep w r).1.former = s.former := by
  unfold State.reviewStep; repeat' split
  all_goals simp
@[simp] theorem State.reviewStep_pending (w : Nat) (r : Penalty) : (s.reviewStep w r).1.pending = s.pending := by
  unfold State.reviewStep; repeat' split
  all_goals simp
@[simp] theorem State.reviewStep_gates (w : Nat) (r : Penalty) : (s.reviewStep w r).1.time.gates = s.time.gates := by
  unfold State.reviewStep; repeat' split
  all_goals simp
@[simp] theorem State.reviewStep_session (w : Nat) (r : Penalty) : (s.reviewStep w r).1.time.session = s.time.session := by
  unfold State.reviewStep; repeat' split
  all_goals simp
@[simp] theorem State.reviewStep_rng (w : Nat) (r : Penalty) : (s.reviewStep w r).1.time.rng = s.time.rng := by
  unfold State.reviewStep; repeat' split
  all_goals simp

theorem State.makeRoom_some {s t : State} (h : s.makeRoom = some t) : t = { s with pen := t.pen } := by
  unfold State.makeRoom at h
  split at h
  · cases h; rfl
  · split at h
    · cases h; rfl
    · cases h

/-! ## raiseCall -/

@[simp] theorem State.raiseCall_bus (k : Fin 6) (c : Code) (q : Nat) (l : Option Lane) : (s.raiseCall k c q l).bus = s.bus := by
  unfold State.raiseCall
  split
  · simp
  · rename_i a h
    have e : a.bus = s.bus := by rw [State.makeRoom_some h]
    simp [e]
@[simp] theorem State.raiseCall_former (k : Fin 6) (c : Code) (q : Nat) (l : Option Lane) : (s.raiseCall k c q l).former = s.former := by
  unfold State.raiseCall
  split
  · simp
  · rename_i a h
    have e : a.former = s.former := by rw [State.makeRoom_some h]
    simp [e]
@[simp] theorem State.raiseCall_pending (k : Fin 6) (c : Code) (q : Nat) (l : Option Lane) : (s.raiseCall k c q l).pending = s.pending := by
  unfold State.raiseCall
  split
  · simp
  · rename_i a h
    have e : a.pending = s.pending := by rw [State.makeRoom_some h]
    simp [e]
@[simp] theorem State.raiseCall_gates (k : Fin 6) (c : Code) (q : Nat) (l : Option Lane) : (s.raiseCall k c q l).time.gates = s.time.gates := by
  unfold State.raiseCall
  split
  · simp
  · rename_i a h
    have e : a.time.gates = s.time.gates := by rw [State.makeRoom_some h]
    simp [e]
@[simp] theorem State.raiseCall_session (k : Fin 6) (c : Code) (q : Nat) (l : Option Lane) : (s.raiseCall k c q l).time.session = s.time.session := by
  unfold State.raiseCall
  split
  · simp
  · rename_i a h
    have e : a.time.session = s.time.session := by rw [State.makeRoom_some h]
    simp [e]
@[simp] theorem State.raiseCall_rng (k : Fin 6) (c : Code) (q : Nat) (l : Option Lane) : (s.raiseCall k c q l).time.rng = s.time.rng := by
  unfold State.raiseCall
  split
  · simp
  · rename_i a h
    have e : a.time.rng = s.time.rng := by rw [State.makeRoom_some h]
    simp [e]

/-! ## raiseAll -/

@[simp] theorem State.raiseAll_bus (l : List (Fin 6)) (x : Passage) : (s.raiseAll l x).bus = s.bus := by
  exact foldl_keeps (fun a : State => a.bus) _ (fun a k => by simp) l s
@[simp] theorem State.raiseAll_former (l : List (Fin 6)) (x : Passage) : (s.raiseAll l x).former = s.former := by
  exact foldl_keeps (fun a : State => a.former) _ (fun a k => by simp) l s
@[simp] theorem State.raiseAll_pending (l : List (Fin 6)) (x : Passage) : (s.raiseAll l x).pending = s.pending := by
  exact foldl_keeps (fun a : State => a.pending) _ (fun a k => by simp) l s
@[simp] theorem State.raiseAll_gates (l : List (Fin 6)) (x : Passage) : (s.raiseAll l x).time.gates = s.time.gates := by
  exact foldl_keeps (fun a : State => a.time.gates) _ (fun a k => by simp) l s
@[simp] theorem State.raiseAll_session (l : List (Fin 6)) (x : Passage) : (s.raiseAll l x).time.session = s.time.session := by
  exact foldl_keeps (fun a : State => a.time.session) _ (fun a k => by simp) l s
@[simp] theorem State.raiseAll_rng (l : List (Fin 6)) (x : Passage) : (s.raiseAll l x).time.rng = s.time.rng := by
  exact foldl_keeps (fun a : State => a.time.rng) _ (fun a k => by simp) l s

/-! ## beginStopGo -/

@[simp] theorem State.beginStopGo_bus (c : Code) : (s.beginStopGo c).bus = s.bus := by
  unfold State.beginStopGo; repeat' split
  all_goals simp
@[simp] theorem State.beginStopGo_former (c : Code) : (s.beginStopGo c).former = s.former := by
  unfold State.beginStopGo; repeat' split
  all_goals simp
@[simp] theorem State.beginStopGo_pending (c : Code) : (s.beginStopGo c).pending = s.pending := by
  unfold State.beginStopGo; repeat' split
  all_goals simp
@[simp] theorem State.beginStopGo_gates (c : Code) : (s.beginStopGo c).time.gates = s.time.gates := by
  unfold State.beginStopGo; repeat' split
  all_goals simp
@[simp] theorem State.beginStopGo_session (c : Code) : (s.beginStopGo c).time.session = s.time.session := by
  unfold State.beginStopGo; repeat' split
  all_goals simp
@[simp] theorem State.beginStopGo_rng (c : Code) : (s.beginStopGo c).time.rng = s.time.rng := by
  unfold State.beginStopGo; repeat' split
  all_goals simp

/-! ## serveProgress -/

@[simp] theorem State.serveProgress_bus (c : Code) : (s.serveProgress c).bus = s.bus := by
  unfold State.serveProgress; repeat' split
  all_goals simp
@[simp] theorem State.serveProgress_former (c : Code) : (s.serveProgress c).former = s.former := by
  unfold State.serveProgress; repeat' split
  all_goals simp
@[simp] theorem State.serveProgress_pending (c : Code) : (s.serveProgress c).pending = s.pending := by
  unfold State.serveProgress; repeat' split
  all_goals simp
@[simp] theorem State.serveProgress_gates (c : Code) : (s.serveProgress c).time.gates = s.time.gates := by
  unfold State.serveProgress; repeat' split
  all_goals simp
@[simp] theorem State.serveProgress_session (c : Code) : (s.serveProgress c).time.session = s.time.session := by
  unfold State.serveProgress; repeat' split
  all_goals simp
@[simp] theorem State.serveProgress_rng (c : Code) : (s.serveProgress c).time.rng = s.time.rng := by
  unfold State.serveProgress; repeat' split
  all_goals simp

/-! ## serveBegin -/

@[simp] theorem State.serveBegin_bus (c : Code) : (s.serveBegin c).bus = s.bus := by
  unfold State.serveBegin; repeat' split
  all_goals simp
@[simp] theorem State.serveBegin_former (c : Code) : (s.serveBegin c).former = s.former := by
  unfold State.serveBegin; repeat' split
  all_goals simp
@[simp] theorem State.serveBegin_pending (c : Code) : (s.serveBegin c).pending = s.pending := by
  unfold State.serveBegin; repeat' split
  all_goals simp
@[simp] theorem State.serveBegin_gates (c : Code) : (s.serveBegin c).time.gates = s.time.gates := by
  unfold State.serveBegin; repeat' split
  all_goals simp
@[simp] theorem State.serveBegin_session (c : Code) : (s.serveBegin c).time.session = s.time.session := by
  unfold State.serveBegin; repeat' split
  all_goals simp
@[simp] theorem State.serveBegin_rng (c : Code) : (s.serveBegin c).time.rng = s.time.rng := by
  unfold State.serveBegin; repeat' split
  all_goals simp

/-! ## serveCount -/

@[simp] theorem State.serveCount_bus (c : Code) : (s.serveCount c).bus = s.bus := by
  unfold State.serveCount; repeat' split
  all_goals simp
@[simp] theorem State.serveCount_former (c : Code) : (s.serveCount c).former = s.former := by
  unfold State.serveCount; repeat' split
  all_goals simp
@[simp] theorem State.serveCount_pending (c : Code) : (s.serveCount c).pending = s.pending := by
  unfold State.serveCount; repeat' split
  all_goals simp
@[simp] theorem State.serveCount_gates (c : Code) : (s.serveCount c).time.gates = s.time.gates := by
  unfold State.serveCount; repeat' split
  all_goals simp
@[simp] theorem State.serveCount_session (c : Code) : (s.serveCount c).time.session = s.time.session := by
  unfold State.serveCount; repeat' split
  all_goals simp
@[simp] theorem State.serveCount_rng (c : Code) : (s.serveCount c).time.rng = s.time.rng := by
  unfold State.serveCount; repeat' split
  all_goals simp

/-! ## serveTriggers -/

@[simp] theorem State.serveTriggers_bus (c : Code) : (s.serveTriggers c).bus = s.bus := by
  simp [State.serveTriggers]
@[simp] theorem State.serveTriggers_former (c : Code) : (s.serveTriggers c).former = s.former := by
  simp [State.serveTriggers]
@[simp] theorem State.serveTriggers_pending (c : Code) : (s.serveTriggers c).pending = s.pending := by
  simp [State.serveTriggers]
@[simp] theorem State.serveTriggers_gates (c : Code) : (s.serveTriggers c).time.gates = s.time.gates := by
  simp [State.serveTriggers]
@[simp] theorem State.serveTriggers_session (c : Code) : (s.serveTriggers c).time.session = s.time.session := by
  simp [State.serveTriggers]
@[simp] theorem State.serveTriggers_rng (c : Code) : (s.serveTriggers c).time.rng = s.time.rng := by
  simp [State.serveTriggers]

/-! ## Settlements -/

theorem State.settleQueued_keeps {γ : Type} (π : State → γ) (hm : ∀ (a : State) c n, π (a.addTime c n) = π a)
    (hp : ∀ (a : State) r, π (a.putPenalty r) = π a) (hn : ∀ (a : State) c r, π (a.noticePenalty c r) = π a)
    {s t : State} {b : Bool} (cause : PenaltyCause) (r : Penalty) (h : s.settleQueued cause r = some (t, b)) :
    π t = π s := by
  unfold State.settleQueued at h
  split at h
  · split at h
    · simp only [Option.some.injEq, Prod.mk.injEq] at h
      rw [← h.1, hn, hp, hm]
    · simp only [Option.some.injEq, Prod.mk.injEq] at h
      rw [← h.1, hn, hp]
  · cases h

theorem State.settleCar_keeps {γ : Type} (π : State → γ) (hm : ∀ (a : State) c n, π (a.addTime c n) = π a)
    (hp : ∀ (a : State) r, π (a.putPenalty r) = π a) (hn : ∀ (a : State) c r, π (a.noticePenalty c r) = π a)
    (ho : ∀ (a : State) k c b, π (a.handOn k c b) = π a) (s : State) (c : Code) (cause : PenaltyCause) :
    π (s.settleCar c cause) = π s := by
  unfold State.settleCar
  dsimp only
  split
  · rfl
  · rw [ho]
    refine foldl_keeps (fun a : State × Bool => π a.1) _ (fun a r => ?_) _ _
    split
    · rename_i h
      exact State.settleQueued_keeps π hm hp hn cause r h
    · rfl

/-- A settlement at the close changes nothing that its parts keep. -/
theorem State.settleClose_keeps {γ : Type} (π : State → γ) (hm : ∀ (a : State) c n, π (a.addTime c n) = π a)
    (hd : ∀ (a : State) r, π (a.decideByMode r).1 = π a)
    (hp : ∀ (a : State) r, π (a.putPenalty r) = π a) (hn : ∀ (a : State) c r, π (a.noticePenalty c r) = π a)
    (ho : ∀ (a : State) k c b, π (a.handOn k c b) = π a) (s : State) : π s.settleClose = π s := by
  have hc : ∀ (a : State) l c, π (a.handOnClose l c) = π a := fun a l c => by
    unfold State.handOnClose; split
    · exact ho ..
    · rfl
  have hr : ∀ (l : List Penalty) (a : State) cars touched, π (a.settleRecords cars touched l) = π a := fun l => by
    induction l with
    | nil => exact fun _ _ _ => rfl
    | cons r rest ih =>
      intro a cars touched
      unfold State.settleRecords
      rw [ih, foldl_keeps π _ (fun a c => hc a _ c)]
      split
      · rename_i h
        unfold State.settleAtClose at h
        split at h
        · simp only [Option.some.injEq, Prod.mk.injEq] at h
          rw [← h.1, hn, hp, hd]
        · exact State.settleQueued_keeps π hm hp hn _ _ h
        · simp only [Option.some.injEq, Prod.mk.injEq] at h
          rw [← h.1, hn, hp]
        · cases h
      · rfl
  exact hr _ _ _ _

/-! ## settleCar -/

@[simp] theorem State.settleCar_bus (c : Code) (k : PenaltyCause) : (s.settleCar c k).bus = s.bus := by
  exact State.settleCar_keeps (fun a => a.bus) (by simp) (by simp) (by simp) (by simp) s c k
@[simp] theorem State.settleCar_former (c : Code) (k : PenaltyCause) : (s.settleCar c k).former = s.former := by
  exact State.settleCar_keeps (fun a => a.former) (by simp) (by simp) (by simp) (by simp) s c k
@[simp] theorem State.settleCar_pending (c : Code) (k : PenaltyCause) : (s.settleCar c k).pending = s.pending := by
  exact State.settleCar_keeps (fun a => a.pending) (by simp) (by simp) (by simp) (by simp) s c k
@[simp] theorem State.settleCar_gates (c : Code) (k : PenaltyCause) : (s.settleCar c k).time.gates = s.time.gates := by
  exact State.settleCar_keeps (fun a => a.time.gates) (by simp) (by simp) (by simp) (by simp) s c k
@[simp] theorem State.settleCar_session (c : Code) (k : PenaltyCause) : (s.settleCar c k).time.session = s.time.session := by
  exact State.settleCar_keeps (fun a => a.time.session) (by simp) (by simp) (by simp) (by simp) s c k
@[simp] theorem State.settleCar_rng (c : Code) (k : PenaltyCause) : (s.settleCar c k).time.rng = s.time.rng := by
  exact State.settleCar_keeps (fun a => a.time.rng) (by simp) (by simp) (by simp) (by simp) s c k

/-! ## settleClose -/

@[simp] theorem State.settleClose_bus : (s.settleClose).bus = s.bus := by
  exact State.settleClose_keeps (fun a => a.bus) (by simp) (by simp) (by simp) (by simp) (by simp) s
@[simp] theorem State.settleClose_former : (s.settleClose).former = s.former := by
  exact State.settleClose_keeps (fun a => a.former) (by simp) (by simp) (by simp) (by simp) (by simp) s
@[simp] theorem State.settleClose_pending : (s.settleClose).pending = s.pending := by
  exact State.settleClose_keeps (fun a => a.pending) (by simp) (by simp) (by simp) (by simp) (by simp) s
@[simp] theorem State.settleClose_gates : (s.settleClose).time.gates = s.time.gates := by
  exact State.settleClose_keeps (fun a => a.time.gates) (by simp) (by simp) (by simp) (by simp) (by simp) s
@[simp] theorem State.settleClose_session : (s.settleClose).time.session = s.time.session := by
  exact State.settleClose_keeps (fun a => a.time.session) (by simp) (by simp) (by simp) (by simp) (by simp) s
@[simp] theorem State.settleClose_rng : (s.settleClose).time.rng = s.time.rng := by
  exact State.settleClose_keeps (fun a => a.time.rng) (by simp) (by simp) (by simp) (by simp) (by simp) s

/-! ## closeRace -/

@[simp] theorem State.closeRace_bus (r : StateReason) : (s.closeRace r).bus = s.bus := by
  unfold State.closeRace; dsimp only; split <;> simp
@[simp] theorem State.closeRace_former (r : StateReason) : (s.closeRace r).former = s.former := by
  unfold State.closeRace; dsimp only; split <;> simp
@[simp] theorem State.closeRace_pending (r : StateReason) : (s.closeRace r).pending = s.pending := by
  unfold State.closeRace; dsimp only; split <;> simp
@[simp] theorem State.closeRace_gates (r : StateReason) : (s.closeRace r).time.gates = s.time.gates := by
  unfold State.closeRace; dsimp only; split <;> simp
@[simp] theorem State.closeRace_session (r : StateReason) : (s.closeRace r).time.session = s.time.session := by
  unfold State.closeRace; dsimp only; split <;> simp
@[simp] theorem State.closeRace_rng (r : StateReason) : (s.closeRace r).time.rng = s.time.rng := by
  unfold State.closeRace; dsimp only; split <;> simp

/-! ## doneTest -/

@[simp] theorem State.doneTest_bus : (s.doneTest).bus = s.bus := by
  unfold State.doneTest; split <;> simp
@[simp] theorem State.doneTest_former : (s.doneTest).former = s.former := by
  unfold State.doneTest; split <;> simp
@[simp] theorem State.doneTest_pending : (s.doneTest).pending = s.pending := by
  unfold State.doneTest; split <;> simp
@[simp] theorem State.doneTest_gates : (s.doneTest).time.gates = s.time.gates := by
  unfold State.doneTest; split <;> simp
@[simp] theorem State.doneTest_session : (s.doneTest).time.session = s.time.session := by
  unfold State.doneTest; split <;> simp
@[simp] theorem State.doneTest_rng : (s.doneTest).time.rng = s.time.rng := by
  unfold State.doneTest; split <;> simp

/-! ## enterChequered -/

@[simp] theorem State.enterChequered_bus : (s.enterChequered).bus = s.bus := by
  simp [State.enterChequered]
@[simp] theorem State.enterChequered_former : (s.enterChequered).former = s.former := by
  simp [State.enterChequered]
@[simp] theorem State.enterChequered_pending : (s.enterChequered).pending = s.pending := by
  simp [State.enterChequered]
@[simp] theorem State.enterChequered_gates : (s.enterChequered).time.gates = s.time.gates := by
  simp [State.enterChequered]
@[simp] theorem State.enterChequered_session : (s.enterChequered).time.session = s.time.session := by
  simp [State.enterChequered]
@[simp] theorem State.enterChequered_rng : (s.enterChequered).time.rng = s.time.rng := by
  simp [State.enterChequered]

/-! ## recordFinish -/

@[simp] theorem State.recordFinish_bus (c : Code) : (s.recordFinish c).bus = s.bus := by
  unfold State.recordFinish; dsimp only; repeat' split
  all_goals simp
@[simp] theorem State.recordFinish_former (c : Code) : (s.recordFinish c).former = s.former := by
  unfold State.recordFinish; dsimp only; repeat' split
  all_goals simp
@[simp] theorem State.recordFinish_pending (c : Code) : (s.recordFinish c).pending = s.pending := by
  unfold State.recordFinish; dsimp only; repeat' split
  all_goals simp
@[simp] theorem State.recordFinish_gates (c : Code) : (s.recordFinish c).time.gates = s.time.gates := by
  unfold State.recordFinish; dsimp only; repeat' split
  all_goals simp
@[simp] theorem State.recordFinish_session (c : Code) : (s.recordFinish c).time.session = s.time.session := by
  unfold State.recordFinish; dsimp only; repeat' split
  all_goals simp
@[simp] theorem State.recordFinish_rng (c : Code) : (s.recordFinish c).time.rng = s.time.rng := by
  unfold State.recordFinish; dsimp only; repeat' split
  all_goals simp

/-! ## finishCar -/

@[simp] theorem State.finishCar_bus (c : Code) : (s.finishCar c).bus = s.bus := by
  simp [State.finishCar]
@[simp] theorem State.finishCar_former (c : Code) : (s.finishCar c).former = s.former := by
  simp [State.finishCar]
@[simp] theorem State.finishCar_pending (c : Code) : (s.finishCar c).pending = s.pending := by
  simp [State.finishCar]
@[simp] theorem State.finishCar_gates (c : Code) : (s.finishCar c).time.gates = s.time.gates := by
  simp [State.finishCar]
@[simp] theorem State.finishCar_session (c : Code) : (s.finishCar c).time.session = s.time.session := by
  simp [State.finishCar]
@[simp] theorem State.finishCar_rng (c : Code) : (s.finishCar c).time.rng = s.time.rng := by
  simp [State.finishCar]

/-! ## finishChecks -/

@[simp] theorem State.finishChecks_bus (c : Code) : (s.finishChecks c).bus = s.bus := by
  unfold State.finishChecks; repeat' split
  all_goals simp
@[simp] theorem State.finishChecks_former (c : Code) : (s.finishChecks c).former = s.former := by
  unfold State.finishChecks; repeat' split
  all_goals simp
@[simp] theorem State.finishChecks_pending (c : Code) : (s.finishChecks c).pending = s.pending := by
  unfold State.finishChecks; repeat' split
  all_goals simp
@[simp] theorem State.finishChecks_gates (c : Code) : (s.finishChecks c).time.gates = s.time.gates := by
  unfold State.finishChecks; repeat' split
  all_goals simp
@[simp] theorem State.finishChecks_session (c : Code) : (s.finishChecks c).time.session = s.time.session := by
  unfold State.finishChecks; repeat' split
  all_goals simp
@[simp] theorem State.finishChecks_rng (c : Code) : (s.finishChecks c).time.rng = s.time.rng := by
  unfold State.finishChecks; repeat' split
  all_goals simp

/-! ## handleJump -/

@[simp] theorem State.handleJump_bus (x : Passage) : (s.handleJump x).bus = s.bus := by
  unfold State.handleJump; dsimp only; repeat' split
  all_goals simp
@[simp] theorem State.handleJump_former (x : Passage) : (s.handleJump x).former = s.former := by
  unfold State.handleJump; dsimp only; repeat' split
  all_goals simp
@[simp] theorem State.handleJump_pending (x : Passage) : (s.handleJump x).pending = s.pending := by
  unfold State.handleJump; dsimp only; repeat' split
  all_goals simp
@[simp] theorem State.handleJump_gates (x : Passage) : (s.handleJump x).time.gates = s.time.gates := by
  unfold State.handleJump; dsimp only; repeat' split
  all_goals simp
@[simp] theorem State.handleJump_session (x : Passage) : (s.handleJump x).time.session = s.time.session := by
  unfold State.handleJump; dsimp only; repeat' split
  all_goals simp
@[simp] theorem State.handleJump_rng (x : Passage) : (s.handleJump x).time.rng = s.time.rng := by
  unfold State.handleJump; dsimp only; repeat' split
  all_goals simp

/-! ## countdownPassage -/

@[simp] theorem State.countdownPassage_bus (x : Passage) : (s.countdownPassage x).bus = s.bus := by
  unfold State.countdownPassage; dsimp only; split <;> simp
@[simp] theorem State.countdownPassage_former (x : Passage) : (s.countdownPassage x).former = s.former := by
  unfold State.countdownPassage; dsimp only; split <;> simp
@[simp] theorem State.countdownPassage_pending (x : Passage) : (s.countdownPassage x).pending = s.pending := by
  unfold State.countdownPassage; dsimp only; split <;> simp
@[simp] theorem State.countdownPassage_gates (x : Passage) : (s.countdownPassage x).time.gates = s.time.gates := by
  unfold State.countdownPassage; dsimp only; split <;> simp
@[simp] theorem State.countdownPassage_session (x : Passage) : (s.countdownPassage x).time.session = s.time.session := by
  unfold State.countdownPassage; dsimp only; split <;> simp
@[simp] theorem State.countdownPassage_rng (x : Passage) : (s.countdownPassage x).time.rng = s.time.rng := by
  unfold State.countdownPassage; dsimp only; split <;> simp

/-! ## lateCountdownPassage -/

@[simp] theorem State.lateCountdownPassage_bus (x : Passage) : (s.lateCountdownPassage x).bus = s.bus := by
  unfold State.lateCountdownPassage; dsimp only; split <;> simp
@[simp] theorem State.lateCountdownPassage_former (x : Passage) : (s.lateCountdownPassage x).former = s.former := by
  unfold State.lateCountdownPassage; dsimp only; split <;> simp
@[simp] theorem State.lateCountdownPassage_pending (x : Passage) : (s.lateCountdownPassage x).pending = s.pending := by
  unfold State.lateCountdownPassage; dsimp only; split <;> simp
@[simp] theorem State.lateCountdownPassage_gates (x : Passage) : (s.lateCountdownPassage x).time.gates = s.time.gates := by
  unfold State.lateCountdownPassage; dsimp only; split <;> simp
@[simp] theorem State.lateCountdownPassage_session (x : Passage) : (s.lateCountdownPassage x).time.session = s.time.session := by
  unfold State.lateCountdownPassage; dsimp only; split <;> simp
@[simp] theorem State.lateCountdownPassage_rng (x : Passage) : (s.lateCountdownPassage x).time.rng = s.time.rng := by
  unfold State.lateCountdownPassage; dsimp only; split <;> simp

/-! ## rejoin -/

@[simp] theorem State.rejoin_bus (y : Car) (x : Passage) (b : Bool) : (s.rejoin y x b).bus = s.bus := by
  unfold State.rejoin; split <;> simp
@[simp] theorem State.rejoin_former (y : Car) (x : Passage) (b : Bool) : (s.rejoin y x b).former = s.former := by
  unfold State.rejoin; split <;> simp
@[simp] theorem State.rejoin_pending (y : Car) (x : Passage) (b : Bool) : (s.rejoin y x b).pending = s.pending := by
  unfold State.rejoin; split <;> simp
@[simp] theorem State.rejoin_gates (y : Car) (x : Passage) (b : Bool) : (s.rejoin y x b).time.gates = s.time.gates := by
  unfold State.rejoin; split <;> simp
@[simp] theorem State.rejoin_session (y : Car) (x : Passage) (b : Bool) : (s.rejoin y x b).time.session = s.time.session := by
  unfold State.rejoin; split <;> simp
@[simp] theorem State.rejoin_rng (y : Car) (x : Passage) (b : Bool) : (s.rejoin y x b).time.rng = s.time.rng := by
  unfold State.rejoin; split <;> simp

/-! ## countedLap -/

@[simp] theorem State.countedLap_bus (y : Car) (x : Passage) (f : LapFlags) (t : Option Nat) : (s.countedLap y x f t).bus = s.bus := by
  unfold State.countedLap; dsimp only; repeat' split
  all_goals simp
@[simp] theorem State.countedLap_former (y : Car) (x : Passage) (f : LapFlags) (t : Option Nat) : (s.countedLap y x f t).former = s.former := by
  unfold State.countedLap; dsimp only; repeat' split
  all_goals simp
@[simp] theorem State.countedLap_pending (y : Car) (x : Passage) (f : LapFlags) (t : Option Nat) : (s.countedLap y x f t).pending = s.pending := by
  unfold State.countedLap; dsimp only; repeat' split
  all_goals simp
@[simp] theorem State.countedLap_gates (y : Car) (x : Passage) (f : LapFlags) (t : Option Nat) : (s.countedLap y x f t).time.gates = s.time.gates := by
  unfold State.countedLap; dsimp only; repeat' split
  all_goals simp
@[simp] theorem State.countedLap_session (y : Car) (x : Passage) (f : LapFlags) (t : Option Nat) : (s.countedLap y x f t).time.session = s.time.session := by
  unfold State.countedLap; dsimp only; repeat' split
  all_goals simp
@[simp] theorem State.countedLap_rng (y : Car) (x : Passage) (f : LapFlags) (t : Option Nat) : (s.countedLap y x f t).time.rng = s.time.rng := by
  unfold State.countedLap; dsimp only; repeat' split
  all_goals simp

/-! ## stageLaps -/

@[simp] theorem State.stageLaps_bus (y : Car) (x : Passage) (sp : Span) (b : Bool) : (s.stageLaps y x sp b).bus = s.bus := by
  unfold State.stageLaps; dsimp only; repeat' split
  all_goals simp
@[simp] theorem State.stageLaps_former (y : Car) (x : Passage) (sp : Span) (b : Bool) : (s.stageLaps y x sp b).former = s.former := by
  unfold State.stageLaps; dsimp only; repeat' split
  all_goals simp
@[simp] theorem State.stageLaps_pending (y : Car) (x : Passage) (sp : Span) (b : Bool) : (s.stageLaps y x sp b).pending = s.pending := by
  unfold State.stageLaps; dsimp only; repeat' split
  all_goals simp
@[simp] theorem State.stageLaps_gates (y : Car) (x : Passage) (sp : Span) (b : Bool) : (s.stageLaps y x sp b).time.gates = s.time.gates := by
  unfold State.stageLaps; dsimp only; repeat' split
  all_goals simp
@[simp] theorem State.stageLaps_session (y : Car) (x : Passage) (sp : Span) (b : Bool) : (s.stageLaps y x sp b).time.session = s.time.session := by
  unfold State.stageLaps; dsimp only; repeat' split
  all_goals simp
@[simp] theorem State.stageLaps_rng (y : Car) (x : Passage) (sp : Span) (b : Bool) : (s.stageLaps y x sp b).time.rng = s.time.rng := by
  unfold State.stageLaps; dsimp only; repeat' split
  all_goals simp

/-! ## stageServing -/

@[simp] theorem State.stageServing_bus (x : Passage) : (s.stageServing x).bus = s.bus := by
  unfold State.stageServing; repeat' split
  all_goals simp
@[simp] theorem State.stageServing_former (x : Passage) : (s.stageServing x).former = s.former := by
  unfold State.stageServing; repeat' split
  all_goals simp
@[simp] theorem State.stageServing_pending (x : Passage) : (s.stageServing x).pending = s.pending := by
  unfold State.stageServing; repeat' split
  all_goals simp
@[simp] theorem State.stageServing_gates (x : Passage) : (s.stageServing x).time.gates = s.time.gates := by
  unfold State.stageServing; repeat' split
  all_goals simp
@[simp] theorem State.stageServing_session (x : Passage) : (s.stageServing x).time.session = s.time.session := by
  unfold State.stageServing; repeat' split
  all_goals simp
@[simp] theorem State.stageServing_rng (x : Passage) : (s.stageServing x).time.rng = s.time.rng := by
  unfold State.stageServing; repeat' split
  all_goals simp

/-! ## update -/

@[simp] theorem State.update_bus (x : Passage) : (s.update x).bus = s.bus := by
  unfold State.update; repeat' split
  all_goals simp
@[simp] theorem State.update_former (x : Passage) : (s.update x).former = s.former := by
  unfold State.update; repeat' split
  all_goals simp
@[simp] theorem State.update_pending (x : Passage) : (s.update x).pending = s.pending := by
  unfold State.update; repeat' split
  all_goals simp
@[simp] theorem State.update_gates (x : Passage) : (s.update x).time.gates = s.time.gates := by
  unfold State.update; repeat' split
  all_goals simp
@[simp] theorem State.update_session (x : Passage) : (s.update x).time.session = s.time.session := by
  unfold State.update; repeat' split
  all_goals simp
@[simp] theorem State.update_rng (x : Passage) : (s.update x).time.rng = s.time.rng := by
  unfold State.update; repeat' split
  all_goals simp

/-! ## passStages -/

@[simp] theorem State.passStages_bus (y : Car) (x : Passage) : (s.passStages y x).bus = s.bus := by
  unfold State.passStages; dsimp only; repeat' split
  all_goals simp
@[simp] theorem State.passStages_former (y : Car) (x : Passage) : (s.passStages y x).former = s.former := by
  unfold State.passStages; dsimp only; repeat' split
  all_goals simp
@[simp] theorem State.passStages_pending (y : Car) (x : Passage) : (s.passStages y x).pending = s.pending := by
  unfold State.passStages; dsimp only; repeat' split
  all_goals simp
@[simp] theorem State.passStages_gates (y : Car) (x : Passage) : (s.passStages y x).time.gates = s.time.gates := by
  unfold State.passStages; dsimp only; repeat' split
  all_goals simp
@[simp] theorem State.passStages_session (y : Car) (x : Passage) : (s.passStages y x).time.session = s.time.session := by
  unfold State.passStages; dsimp only; repeat' split
  all_goals simp
@[simp] theorem State.passStages_rng (y : Car) (x : Passage) : (s.passStages y x).time.rng = s.time.rng := by
  unfold State.passStages; dsimp only; repeat' split
  all_goals simp

/-! ## phaseGate -/

@[simp] theorem State.phaseGate_bus (y : Car) (x : Passage) : (s.phaseGate y x).bus = s.bus := by
  unfold State.phaseGate; dsimp only; repeat' split
  all_goals simp
@[simp] theorem State.phaseGate_former (y : Car) (x : Passage) : (s.phaseGate y x).former = s.former := by
  unfold State.phaseGate; dsimp only; repeat' split
  all_goals simp
@[simp] theorem State.phaseGate_pending (y : Car) (x : Passage) : (s.phaseGate y x).pending = s.pending := by
  unfold State.phaseGate; dsimp only; repeat' split
  all_goals simp
@[simp] theorem State.phaseGate_gates (y : Car) (x : Passage) : (s.phaseGate y x).time.gates = s.time.gates := by
  unfold State.phaseGate; dsimp only; repeat' split
  all_goals simp
@[simp] theorem State.phaseGate_session (y : Car) (x : Passage) : (s.phaseGate y x).time.session = s.time.session := by
  unfold State.phaseGate; dsimp only; repeat' split
  all_goals simp
@[simp] theorem State.phaseGate_rng (y : Car) (x : Passage) : (s.phaseGate y x).time.rng = s.time.rng := by
  unfold State.phaseGate; dsimp only; repeat' split
  all_goals simp

/-! ## processPassage -/

@[simp] theorem State.processPassage_bus (x : Passage) : (s.processPassage x).bus = s.bus := by
  unfold State.processPassage; split <;> simp
@[simp] theorem State.processPassage_former (x : Passage) : (s.processPassage x).former = s.former := by
  unfold State.processPassage; split <;> simp
@[simp] theorem State.processPassage_pending (x : Passage) : (s.processPassage x).pending = s.pending := by
  unfold State.processPassage; split <;> simp
@[simp] theorem State.processPassage_gates (x : Passage) : (s.processPassage x).time.gates = s.time.gates := by
  unfold State.processPassage; split <;> simp
@[simp] theorem State.processPassage_session (x : Passage) : (s.processPassage x).time.session = s.time.session := by
  unfold State.processPassage; split <;> simp
@[simp] theorem State.processPassage_rng (x : Passage) : (s.processPassage x).time.rng = s.time.rng := by
  unfold State.processPassage; split <;> simp


end Sys2Proof.Machine
end

