-- ==== Sys2Proof/WellFormed.lean ====
section
/-! DEFINITION. Well-formed commands: the checks that say a command's operands can occur at all. -/

namespace Sys2Proof

/-- A payload fits an LT frame: LEN is 0 to 240 (spec/11, The LT frame). -/
def payloadFits (payload : List Byte) : Bool := decide (payload.length ≤ 240)

/-- An identifier of a record, 1 to 255 (R51, R140). -/
def idFits (id : Nat) : Bool := decide (1 ≤ id ∧ id ≤ 255)

/-- A code a car can have, 0x0001 to 0xEFFF (R63). -/
def codeFits (code : Code) : Bool := decide (1 ≤ code.toNat ∧ code.toNat ≤ 0xEFFF)

/-- A KIND that is not a request of the catalogue (R186). -/
def notRequestKind (kind : Byte) : Bool := decide (kind.toNat = 0 ∨ 0x34 < kind.toNat)

/-- The command's operands can occur. -/
def Instr.wellFormed : Instr → Bool
  | .hardReset _ _ => true
  | .strobeEdge _ => true
  | .guardReferenceLapse _ => true
  | .pairingLimit _ => true
  | .lastCaptureLapse _ => true
  | .attemptTimeout => true
  | .gateBusUnmatchedFrame _ _ payload => payloadFits payload
  | .probe _ payload => payloadFits payload
  | .setLanes _ payload => payloadFits payload
  | .setThreshold _ payload => payloadFits payload
  | .enable _ payload => payloadFits payload
  | .fetch _ payload => payloadFits payload
  | .status _ payload => payloadFits payload
  | .patternOn _ payload => payloadFits payload
  | .checkFetch _ payload => payloadFits payload
  | .patternOff _ payload => payloadFits payload
  | .settleDeadline _ => true
  | .statusPollTimer _ => true
  | .faultProbeTimer _ => true
  | .quietDeadline _ _ => true
  | .strayMemoryLapse => true
  | .unattributedExpiry id => idFits id
  | .agingCheck => true
  | .silenceDeadline code => codeFits code
  | .stepDeadline => true
  | .practiceLimit => true
  | .raceLimitDeadline => true
  | .finishWindow => true
  | .elapsedLimit => true
  | .reviewDeadlineExpiry id => idFits id
  | .stopGoEnd id => idFits id
  | .pbPoll _ payload => payloadFits payload
  | .powerLinkFrameDrop _ => true
  | .powerLinkGap _ _ => true
  | .permits => true
  | .linkSilenceDeadline => true
  | .consoleFrameDrop _ _ => true
  | .consoleGap _ _ _ => true
  | .busy _ _ _ payload => payloadFits payload
  | .unknownKind _ kind _ payload => notRequestKind kind && payloadFits payload
  | .transmitEnd _ => true
  | .holdDeadline _ => true
  | .openPractice _ _ payload => payloadFits payload
  | .endPractice _ _ payload => payloadFits payload
  | .formGrid _ _ payload => payloadFits payload
  | .standDown _ _ payload => payloadFits payload
  | .start _ _ payload => payloadFits payload
  | .abortStart _ _ payload => payloadFits payload
  | .caution _ _ payload => payloadFits payload
  | .lift _ _ payload => payloadFits payload
  | .suspend _ _ payload => payloadFits payload
  | .resume _ _ payload => payloadFits payload
  | .close _ _ payload => payloadFits payload
  | .release _ _ payload => payloadFits payload
  | .softReset _ _ payload => payloadFits payload
  | .setStartProgram _ _ payload => payloadFits payload
  | .setRaceSettings _ _ payload => payloadFits payload
  | .setPointCount _ _ payload => payloadFits payload
  | .setCoursePoint _ _ payload => payloadFits payload
  | .setSection _ _ payload => payloadFits payload
  | .setGate _ _ payload => payloadFits payload
  | .removeGate _ _ payload => payloadFits payload
  | .gateCheck _ _ payload => payloadFits payload
  | .setCounters _ _ payload => payloadFits payload
  | .clearCounters _ _ payload => payloadFits payload
  | .clearStuck _ _ payload => payloadFits payload
  | .registerCar _ _ payload => payloadFits payload
  | .removeCar _ _ payload => payloadFits payload
  | .setLearning _ _ payload => payloadFits payload
  | .setAgeLimit _ _ payload => payloadFits payload
  | .enter _ _ payload => payloadFits payload
  | .withdraw _ _ payload => payloadFits payload
  | .retire _ _ payload => payloadFits payload
  | .adjustLaps _ _ payload => payloadFits payload
  | .setSchedule _ _ payload => payloadFits payload
  | .assign _ _ payload => payloadFits payload
  | .discard _ _ payload => payloadFits payload
  | .call _ _ payload => payloadFits payload
  | .confirm _ _ payload => payloadFits payload
  | .waive _ _ payload => payloadFits payload
  | .hold _ _ payload => payloadFits payload
  | .queryGate _ _ payload => payloadFits payload
  | .queryUnattributed _ _ payload => payloadFits payload
  | .queryCar _ _ payload => payloadFits payload
  | .queryRoster _ _ payload => payloadFits payload
  | .queryEntries _ _ payload => payloadFits payload
  | .queryCourse _ _ payload => payloadFits payload
  | .queryRace _ _ payload => payloadFits payload
  | .queryPenalty _ _ payload => payloadFits payload
  | .queryPenalties _ _ payload => payloadFits payload
  | .querySchedule _ _ payload => payloadFits payload
  | .queryPermits _ _ payload => payloadFits payload
  | .queryStandings _ _ payload => payloadFits payload
  | .queryPort _ _ payload => payloadFits payload
  | .tick _ => true
  | .badSumReply => true
  | .commandSent => true

end Sys2Proof
end

