-- ==== Sys2Proof/Tests/Slice0.lean ====
section
/-! SUPPORT. Small tests by hand: ill-formed commands, states that meet the hypotheses of the statements, and single
steps with the results of the manual's worked cases. -/

namespace Sys2Proof.Tests

open Sys2Proof Sys2Proof.Machine

/-! ## Small states -/
/-- The state a command leads to. -/
def after (c : Instr) (s : State) : Option State :=
  match exec c s with
  | .next t => some t
  | _ => none

/-- A READY head with lanes 1 to 4. -/
def readyHead : Head := { Head.reset with state := .ready, mask := 0x0F, threshold := 3, poll := some ⟨0, 25000⟩ }

/-- A registered car that is entered and RUNNING, in the drive and grid slot of its code. -/
def carOf (c : Code) : Car :=
  ⟨c, some (100 + c.toNat), c.toNat, .registered, 7, true, some c.toNat,
    { RacePart.initial with state := .running, lapState := .openTimed, silence := some 60000 }⟩

/-- A course of two points at READY gates 1 and 2, the first a serving point, the power link ready, and car 1. -/
def track : State :=
  { State.reset with
    bus.heads := (State.reset.bus.heads.set 0 readyHead).set 1 readyHead
    course.points := [⟨some 0, true, false⟩, ⟨some 1, false, false⟩]
    course.sectors := [Sector.initial, ⟨.closed, .none, 100, 2000, 0⟩]
    power.linkUp := true
    power.status := some .normal
    roster.slots := State.reset.roster.slots.set 1 (some (carOf 1)) }

/-- A race in this state on the track, 5 s after its green moment. -/
def racing (r : RaceState) : State :=
  { track with
    race.state := r, time.session := 600000, time.green := 100000, time.nClosed := 0, time.s0 := 550000 }

/-- A head in this state with this transaction on the line. -/
def onBus (g : Gate) (st : HeadState) (k : BusKind) : State :=
  { State.reset with
    bus.heads := State.reset.bus.heads.set g { readyHead with state := st, failures := 1, fetchPending := true }
    bus.line := some ⟨g, k, [], false, some ⟨State.reset.time.session, 50⟩, false⟩ }

/-- A penalty record of car 1. -/
def callOf (id : Nat) (st : PenaltyState) (o : PenaltyOutcome) : Penalty :=
  ⟨id, .cut, 1, some (1, some 0), 300, st, o, 5, some .autoConfirm, 10, none, none, none, none, none⟩

/-- An unattributed record of gate 2. -/
def strayAnon (id : Nat) (t : Time) : Unattr :=
  ⟨id, 1, 1, some 2, ⟨t, 0, ⟨.green, false, 0, 0⟩, 0⟩, 300, .anon, ⟨t, 3000000⟩⟩

/-- A capture at this time. -/
def cap (t : Time) : Capture := ⟨t, 0, ⟨.green, false, 0, 0⟩, 0⟩

/-- A capture inside the guard interval on the stack of gate 1. -/
def wMerge : State :=
  { track with
    time.edges := 1
    time.session := 100
    time.gates := State.reset.time.gates.set 0 ⟨20, some 90, [cap 80, { cap 90 with merged := 15 }], none⟩ }

/-- Four captures waiting on the stack of gate 1. -/
def wLost : State :=
  { track with
    time.edges := 1
    time.session := 1000
    time.gates := State.reset.time.gates.set 0 ⟨20, some 90, [cap 50, cap 60, cap 70, cap 90], none⟩ }

/-- Two captures and a last capture at gate 1, one of them 20 ms old. -/
def wLast : State :=
  { track with
    time.session := 4000
    time.gates := State.reset.time.gates.set 0 ⟨20, some 90, [cap 1900, cap 2900], some (cap 1800)⟩ }

/-- A head in this state with this failure count, its second attempt on the line. -/
def wFail (st : HeadState) (n : Nat) : State :=
  { State.reset with
    bus.heads := State.reset.bus.heads.set 2 { readyHead with state := st, failures := n, fetchPending := true }
    bus.queue := [⟨2, .status⟩, ⟨3, .probe⟩]
    bus.line := some ⟨2, .fetch, [], true, some ⟨0, 50⟩, false⟩ }

/-- A FETCH on the line and two captures on the stack. -/
def wFetch : State :=
  { onBus 2 .ready .fetch with
    time.gates := State.reset.time.gates.set 2 ⟨20, some 90, [cap 50, cap 60], none⟩, time.session := 100 }

/-- A gate check with this many FETCHes made. -/
def wCheck (k : BusKind) (n : Nat) : State :=
  { onBus 2 .pattern k with bus.check := some ⟨2, 7, 1, 2, n⟩, portA.engaged := true }

/-- A head whose three timers have run out. -/
def wTimers : State :=
  { State.reset with
    bus.heads := State.reset.bus.heads.set 2 { readyHead with
      settle := some ⟨0, 5000⟩, poll := some ⟨0, 25000⟩, faultProbe := some ⟨0, 100000⟩ }
    time.session := 100000 }

/-- A STUCK lane whose quiet deadline has come. -/
def wStuck : State :=
  { State.reset with
    bus.heads := State.reset.bus.heads.set 2 { readyHead with
      lanes := readyHead.lanes.set 1 ⟨16, true, some ⟨0, 200000⟩⟩ }
    time.session := 200000 }

/-- Two unattributed records, the older one 30 s old. -/
def wUn : State :=
  { racing .green with former.list := [strayAnon 3 200000, strayAnon 4 400000], time.session := 3200000 }

/-- Car 1 with a passage later than the records. -/
def wStale : State :=
  { wUn with roster.slots := State.reset.roster.slots.set 1 (some { carOf 1 with
    race := { (carOf 1).race with last := some ⟨0, none, cap 500000, 9⟩ } }) }

/-- A LEARNED car. -/
def learned : Car := ⟨9, none, 0, .learned, 3, false, none, RacePart.initial⟩

/-- Home slot 1 and every overflow slot taken. -/
def full : State :=
  { State.reset with
    roster.slots := overflowSlots.foldl
      (fun v (i : Slot) => v.set i (some { learned with code := 0x100 + BitVec.ofNat 16 i.val }))
      (State.reset.roster.slots.set 1 (some (carOf 1))) }

/-- The LEARNED car at the aging check where its age is the limit. -/
def aging : State :=
  { State.reset with
    roster.slots := State.reset.roster.slots.set 9 (some learned)
    roster.aging := ⟨0, 6000000⟩
    time.session := 120000003 }

/-- Car 1 not entered, car 2 entered. -/
def idle1 : State :=
  { State.reset with
    roster.slots := (State.reset.roster.slots.set 1
      (some { carOf 1 with entered := false, gridSlot := none })).set 2 (some (carOf 2)) }

/-- Settings of a TIME race. -/
def someSettings : Settings := { Settings.default with mode := .time, limit := 36000, cautionCap := 5, laneCount := 6 }

/-- Practice at its limit. -/
def practice : State :=
  { track with
    race.state := .practice, race.practiceLimit := some 3600000000, time.session := 3600000005, time.green := 5 }

/-- A start program step that has run out. -/
def stepping (r : RaceState) (i : Fin 16) : State :=
  { track with
    race.state := r, race.step := some ⟨i, ⟨0, 100000⟩⟩, time.session := 100000
    race.program := { StartProgram.default with g1 := 1, c0 := 2 } }

/-- A suspended race with this saved return state. -/
def paused (v : SavedState) : State := { racing .suspended with race.saved := some v }

/-- Penalty records of car 1 in several states. -/
def calls : List Penalty :=
  [callOf 4 .serving .stopGo, callOf 5 .confirmed .lockout, callOf 6 .review .stopGo, callOf 7 .review .time,
    callOf 8 .served .time]

/-- A record whose review deadline is at race clock 500,000. -/
def timed (id : Nat) (m : ReviewMode) : Penalty :=
  { callOf id .review .stopGo with mode := some m, review := some 500000 }

/-- A stop-go that ends at race clock 500,000. -/
def going : Penalty := { callOf 3 .serving .stopGo with stopGoEnd := some 500000, lapsAsHead := some 1 }

/-- Port B sending a frame of this kind. -/
def sending (k : TxKind) : State := { State.reset with portB.tx := some ⟨k, [1]⟩, portB.engaged := true }

/-- A fixed classification. -/
def stood : State :=
  { racing .green with stand := ⟨[⟨1, 4, 5, 1⟩, ⟨2, 3, 9, 2⟩, ⟨7, 3, 9, 2⟩], true, true, 255⟩ }

/-- Car 1 on a timed lap. -/
def lap1 : Car :=
  { carOf 1 with race := { (carOf 1).race with
    last := some ⟨1, some 1, cap 400000, 3000⟩, lapStart := some ⟨150000, 0, ⟨.green, false, 0, 0⟩⟩, counted := 3 } }

/-- The race with car 1 on a timed lap. -/
def lapping : State := { racing .green with roster.slots := State.reset.roster.slots.set 1 (some lap1) }

/-- Gates 2, 5 and 9 with fetches pending, a STATUS and a PROBE waiting, the pointer at address 5 (spec/02, Sharing
the line). -/
def sharing (run : Nat) : State :=
  { State.reset with
    bus.heads := ((State.reset.bus.heads.set 1 { readyHead with fetchPending := true }).set 4
      { readyHead with fetchPending := true }).set 8 { readyHead with fetchPending := true }
    bus.queue := [⟨3, .status⟩, ⟨10, .probe⟩]
    bus.pointer := 4
    bus.runCount := run }

/-- A penalty list of 32 with one final record, the next identifier at its end. -/
def crowded : State :=
  { racing .green with
    pen.list := callOf 8 .served .time :: List.replicate 31 (callOf 4 .serving .stopGo)
    pen.nextId := 255 }

/-- Gate 1 with a head of all seven lanes, lane 2 STUCK, with this stack and last capture. -/
def reading (now : Time) (stack : List Capture) (last : Option Capture) : State :=
  { track with
    race.state := .green
    time.session := now
    bus.heads := track.bus.heads.set 0 { readyHead with mask := 0x7F, lanes := readyHead.lanes.set 1 ⟨16, true, none⟩ }
    time.gates := track.time.gates.set 0 ⟨20, none, stack, last⟩ }

/-- A capture of the countdown. -/
def early (t : Time) : Capture := ⟨t, 0, ⟨.countdown, false, 0, 0⟩, 0⟩

/-- Car 1 with no lap open. -/
def fresh1 : Car := { carOf 1 with race := { (carOf 1).race with lapState := .closed } }

/-- A countdown or a race with car 1 fresh and the jump watch on since 100,000. -/
def watched (r : RaceState) (j : JumpAction) : State :=
  { racing r with
    race.watchStart := some 100000, course.settings := { Settings.default with jump := j }
    roster.slots := State.reset.roster.slots.set 1 (some fresh1) }

/-- A serve queue of car 1. -/
def queued (l : List Penalty) : State := { racing .green with pen.list := l }

/-! ## Ill-formed commands: one per check of WellFormed -/

theorem payload_too_long (payload : List Byte) (h : payload.length = 241) :
    Instr.wellFormed (.openPractice .A 1 payload) = false := by simp [Instr.wellFormed, payloadFits, h]
theorem smoke_payload_too_long :
    ∃ payload : List Byte, payload.length = 241 ∧ Instr.wellFormed (.openPractice .A 1 payload) = false :=
  ⟨List.replicate 241 0, List.length_replicate, payload_too_long _ List.length_replicate⟩
theorem smoke_id_zero : Instr.wellFormed (.stopGoEnd 0) = false := by decide
theorem smoke_id_256 : Instr.wellFormed (.unattributedExpiry 256) = false := by decide
theorem smoke_code_reserved : Instr.wellFormed (.silenceDeadline 0xF000) = false := by decide
theorem smoke_kind_of_a_request : Instr.wellFormed (.unknownKind .A 0x34 1 []) = false := by decide

/-! ## Bytes (spec/11) -/

/-- CAUTION is request 0x07; 0x00 and 0x35 are no requests. -/
theorem test_decodeRequest :
    decodeRequest 0x07 .B 3 [] = some (.caution .B 3 []) ∧ decodeRequest 0x13 .A 3 [1] = some (.setGate .A 3 [1]) ∧
      decodeRequest 0x34 .A 3 [0] = some (.queryPort .A 3 [0]) ∧ decodeRequest 0 .A 3 [] = none ∧
      decodeRequest 0x35 .A 3 [] = none := by decide

/-- LEN 2, KIND 0x10, TAG 5, payload 0xF0 0x01: the sum is 0x108, so SUM is 0xF8. -/
theorem test_ltFrame : ltFrame 0x10 5 [0xF0, 0x01] = [0xC3, 2, 0x10, 5, 0xF0, 0x01, 0xF8] := by decide

/-- HARD_RESET leaves the random source at 0x5D3B and samples the straps. -/
theorem test_hardReset :
    (after (.hardReset true false) (racing .green)).map
      (fun t => (t.time.rng, t.portA.fast, t.portB.fast, t.race.state)) = some (0x5D3B, true, false, .idle) := by decide

/-! ## Time base (spec/01) -/

/-- The first values of the random source after a hard reset (R16). -/
theorem test_random_source :
    lfsrStep 0x5D3B = 0xBA76 ∧ lfsrStep 0xBA76 = 0x74ED ∧ lfsrStep 0x74ED = 0xE9DB := by decide

/-- The session clock wraps and a rising edge needs a low sample before it (R1, R10). -/
theorem test_tick :
    (after (.tick 0x005) { State.reset with time.session := 0xFFFFFFFF, time.strobePrev := 0x001 }).map
      (fun t => (t.time.session, t.time.edges)) = some (0, 0x004) := by decide

/-- The race of the worked case, suspended at 3,000,000. -/
def clockCase (now n0 : Time) (r : RaceState) : State :=
  { racing r with
    time.session := now, time.green := 1000000, time.nClosed := n0, time.s0 := 3000000
    time.cautionEpoch := 3, time.suspensionEpoch := 8, race.saved := if r = .suspended then some .green else none }

/-- Worked case, the race clock through a suspension: rows 3,500,000 and 5,000,000. -/
theorem test_raceClock :
    (clockCase 3500000 0 .suspended).neutral = 500000 ∧ (clockCase 3500000 0 .suspended).raceClock = 2000000 ∧
      (clockCase 5000000 1200000 .green).raceClock = 2800000 ∧ (clockCase 5000000 1200000 .green).raceMs = 28000 := by
  decide

/-- The same case at 4,200,000: RESUME closes a suspension of 1,200,000 ticks. -/
theorem test_resume :
    (after (.resume .A 9 []) (clockCase 4200000 0 .suspended)).map
      (fun t => (t.race.state, t.time.nClosed, t.time.s0, t.raceClock))
      = some (.green, 1200000, 3000000, 2000000) := by decide

/-- The same case at 3,000,000: SUSPEND from GREEN, suspension epoch 7 to 8. -/
theorem test_suspend :
    (after (.suspend .B 9 []) { clockCase 3000000 0 .green with time.suspensionEpoch := 7 }).map
      (fun t => (t.race.state, t.race.saved, t.time.s0, t.time.suspensionEpoch))
      = some (.suspended, some .green, 3000000, 8) := by decide

/-- Gate 1 of the track at a time, with this stack, last capture and guard reference and a rising edge. -/
def gateCase (now : Time) (stack : List Capture) (last : Option Capture) (ref : Option Time) : State :=
  { racing .green with
    time.session := now, time.green := 0, time.edges := 1
    time.gates := track.time.gates.set 0 ⟨20, ref, stack, last⟩ }

/-- Worked case, one crossing and a chattering strobe: the edge at 100,150 is merged. -/
theorem test_strobe_merged :
    (after (.strobeEdge 0) (gateCase 100150 [cap 100000] none (some 100000))).map
      (fun t => (t.time.gates[0].stack.map Capture.merged, t.time.gates[0].guardRef))
      = some ([1], some 100000) := by decide

/-- The edge at 100,200 is accepted: 200 is not less than 200. -/
theorem test_strobe_accepted :
    (after (.strobeEdge 0) (gateCase 100200 [cap 100000] none (some 100000))).map
      (fun t => (t.time.gates[0].stack.map Capture.time, t.time.gates[0].guardRef))
      = some ([100000, 100200], some 100200) := by decide

/-- The guard reference lapses at 100,400. -/
theorem test_guardReferenceLapse :
    (after (.guardReferenceLapse 0) (gateCase 100400 [cap 100000] none (some 100200))).map
      (fun t => t.time.gates[0].guardRef) = some none := by decide

/-- At 102,200 the capture of 100,200 leaves as a BLANK and is not lent. -/
theorem test_pairingLimit :
    (after (.pairingLimit 0) (gateCase 102200 [cap 100200] (some (cap 100000)) none)).map
      (fun t => (t.time.gates[0].stack, t.time.gates[0].last, t.bus.heads[0].counters[2].count))
      = some ([], none, 1) := by decide

/-- At 102,300 a detection with no capture is an ORPHAN. -/
theorem test_orphan :
    let t := (gateCase 102300 [] none none).takeDetection 0 ⟨0, 1, 3⟩
    (t.former.tallies.orphaned, t.car 1) = (1, some (carOf 1)) := by decide

/-! ## Gate bus (spec/02) -/

/-- Worked case, sharing the line: at run count 3 gate 9 is fetched; at run count 4 the STATUS of head 4 goes first; then
the search goes on from 10 and finds gate 2. -/
theorem test_arbiter :
    (sharing 3).arbitrate.bus.line.map (fun x => (x.gate, x.kind)) = some (8, .fetch) ∧
      (sharing 3).arbitrate.bus.runCount = 4 ∧
      (sharing 4).arbitrate.bus.line.map (fun x => (x.gate, x.kind)) = some (3, .status) ∧
      (sharing 4).arbitrate.bus.runCount = 0 ∧
      ({ sharing 0 with bus.pointer := 9 } : State).arbitrate.bus.line.map Transaction.gate = some 1 := by decide

/-- Worked case, bringing up gate 4: sensor count 6 for four lanes goes to SETUP. -/
theorem test_probe :
    (after (.probe 3 [0, 6]) (onBus 3 .probing .probe)).map
      (fun t => (t.bus.heads[3].state, t.bus.heads[3].reason, t.bus.heads[3].failures))
      = some (.setup, some .probed, 0) := by decide

/-- With sensor count 3 it goes to FAULT (CAPACITY). -/
theorem test_probe_capacity :
    (after (.probe 3 [0, 3]) (onBus 3 .probing .probe)).map
      (fun t => (t.bus.heads[3].state, t.bus.heads[3].reason)) = some (.fault, some .capacity) := by decide

/-- SET_THRESHOLD answered REJECT: the setup starts again, reject count 1. -/
theorem test_setThreshold_rejected :
    (after (.setThreshold 3 [1]) (onBus 3 .setup .setThreshold)).map
      (fun t => (t.bus.heads[3].state, t.bus.heads[3].rejects, t.bus.line.map Transaction.kind))
      = some (.setup, 1, some .setLanes) := by decide

/-- ENABLE acknowledged: SETTLING, settle deadline 5,000 ticks, fetch-pending set. -/
theorem test_enable :
    (after (.enable 3 [0]) (onBus 3 .setup .enable)).map
      (fun t => (t.bus.heads[3].state, t.bus.heads[3].settle, t.bus.heads[3].fetchPending))
      = some (.settling, some ⟨0, 5000⟩, true) := by decide

/-- A second failed attempt is a failed transaction and the same write joins again, failure count 1. -/
theorem test_attempt_fails_twice :
    (after .attemptTimeout { onBus 3 .setup .setThreshold with
        bus.heads := State.reset.bus.heads.set 3 { readyHead with state := .setup }
        bus.line := some ⟨3, .setThreshold, [], true, some ⟨0, 50⟩, false⟩
        time.session := 50 }).map
      (fun t => (t.bus.heads[3].failures, t.bus.line.map (fun x => (x.kind, x.second))))
      = some (1, some (.setThreshold, false)) := by decide

/-- The settle deadline: READY with its status poll. -/
theorem test_settleDeadline :
    (after (.settleDeadline 3) { onBus 3 .settling .fetch with
        bus.heads := State.reset.bus.heads.set 3 { readyHead with state := .settling, settle := some ⟨0, 5000⟩ }
        time.session := 5000 }).map
      (fun t => (t.bus.heads[3].state, t.bus.heads[3].poll)) = some (.ready, some ⟨5000, 25000⟩) := by decide

/-! ## Passages (spec/03) -/

/-- Gate 5 of the worked case at course point 1, with its two captures and car 0x0A37 last at point 0. -/
def fetchCase : State :=
  { State.reset with
    time.session := 500900
    time.gates := State.reset.time.gates.set 4 ⟨20, none, [cap 500000, cap 500300], none⟩
    bus.heads := State.reset.bus.heads.set 4 { readyHead with
      fetchPending := true, lanes := readyHead.lanes.set 3 ⟨5, false, none⟩ }
    bus.line := some ⟨4, .fetch, [], false, none, false⟩
    former.nextId := 41
    race.state := .green
    course.points := [⟨some 0, false, false⟩, ⟨some 4, false, false⟩]
    course.sectors := [Sector.initial, Sector.initial]
    roster.slots := State.reset.roster.slots.set 31 (some { carOf 0x0A37 with
      drive := 3, gridSlot := some 1
      race := { (carOf 0x0A37).race with last := some ⟨0, some 1, cap 300000, 3000⟩ } }) }

/-- The reply of the worked case. -/
def fetchReply : Instr := .fetch 4 [0, 0, 3, 2, 0x37, 0x0A, 3, 4, 0xFF, 0xFF, 0, 3, 0x03, 0xF0, 2]

/-- Worked case, one FETCH reply: the coded passage at point 1 in lane 2, and the ANON passage in lane 4 under id 41. -/
theorem test_fetch_passages :
    (after fetchReply fetchCase).map (fun t => (t.car 0x0A37).bind (fun x => x.race.last.map
        (fun l => (l.point, l.lane, l.capture.time)))) = some (some (1, some 1, 500000)) ∧
      (after fetchReply fetchCase).map (fun t => t.former.list.map (fun r => (r.id, r.lane, r.expiry)))
        = some [(41, some 3, ⟨500300, 3000000⟩)] := by decide

/-- The same: the stuck counter of lane 4 at 6, the stray in the memory, FETCHED up by 3, the flag cleared. -/
theorem test_fetch_accounting :
    (after fetchReply fetchCase).map (fun t => (t.bus.heads[4].lanes[3].count, t.former.stray.map StrayMemory.code))
        = some (6, some 0xF003) ∧
      (after fetchReply fetchCase).map (fun t => (t.bus.heads[4].counters[1].count, t.bus.heads[4].fetchPending))
        = some (3, false) := by decide

/-- The course of the worked case, a prediction, with the two cars. -/
def predictionCase : State :=
  { racing .green with
    time.session := 10000100, time.green := 1000000
    course.points := [⟨some 0, false, false⟩, ⟨some 1, false, false⟩, ⟨some 2, false, false⟩, ⟨some 3, false, false⟩]
    course.sectors := [{ Sector.initial with nominal := 1000 }, { Sector.initial with nominal := 800 },
      { Sector.initial with nominal := 2200 }, { Sector.initial with nominal := 2000 }]
    roster.slots := (State.reset.roster.slots.set 31 (some { carOf 0x0A37 with race := { (carOf 0x0A37).race with
      last := some ⟨0, some 2, cap 9840000, 1⟩, refTicks := some 540000 } })).set 0
        (some { carOf 0x1144 with race := { (carOf 0x1144).race with last := some ⟨1, some 1, cap 9950000, 1⟩ } }) }

/-- Worked case, a prediction: 162,000 ticks with window 40,500 and distance 2,000; 80,000 with window 20,000, which does
not qualify. -/
theorem test_prediction :
    predictedTicks (some 540000) 1800 6000 = 162000 ∧ windowTicks 162000 = 40500 ∧
      predictedTicks none 800 6000 = 80000 ∧ windowTicks 80000 = 20000 ∧
      (predictionCase.candidates 2 (some 2) (cap 10000000)).map (fun a => (a.1.code, a.2)) = [(0x0A37, 2000)] := by
  decide

/-- The list of the worked case, two consoles name one record. -/
def consolesCase : State :=
  { racing .green with
    former.list := [strayAnon 41 500300]
    roster.slots := ((State.reset.roster.slots.set 0 (some (carOf 0x1144))).set 26 (some (carOf 0x2210))) }

/-- Port B's ASSIGN(41, 0x1144) taken first: the record is gone and the passage handed over. -/
theorem test_assign :
    (after (.assign .B 7 [41, 0x44, 0x11]) consolesCase).map
      (fun t => (t.former.list, (t.car 0x1144).bind (fun x => x.race.last.map (fun l => l.capture.time))))
      = some ([], some 500300) := by decide

/-! ## Roster (spec/04) -/

/-- The home slots of the worked cases. -/
theorem test_homeSlot :
    homeSlot 0x0A37 = 31 ∧ homeSlot 0x001F = 31 ∧ homeSlot 0x1144 = 0 ∧ homeSlot 0x2210 = 26 := by decide

/-- The entries of the worked case, entering a field, before any car is entered. -/
def fieldCase : State :=
  { State.reset with
    roster.slots := (((State.reset.roster.slots.set 31 (some (registeredCar 0x0A37 1 3 0))).set 0
      (some (registeredCar 0x1144 2 3 0))).set 64 (some (registeredCar 0x001F 3 7 0))).set 26
        (some (learnedCar 0x2210 0)) }

/-- Worked case, a collision: 0x001F finds home slot 31 taken and goes to slot 64. -/
theorem test_registerCar :
    (after (.registerCar .A 1 [0x1F, 0x00, 5, 0, 9]) { State.reset with
        roster.slots := State.reset.roster.slots.set 31 (some (registeredCar 0x0A37 1 3 0)) }).map
      (fun t => (t.roster.codeAt 31, t.roster.codeAt 64)) = some (some 0x0A37, some 0x001F) := by decide

/-- REMOVE_CAR 0x0A37 empties slot 31 and leaves 0x001F in slot 64. -/
theorem test_removeCar :
    (after (.removeCar .A 1 [0x37, 0x0A]) fieldCase).map
      (fun t => (t.roster.codeAt 31, t.roster.codeAt 64)) = some (none, some 0x001F) := by decide

/-- ENTER 0x0A37 with grid 0: OK, grid 1. -/
theorem test_enter :
    (after (.enter .A 1 [0x37, 0x0A, 0]) fieldCase).map
      (fun t => ((t.car 0x0A37).bind Car.gridSlot, decide (t.answered .A 0x1D 1 .ok [1]))) = some (some 1, true) := by
  decide

/-- ENTER 0x2210, drive slot 0: CONFLICT. -/
theorem test_enter_conflict :
    (after (.enter .A 1 [0x10, 0x22, 0]) fieldCase).map (fun t => decide (t.answered .A 0x1D 1 .conflict []))
      = some true := by decide

/-- The car of the worked case, aged out, at an aging check. -/
def agedCase (now : Time) : State :=
  { State.reset with
    time.session := now, roster.aging := ⟨now - 6000000, 6000000⟩
    roster.slots := State.reset.roster.slots.set 26 (some (learnedCar 0x2210 250400000)) }

/-- At 366,000,000 the age is 115,600,000 and the record is kept; at 372,000,000 it is 121,600,000 and it goes. -/
theorem test_agingCheck :
    (after .agingCheck (agedCase 366000000)).map (fun t => (t.roster.codeAt 26, t.roster.tallyAged))
        = some (some 0x2210, 0) ∧
      (after .agingCheck (agedCase 372000000)).map (fun t => (t.roster.codeAt 26, t.roster.tallyAged))
        = some (none, 1) := by decide

/-! ## Laps (spec/05) -/

/-- The course and the car of the worked case, a run of passages, before the passage at this session time. -/
def lapCase (now : Time) (r : RacePart) : State :=
  { racing .green with
    time.session := now, time.green := 1000000
    course.points := [⟨some 0, false, false⟩, ⟨some 1, false, false⟩, ⟨some 2, false, false⟩, ⟨some 3, false, false⟩]
    course.sectors := [⟨.opened, .none, 700, 1000, 0⟩, ⟨.closed, .none, 500, 800, 0⟩, ⟨.closed, .none, 1200, 2200, 0⟩,
      ⟨.opened, .none, 900, 2000, 0⟩]
    pen.nextId := 7
    roster.slots := State.reset.roster.slots.set 31 (some { carOf 0x0A37 with drive := 3, race := r }) }

/-- A race part with its last passage and lap start in the green of the run. -/
def onLap (q : Nat) (l : Lane) (t : Time) (ls : LapState) (start : Option Time) (missed : Nat) : RacePart :=
  { (carOf 0).race with
    last := some ⟨q, some l, cap t, ((t - 1000000).toNat) / 100⟩, lapState := ls
    lapStart := start.map (fun u => ⟨u, 0, ⟨.green, false, 0, 0⟩⟩), missed := missed }

def runPassage (s : State) (q : Nat) (l : Lane) : State :=
  s.processPassage ⟨0x0A37, q, some l, cap s.time.session, .coded⟩

/-- The passage 0, 2 at 1,535,000: a CUT call, the lap counted at 3,850 ms, eligible, a new lap open. -/
theorem test_lap_counted :
    let t := runPassage (lapCase 1535000 (onLap 2 1 1330000 .openTimed (some 1150000) 0)) 0 1
    t.pen.list.map Penalty.kind = [.cut] ∧
      (t.car 0x0A37).map (fun x => (x.race.counted, x.race.lastLapMs, x.race.bestLapMs))
        = some (1, some 3850, some 3850) ∧
      (t.car 0x0A37).map (fun x => (x.race.refTicks, x.race.lapState, x.race.lapStart.map LapStart.time))
        = some (some 385000, .openTimed, some 1535000) := by decide

/-- The passage 2, 2 at 1,330,000: a LANE call with review deadline 630,000 on the race clock and no cut. -/
theorem test_lane_call :
    let t := runPassage (lapCase 1330000 (onLap 1 2 1250000 .openTimed (some 1150000) 0)) 2 1
    t.pen.list.map (fun r => (r.id, r.kind, r.outcome, r.amount, r.review))
      = [(7, .lane, .lockout, 2, some 630000)] := by decide

/-- The passage 1, 2 at 2,250,000: relocated beyond the tolerance, the lap lost. -/
theorem test_lap_lost :
    let t := runPassage (lapCase 2250000 (onLap 2 1 1800000 .openTimed (some 1535000) 1)) 1 1
    (t.course.tallies.relocated, t.course.tallies.lost) = (1, 1) ∧
      (t.car 0x0A37).map (fun x => (x.race.counted, x.race.lapState, x.race.lapStart))
        = some (0, .openUntimed, none) := by decide

/-- Worked case, a lap across a wrap and a suspension: T is 817,296 ticks and the race ms at its end 55,672. -/
theorem test_lap_across_wrap :
    raceTicksBetween 4294900000 150000 1950000 1350000 = 817296 ∧
      ({ racing .green with time.session := 1950000, time.green := 4290000000 } : State).captureMs
        ⟨1950000, 1350000, ⟨.green, false, 0, 0⟩, 0⟩ = 55672 := by decide

/-- Worked case, de-slot and rejoin: at race clock 900,000 the car goes OFF_TRACK. -/
theorem test_silenceDeadline :
    (after (.silenceDeadline 0x0A37) (lapCase 1900000 { onLap 1 1 1400000 .openTimed none 0 with
        silence := some 900000 })).map
      (fun t => (t.car 0x0A37).map (fun x => (x.race.state, x.race.silence))) = some (some (.offTrack, none)) := by
  decide

/-- The passage at point 2 in lane 3 at race clock 1,650,000: REJOIN, a REJOIN call, silence deadline 2,150,000. -/
theorem test_rejoin :
    let t := runPassage (lapCase 2650000 { onLap 1 1 1400000 .openTimed none 0 with
      state := .offTrack, silence := none }) 2 2
    ((t.car 0x0A37).map (fun x => (x.race.state, x.race.silence)), t.pen.list.map Penalty.kind)
      = (some (.running, some 2150000), [.rejoin]) := by decide

/-! ## Race states (spec/06) -/

/-- Worked case, a countdown: step 6 begins at v = 40,337 with extension 137, so 137,000 ticks. -/
theorem test_stepDeadline :
    (after .stepDeadline { track with
        race.state := .countdown, race.step := some ⟨5, ⟨50400000, 100000⟩⟩, time.session := 50500000
        time.rng := 40337 }).map (fun t => (t.race.step, t.race.lamps))
      = some (some ⟨6, ⟨50500000, 137000⟩⟩, 0x1F) := by decide

/-- At 50,637,000 step 6 expires: the green moment. -/
theorem test_green_moment :
    (after .stepDeadline { track with
        race.state := .countdown, race.step := some ⟨6, ⟨50500000, 137000⟩⟩, time.session := 50637000 }).map
      (fun t => (t.race.state, t.time.green, t.race.lamps, t.power.trackEnable))
      = some (.green, 50637000, 0x20, true) := by decide

/-- Worked case, a suspension edited from the marshal's desk, at the row 20,400,000. -/
def deskCase : State :=
  { racing .suspended with
    time.session := 20400000, time.green := 10000000, time.s0 := 20000000, time.cautionEpoch := 4
    race.saved := some .green }

/-- CAUTION from port B: saved CAUTION, caution epoch 5, race clock still 10,000,000. -/
theorem test_caution_suspended :
    (after (.caution .B 1 []) deskCase).map
      (fun t => (t.race.state, t.race.saved, t.time.cautionEpoch, t.raceClock))
      = some (.suspended, some .caution, 5, 10000000) := by decide

/-- CLOSE at 21,000,000: N_closed grows by 1,000,000 and the clock is latched at 10,000,000. -/
theorem test_close :
    (after (.close .A 1 []) { deskCase with time.session := 21000000 }).map
      (fun t => (t.race.state, t.time.nClosed, t.time.latched)) = some (.closed, 1000000, some 10000000) := by decide

/-- RESUME with the link DOWN: NOT_READY. -/
theorem test_resume_notReady :
    (after (.resume .A 1 []) { deskCase with power.linkUp := false }).map
      (fun t => (t.race.state, decide (t.answered .A 0x0A 1 .notReady []))) = some (.suspended, true) := by decide

/-! ## Penalties (spec/07) -/

/-- The LANE record of the worked case, a lane call served by lockout. -/
def laneCall (st : PenaltyState) : Penalty :=
  ⟨7, .lane, 0x0A37, some (2, some 1), 3300, st, .lockout, 2, some .autoConfirm, 5,
    if st = .review then some 630000 else none, none, if st = .confirmed then some 0 else none, none, none⟩

/-- At race clock 630,000 AUTO_CONFIRM confirms it as head at 0 laps. -/
theorem test_reviewDeadlineExpiry :
    (after (.reviewDeadlineExpiry 7) { lapCase 1630000 (onLap 0 1 1535000 .openTimed (some 1535000) 0) with
        pen.list := [laneCall .review] }).map
      (fun t => (t.penalty 7).map (fun r => (r.state, r.lapsAsHead, r.decided)))
      = some (some (.confirmed, some 0, some .auto)) := by decide

/-- At race clock 1,700,000 lap 2 begins the lockout with 2 laps remaining. -/
theorem test_lockout_begins :
    let s := { lapCase 2700000 (onLap 3 1 2600000 .openTimed (some 1535000) 0) with pen.list := [laneCall .confirmed] }
    ((runPassage s 0 1).penalty 7).map (fun r => (r.state, r.lockoutLeft)) = some (.serving, some 2) := by decide

/-- The CUT record of the worked case, two consoles and a deadline, at race clock 4,000,000. -/
def deadlineCase (st : PenaltyState) (o : PenaltyOutcome) (d : Option Decider) : State :=
  { racing .green with
    time.session := 4100000
    pen.list := [⟨12, .cut, 1, some (1, some 0), 300, st, o, 3, some .autoConfirm, 10, some 4000000, d, none, none, none⟩] }

/-- Port B's CONFIRM 12 with TIME 3 s: SERVED, decided by B, the total up by 3. -/
theorem test_confirm :
    (after (.confirm .B 1 [12, 0, 3]) (deadlineCase .review .driveThrough none)).map
        (fun t => (t.penalty 12).map (fun r => (r.state, r.outcome, r.amount)))
        = some (some (.served, .time, 3)) ∧
      (after (.confirm .B 1 [12, 0, 3]) (deadlineCase .review .driveThrough none)).map
        (fun t => (t.car 1).map (fun x => x.race.timePenalty)) = some (some 3) := by decide

/-- Port A's WAIVE first: then the CONFIRM is answered ALREADY_DECIDED, state WAIVED. -/
theorem test_confirm_decided :
    (after (.confirm .B 1 [12, 0, 3]) (deadlineCase .waived .driveThrough (some .portA))).map
      (fun t => decide (t.answered .B 0x25 1 .alreadyDecided [4, 2])) = some true := by decide

/-- Port A's WAIVE of the served TIME record takes its 3 s back. -/
theorem test_waive :
    (after (.waive .A 1 [12]) { deadlineCase .served .time (some .portB) with
        roster.slots := track.roster.slots.set 1 (some { carOf 1 with race := { (carOf 1).race with timePenalty := 3 } }) }).map
      (fun t => ((t.penalty 12).map Penalty.state, (t.car 1).map (fun x => x.race.timePenalty)))
      = some (some .waived, some 0) := by decide

/-- Worked case, a stop-go: its end at race clock 2,200,000 restarts the silence deadline at 2,700,000. -/
theorem test_stopGoEnd :
    (after (.stopGoEnd 20) { racing .green with
        time.session := 2300000
        pen.list := [⟨20, .cautionLane, 1, some (3, some 6), 1, .serving, .stopGo, 3, some .autoConfirm, 10, none, none,
          some 0, some 2200000, none⟩] }).map
      (fun t => ((t.penalty 20).map Penalty.state, (t.car 1).bind (fun x => x.race.silence)))
      = some (some .served, some 2700000) := by decide

/-! ## Permits and the power link (spec/08) -/

/-- A race with car 1 serving a lockout and last seen in this lane. -/
def rowCase (r : RaceState) (l : Lane) (pens : List Penalty) : State :=
  { racing r with
    pen.list := pens
    roster.slots := track.roster.slots.set 1 (some { carOf 1 with race := { (carOf 1).race with
      last := some ⟨0, some l, cap 200000, 1⟩ } }) }

/-- Worked case, one car's row through a race: green, lockout begun, caution, lane P, lockout served, lift. -/
theorem test_rowOf :
    (rowCase .green 1 []).rowOf 0 = ⟨63, true, .none⟩ ∧
      (rowCase .green 1 [callOf 5 .serving .lockout]).rowOf 0 = ⟨63, false, .serving⟩ ∧
      (rowCase .caution 1 [callOf 5 .serving .lockout]).rowOf 0 = ⟨20, false, .serving⟩ ∧
      (rowCase .caution 6 [callOf 5 .serving .lockout]).rowOf 0 = ⟨15, false, .serving⟩ ∧
      (rowCase .caution 6 [callOf 5 .served .lockout]).rowOf 0 = ⟨15, false, .none⟩ ∧
      (rowCase .green 6 [callOf 5 .served .lockout]).rowOf 0 = ⟨15, true, .none⟩ := by decide

/-- Worked case, the link falls silent: at 5,010,000 the race is SUSPENDED and the line low. -/
theorem test_linkSilenceDeadline :
    (after .linkSilenceDeadline { racing .green with
        time.session := 5010000, power.silence := some ⟨5000000, 10000⟩, power.trackEnable := true }).map
      (fun t => (t.power.linkUp, t.power.tallyLinkLosses, t.race.state, t.race.reason, t.power.trackEnable))
      = some (false, 1, .suspended, .link, false) := by decide

/-- At 5,700,000 a poll with FAULT is reported BASE, and answered with the rows of SUSPENDED. -/
theorem test_pbPoll :
    (after (.pbPoll 4 [2]) { racing .green with
        time.session := 5700000, power.rows := track.power.rows.set 0 ⟨63, true, .none⟩ }).map
      (fun t => (t.race.state, t.race.reason, t.power.sending.map (fun f => f.take 9)))
      = some (.suspended, .base, some [0xC3, 66, 0x61, 4, 1, 0, 0, 0, 0]) := by decide

/-! ## Standings (spec/09) -/

/-- The keys of the short race at 5,900, the penalty of 0x1144 just served. -/
def shortRace (laps : Nat) (a b c : Nat) : State :=
  { racing .green with
    roster.slots := ((State.reset.roster.slots.set 31 (some { carOf 0x0A37 with
        gridSlot := some 1, race := { (carOf 1).race with counted := laps, lastCountedMs := a } })).set 0
      (some { carOf 0x1144 with
        gridSlot := some 2, race := { (carOf 1).race with counted := laps, lastCountedMs := b, timePenalty := 5 } })).set 64
      (some { carOf 0x001F with
        gridSlot := some 4, race := { (carOf 1).race with counted := laps, lastCountedMs := c } })
    stand := ⟨[⟨0x1144, laps, b, 2⟩, ⟨0x0A37, laps, a, 1⟩, ⟨0x001F, laps, c, 4⟩], true, false, 0⟩ }

/-- Worked case, a short race: at 5,900 and at the classification. -/
theorem test_standings :
    ((shortRace 1 4250 4100 4400).resort .penalty).stand.list.map (fun e => (e.code, e.time))
        = [(0x0A37, 4250), (0x001F, 4400), (0x1144, 9100)] ∧
      ((shortRace 2 8300 8350 8600).resort .lap).stand.list.map (fun e => (e.code, e.time))
        = [(0x0A37, 8300), (0x001F, 8600), (0x1144, 13350)] := by decide

/-! ## Console ports (spec/10) -/

/-- Worked case, on hold across a wrap: at the 257th notice the cursor moves to 65,401 and one notice is lost. -/
theorem test_overrun :
    let p : Port := { Port.reset false with cursor := 65400 }
    let q := p.overrun ⟨[], 120⟩
    ((p.overrun ⟨[], 119⟩).lost, q.cursor, q.lost, q.counters.noticesLost) = (0, 65401, 1, 1) := by decide

/-- Worked case, a console that does not wait: QUERY_RACE completes while the reply is sent and joins TAG 11. -/
theorem test_busy :
    (after (.busy .A 0x2E 12 []) { racing .green with
        portA := { Port.reset false with engaged := true, tx := some ⟨.reply, [1]⟩, busyList := [11] } }).map
      (fun t => (t.portA.busyList, t.portA.engaged)) = some ([11, 12], true) := by decide

/-- The reply ends: the port is free and BUSY TAG 11 begins. That the TAG has then left the list is
notes/assumptions/35.md. -/
theorem test_transmitEnd :
    (after (.transmitEnd .A) { racing .green with
        portA := { Port.reset false with engaged := true, tx := some ⟨.reply, [1]⟩, busyList := [11, 12] } }).map
      (fun t => (t.portA.busyList, t.portA.engaged, t.portA.tx))
      = some ([12], false, some ⟨.busy, [0xC3, 0, 0x71, 11, 0x84]⟩) := by decide

/-- HOLD(3,000): the port is held for 30 s. -/
theorem test_hold :
    (after (.hold .B 1 [0xB8, 0x0B]) (racing .green)).map (fun t => t.portB.hold.map Timer.len) = some (some 3000000) := by
  decide

/-! ## Witnesses: one theorem per statement with hypotheses, every clause of it in turn -/

theorem of_some {α : Type} {o : Option α} {P : α → Prop} [DecidablePred P] (h : o.all (fun x => decide (P x)) = true) :
    ∀ x, o = some x → P x := by
  intro x hx
  subst hx
  simpa using h

theorem witness_StrobeEdges :
    ∃ (g : Gate) (s : State), s.time.edges.getLsbD g.val = true ∧ s.bus.heads[g].state = .ready ∧ (s.usesGate g = true
      ∨ s.race.state = .practice) ∧ (∀ r, s.time.gates[g].guardRef = some r → s.time.gates[g].guardUnits * 10 ≤
      (s.time.session - r).toNat) ∧ s.time.gates[g].stack.length < 4 :=
  ⟨0,
    { track with
      time.edges := 1, time.session := 1000
      time.gates := track.time.gates.set 0 ⟨20, some 800, [], none⟩ },
    by decide, by decide, by decide, of_some (by decide), by decide⟩

theorem witness_StrobeEdges_notAccepted :
    (∃ (g : Gate) (s : State) (r : Time), s.time.edges.getLsbD g.val = true ∧ s.bus.heads[g].state = .ready ∧
       (s.usesGate g = true ∨ s.race.state = .practice) ∧ s.time.gates[g].guardRef = some r ∧ (s.time.session - r).toNat
       < s.time.gates[g].guardUnits * 10) ∧
    (∃ (g : Gate) (s : State), s.time.edges.getLsbD g.val = true ∧ s.bus.heads[g].state = .ready ∧ (s.usesGate g =
       true ∨ s.race.state = .practice) ∧ (∀ r, s.time.gates[g].guardRef = some r → s.time.gates[g].guardUnits * 10 ≤
       (s.time.session - r).toNat) ∧ 4 ≤ s.time.gates[g].stack.length) ∧
    (∃ (g : Gate) (s : State), s.time.edges.getLsbD g.val = true ∧ (s.bus.heads[g].state = .settling ∨
       s.bus.heads[g].state = .pattern)) ∧
    (∃ (g : Gate) (s : State), s.time.edges.getLsbD g.val = true ∧ (s.bus.heads[g].state = .off ∨ s.bus.heads[g].state
       = .probing ∨ s.bus.heads[g].state = .setup ∨ s.bus.heads[g].state = .fault ∨ s.bus.heads[g].state = .ready ∧
       s.usesGate g = false ∧ s.race.state ≠ .practice)) :=
  ⟨⟨0, wMerge, 90, by decide, by decide, by decide, by decide, by decide⟩,
    ⟨0, wLost, by decide, by decide, by decide, of_some (by decide), by decide⟩,
    ⟨2, { onBus 2 .settling .fetch with time.edges := 4 }, by decide, by decide⟩,
    ⟨2, { onBus 2 .setup .setLanes with time.edges := 4 }, by decide, by decide⟩⟩

theorem witness_Lapses :
    (∃ (g : Gate) (s : State) (r : Time), s.time.gates[g].guardRef = some r ∧ s.time.gates[g].guardUnits * 10 ≤
       (s.time.session - r).toNat) ∧
    (∃ (g : Gate) (s : State) (c : Capture), s.time.gates[g].last = some c ∧ 2000 ≤ (s.time.session - c.time).toNat) :=
  ⟨⟨0, wLost, 90, by decide, by decide⟩,
    ⟨0, wLast, cap 1800, by decide, by decide⟩⟩

theorem witness_BlankReleased :
    ∃ (g : Gate) (s : State) (c : Capture) (rest : List Capture), s.time.gates[g].stack = c :: rest ∧ 2000 ≤
      (s.time.session - c.time).toNat :=
  ⟨0, wLast, cap 1900, [cap 2900], by decide, by decide⟩

theorem witness_Attempts :
    (∃ (s : State) (x : Transaction), s.bus.line = some x ∧ x.wait = none) ∧
    (∃ (s : State) (x : Transaction) (w : Timer) (payload : List Byte), s.bus.line = some x ∧ x.second = false ∧
       x.wait = some w ∧ s.reached w ∧ busReplyOf x.kind payload = none) ∧
    (∃ (s : State) (x : Transaction) (c : Instr), s.bus.line = some x ∧ x.second = true ∧ x.discarded = false ∧
       s.attemptFails x c ∧ 2 ≤ s.bus.heads[x.gate].failures ∧ s.bus.heads[x.gate].state ≠ .fault) ∧
    (∃ (s : State) (x : Transaction) (c : Instr), s.bus.line = some x ∧ x.second = true ∧ x.discarded = true ∧
       s.attemptFails x c) :=
  ⟨⟨{ State.reset with bus.line := some ⟨2, .probe, [], false, none, false⟩ }, ⟨2, .probe, [], false, none, false⟩,
      by decide, by decide⟩,
    ⟨{ State.reset with bus.line := some ⟨2, .probe, [], false, some ⟨0, 50⟩, false⟩, time.session := 50 },
      ⟨2, .probe, [], false, some ⟨0, 50⟩, false⟩, ⟨0, 50⟩, [0, 8], by decide, by decide, by decide, by decide,
      by decide⟩,
    ⟨wFail .ready 2, ⟨2, .fetch, [], true, some ⟨0, 50⟩, false⟩, .badSumReply, by decide, by decide, by decide,
      .inl rfl, by decide, by decide⟩,
    ⟨{ wFail .ready 2 with bus.line := some ⟨2, .probe, [], true, none, true⟩ }, ⟨2, .probe, [], true, none, true⟩,
      .badSumReply, by decide, by decide, by decide, .inl rfl⟩⟩

theorem witness_Attempts_below_three :
    (∃ (s : State) (x : Transaction) (c : Instr), s.bus.line = some x ∧ x.second = true ∧ x.discarded = false ∧
       s.attemptFails x c ∧ s.bus.heads[x.gate].failures < 2 ∧ (s.bus.heads[x.gate].state, x.kind) ∈
       [(.probing, .probe), (.setup, .setLanes), (.setup, .setThreshold), (.setup, .enable), (.pattern, .patternOn),
       (.pattern, .patternOff)]) ∧
    (∃ (s : State) (x : Transaction) (c : Instr) (k : GateCheck), s.bus.line = some x ∧ x.second = true ∧
       x.discarded = false ∧ s.attemptFails x c ∧ s.bus.heads[x.gate].failures < 2 ∧ s.bus.check = some k ∧
       k.gate = x.gate ∧ (x.kind = .patternOn ∨ x.kind = .checkFetch ∨ x.kind = .patternOff)) :=
  ⟨⟨{ wFail .setup 1 with
        bus.line := some ⟨2, .setThreshold, [], true, some ⟨0, 50⟩, false⟩, time.session := 50 },
      ⟨2, .setThreshold, [], true, some ⟨0, 50⟩, false⟩, .attemptTimeout, by decide, by decide, by decide,
      .inr (.inl ⟨rfl, ⟨0, 50⟩, rfl, by decide⟩), by decide, by decide⟩,
    ⟨{ wCheck .checkFetch 3 with bus.line := some ⟨2, .checkFetch, [], true, none, false⟩ },
      ⟨2, .checkFetch, [], true, none, false⟩, .checkFetch 2 [5], ⟨2, 7, 1, 2, 3⟩, by decide, by decide, by decide,
      .inr (.inr ⟨[5], by decide, rfl⟩), by decide, by decide, by decide, by decide⟩⟩

theorem witness_HeadBringUp :
    ∃ (g : Gate) (s : State) (n : Nat), s.onLine g .probe ∧ 2 ≤ n ∧ n ≤ 7 ∧ (s.bus.heads[g].state = .probing ∨
      s.bus.heads[g].state = .fault) :=
  ⟨2, onBus 2 .probing .probe, 4, ⟨_, rfl, rfl, rfl, rfl⟩, by decide, by decide, by decide⟩

theorem witness_HeadBringUp_writes :
    (∃ (g : Gate) (s : State), s.onLine g .setLanes) ∧
    (∃ (g : Gate) (s : State), s.onLine g .setThreshold) ∧
    (∃ (g : Gate) (s : State), s.onLine g .enable) ∧
    (∃ (g : Gate) (s : State) (c : Instr) (k : BusKind), (c, k) ∈ [(.setLanes g [1], .setLanes), (.setThreshold g [1],
       .setThreshold), (.enable g [1], .enable)] ∧ s.onLine g k) :=
  ⟨⟨2, onBus 2 .setup .setLanes, ⟨_, rfl, rfl, rfl, rfl⟩⟩,
    ⟨2, onBus 2 .setup .setThreshold, ⟨_, rfl, rfl, rfl, rfl⟩⟩,
    ⟨2, onBus 2 .setup .enable, ⟨_, rfl, rfl, rfl, rfl⟩⟩,
    ⟨2, onBus 2 .setup .setLanes, .setLanes 2 [1], .setLanes, by decide, ⟨_, rfl, rfl, rfl, rfl⟩⟩⟩

theorem witness_StatusAndTimers :
    (∃ (g : Gate) (s : State), s.onLine g .status) ∧
    (∃ (g : Gate) (s : State) (payload : List Byte), s.onLine g .status ∧ (payload = [1] ∨ ∃ o, payload = [0, 0, o])) :=
  ⟨⟨2, onBus 2 .ready .status, ⟨_, rfl, rfl, rfl, rfl⟩⟩,
    ⟨2, onBus 2 .ready .status, [1], ⟨_, rfl, rfl, rfl, rfl⟩, .inl rfl⟩⟩

theorem witness_FetchReplies :
    (∃ (g : Gate) (s : State) (payload : List Byte) (o : Nat) (dets : List Detection), s.onLine g .fetch ∧
       s.bus.heads[g].state = .ready ∧ busReplyOf .fetch payload = some (.detections o dets)) ∧
    (∃ (g : Gate) (s : State) (payload : List Byte) (o : Nat) (dets : List Detection), s.onLine g .fetch ∧
       s.bus.heads[g].state = .settling ∧ busReplyOf .fetch payload = some (.detections o dets)) ∧
    (∃ (g : Gate) (s : State), s.onLine g .fetch ∧ (s.bus.heads[g].state = .settling ∨ s.bus.heads[g].state = .ready)) :=
  ⟨⟨2, wFetch, [0, 3, 1, 1, 5, 0, 3], 3, [⟨0, 5, 3⟩], ⟨_, rfl, rfl, rfl, rfl⟩, by decide, by decide⟩,
    ⟨2, onBus 2 .settling .fetch, [0, 0, 0], 0, [], ⟨_, rfl, rfl, rfl, rfl⟩, by decide, by decide⟩,
    ⟨2, onBus 2 .settling .fetch, ⟨_, rfl, rfl, rfl, rfl⟩, by decide⟩⟩

theorem witness_GateCheckChain :
    (∃ (g : Gate) (s : State), s.onLine g .patternOn) ∧
    (∃ (g : Gate) (s : State) (c : GateCheck) (payload : List Byte) (o : Nat) (dets : List Detection), s.onLine g
       .checkFetch ∧ s.bus.check = some c ∧ c.gate = g ∧ busReplyOf .checkFetch payload = some (.detections o dets)) ∧
    (∃ (g : Gate) (s : State) (c : GateCheck), s.onLine g .patternOff ∧ s.bus.check = some c ∧ c.gate = g ∧
       s.portA.engaged = true) :=
  ⟨⟨2, onBus 2 .pattern .patternOn, ⟨_, rfl, rfl, rfl, rfl⟩⟩,
    ⟨2, wCheck .checkFetch 3, ⟨2, 7, 1, 2, 3⟩, [0, 0, 0], 0, [], ⟨_, rfl, rfl, rfl, rfl⟩, by decide, by
      decide, by decide⟩,
    ⟨2, wCheck .patternOff 16, ⟨2, 7, 1, 2, 16⟩, ⟨_, rfl, rfl, rfl, rfl⟩, by decide, by decide, by decide⟩⟩

theorem witness_StatusAndTimers_timers :
    (∃ (g : Gate) (s : State) (w : Timer), s.bus.heads[g].settle = some w ∧ w.len ≤ (s.time.session - w.start).toNat) ∧
    (∃ (g : Gate) (s : State) (w : Timer), s.bus.heads[g].poll = some w ∧ w.len ≤ (s.time.session - w.start).toNat) ∧
    (∃ (g : Gate) (s : State) (w : Timer), s.bus.heads[g].faultProbe = some w ∧ w.len ≤ (s.time.session -
       w.start).toNat) :=
  ⟨⟨2, wTimers, ⟨0, 5000⟩, by decide, by decide⟩,
    ⟨2, wTimers, ⟨0, 25000⟩, by decide, by decide⟩,
    ⟨2, wTimers, ⟨0, 100000⟩, by decide, by decide⟩⟩

theorem witness_GateRequests :
    (∃ (g : Gate) (s : State) (tag m th gu : Byte), s.takes .A 0x13 tag [gateByte g, m, th, gu] ∧ 0 < m.toNat ∧
       m.toNat < 128 ∧ (s.race.state = .idle ∨ s.race.state = .practice) ∧ s.usesGate g = false) ∧
    (∃ (g : Gate) (s : State) (tag : Byte), s.takes .A 0x14 tag [gateByte g] ∧ (s.race.state = .idle ∨ s.race.state =
       .practice) ∧ s.usesGate g = false ∧ s.bus.heads[g].state ≠ .off) ∧
    (∃ (g : Gate) (s : State) (tag : Byte), s.takes .A 0x15 tag [gateByte g] ∧ (s.race.state = .idle ∨ s.race.state =
       .practice) ∧ s.bus.heads[g].state = .ready) :=
  ⟨⟨3, State.reset, 5, 0x8, 200, 0, by decide, by decide, by decide, by decide, by decide⟩,
    ⟨3, { onBus 3 .ready .fetch with course.points := [] }, 5, by decide, by decide, by decide, by decide⟩,
    ⟨3, onBus 3 .ready .fetch, 5, by decide, by decide, by decide⟩⟩

theorem witness_GateRequests_counters :
    (∃ (g : Gate) (i : Fin 3) (b : Byte) (o : CounterObject) (s : State) (tag : Byte), s.takes .A 0x16 tag [gateByte
       g, BitVec.ofNat 8 (i.val + 1), b] ∧ counterObjectOf b = some o) ∧
    (∃ (g : Gate) (s : State) (tag : Byte), s.takes .A 0x17 tag [gateByte g]) ∧
    (∃ (g : Gate) (l : Lane) (s : State) (tag : Byte), s.takes .A 0x18 tag [gateByte g, BitVec.ofNat 8 (l.val + 1)] ∧
       s.bus.heads[g].lanes[l].stuck = true) :=
  ⟨⟨3, 1, 4, .blanks, State.reset, 5, by decide, by decide⟩,
    ⟨3, State.reset, 5, by decide⟩,
    ⟨2, 1, wStuck, 5, by decide, by decide⟩⟩

theorem witness_Lapses_passages :
    (∃ (g : Gate) (l : Lane) (s : State) (w : Timer), s.bus.heads[g].lanes[l].quiet = some w ∧ s.reached w) ∧
    (∃ (s : State) (m : StrayMemory), s.former.stray = some m ∧ s.reached m.lapse) ∧
    (∃ (s : State) (id : Nat) (r : Unattr), s.unattr id = some r ∧ s.reached r.expiry) :=
  ⟨⟨2, 1, wStuck, ⟨0, 200000⟩, by decide, by decide⟩,
    ⟨{ State.reset with former.stray := some ⟨5, ⟨0, 1000000⟩⟩, time.session := 1000000 }, ⟨5, ⟨0, 1000000⟩⟩, by
      decide, by decide⟩,
    ⟨wUn, 3, strayAnon 3 200000, by decide, by decide⟩⟩

theorem witness_Discard :
    (∃ (p : PortId) (s : State) (tag : Byte), s.takes p 0x23 tag [0]) ∧
    (∃ (p : PortId) (s : State) (tag b : Byte), s.takes p 0x23 tag [b] ∧ b ≠ 0 ∧ (∀ r ∈ s.former.list, r.id ≠ b.toNat)) ∧
    (∃ (p : PortId) (s : State) (tag b : Byte) (r : Unattr), s.takes p 0x23 tag [b] ∧ b ≠ 0 ∧ s.unattr b.toNat = some
       r) ∧
    (∃ (p : PortId) (s : State) (tag b : Byte) (c : Code), s.takes p 0x22 tag (b :: codeBytes c) ∧ b ≠ 0 ∧ validCode c
       = true ∧ s.race.state.assignable = true ∧ (∀ r ∈ s.former.list, r.id ≠ b.toNat)) :=
  ⟨⟨.B, State.reset, 5, by decide⟩,
    ⟨.B, wUn, 5, 9, by decide, by decide, by decide⟩,
    ⟨.B, wUn, 5, 4, strayAnon 4 400000, by decide, by decide, by decide⟩,
    ⟨.A, wUn, 5, 9, 1, by decide, by decide, by decide, by decide, by decide⟩⟩

theorem witness_AssignRules :
    (∃ (p : PortId) (s : State) (tag b : Byte) (c : Code) (r : Unattr) (x : Car), s.takes p 0x22 tag (b :: codeBytes
       c) ∧ b ≠ 0 ∧ validCode c = true ∧ s.race.state.assignable = true ∧ s.unattr b.toNat = some r ∧ s.car c = some x ∧
       s.mayTake x = true ∧ (x.race.state = .running ∨ x.race.state = .offTrack) ∧ (∀ l, x.race.last = some l →
       s.sinceGreen l.capture.time ≤ s.sinceGreen r.capture.time)) ∧
    (∃ (p : PortId) (s : State) (tag b : Byte) (c : Code) (r : Unattr) (x : Car) (l : LastPassage), s.takes p 0x22 tag
       (b :: codeBytes c) ∧ b ≠ 0 ∧ validCode c = true ∧ s.race.state.assignable = true ∧ s.unattr b.toNat = some r ∧
       s.car c = some x ∧ s.mayTake x = true ∧ (x.race.state = .running ∨ x.race.state = .offTrack) ∧ x.race.last = some
       l ∧ s.sinceGreen r.capture.time < s.sinceGreen l.capture.time) :=
  ⟨⟨.A, wUn, 5, 4, 1, strayAnon 4 400000, carOf 1, by decide, by decide, by decide, by decide, by decide,
      by decide, by decide, by decide, of_some (by decide)⟩,
    ⟨.A, wStale, 5, 4, 1, strayAnon 4 400000,
      { carOf 1 with race := { (carOf 1).race with last := some ⟨0, none, cap 500000, 9⟩ } }, ⟨0, none, cap 500000, 9⟩,
      by decide, by decide, by decide, by decide, by decide, by decide, by decide, by decide, by decide, by decide⟩⟩

theorem witness_RosterRequests :
    (∃ (s : State) (tag : Byte) (c : Code) (n d : Nat) (i : Slot), s.takes .A 0x19 tag (codeBytes c ++ u16 n ++ u8 d)
       ∧ validCode c = true ∧ 1 ≤ n ∧ n ≤ 999 ∧ d ≤ 32 ∧ (s.race.state = .idle ∨ s.race.state = .practice) ∧ (∀ j :
       Slot, s.roster.codeAt j ≠ some c) ∧ s.roster.slots[i] = none ∧ (i = homeSlot c ∨ s.roster.slots[homeSlot c] ≠
       none ∧ 64 ≤ i.val ∧ ∀ j : Slot, 64 ≤ j.val → j.val < i.val → s.roster.slots[j] ≠ none)) ∧
    (∃ (s : State) (tag : Byte) (c : Code) (n d : Nat) (i : Slot) (x : Car), s.takes .A 0x19 tag (codeBytes c ++ u16 n
       ++ u8 d) ∧ validCode c = true ∧ 1 ≤ n ∧ n ≤ 999 ∧ d ≤ 32 ∧ (s.race.state = .idle ∨ s.race.state = .practice) ∧
       s.roster.find c = some i ∧ s.roster.slots[i] = some x) ∧
    (∃ (s : State) (tag : Byte) (c : Code) (n d : Nat), s.takes .A 0x19 tag (codeBytes c ++ u16 n ++ u8 d) ∧ validCode
       c = true ∧ 1 ≤ n ∧ n ≤ 999 ∧ d ≤ 32 ∧ (s.race.state = .idle ∨ s.race.state = .practice) ∧ (∀ j : Slot,
       s.roster.codeAt j ≠ some c) ∧ s.roster.slots[homeSlot c] ≠ none ∧ (∀ j : Slot, 64 ≤ j.val → s.roster.slots[j] ≠
       none)) ∧
    (∃ (s : State) (tag : Byte) (c : Code) (i : Slot) (x : Car), s.takes .A 0x1A tag (codeBytes c) ∧ validCode c =
       true ∧ s.roster.find c = some i ∧ s.roster.slots[i] = some x) :=
  ⟨⟨State.reset, 5, 0x0102, 7, 0, 6, by decide, by decide, by decide, by decide, by decide, by decide, by decide, by
      decide, by decide⟩,
    ⟨{ State.reset with roster.slots := State.reset.roster.slots.set 9 (some learned) }, 5, 9, 44, 3, 9, learned, by
      decide, by decide, by decide, by decide, by decide, by decide, by decide, by decide⟩,
    ⟨full, 5, 0x0040, 44, 3, by decide, by decide, by decide, by decide, by decide, by decide, by decide,
      by decide, by decide⟩,
    ⟨full, 5, 1, 1, carOf 1, by decide, by decide, by decide, by decide⟩⟩

theorem witness_AgeLimit :
    (∃ (s : State) (tag b : Byte), s.takes .A 0x1C tag [b]) ∧
    (∃ (s : State) (i : Slot) (x : Car), s.reached s.roster.aging ∧ s.roster.slots[i] = some x ∧ x.origin = .learned ∧
       x.entered = false) ∧
    (∃ (limit : Nat), limit ≤ 255) :=
  ⟨⟨State.reset, 5, 0, by decide⟩,
    ⟨aging, 9, learned, by decide, by decide, by decide, by decide⟩,
    ⟨255, by decide⟩⟩

theorem witness_RosterRequests_learning :
    (∃ (s : State) (tag : Byte) (on : Bool), s.takes .A 0x1B tag [if on then 1 else 0]) ∧
    (∃ (s : State), s.reached s.roster.aging) :=
  ⟨⟨State.reset, 5, true, by decide⟩,
    ⟨aging, by decide⟩⟩

theorem witness_EntryRequests :
    (∃ (s : State) (tag : Byte) (c : Code) (grid : Nat) (x : Car), s.takes .A 0x1D tag (codeBytes c ++ u8 grid) ∧
       validCode c = true ∧ grid ≤ 32 ∧ s.race.state = .idle ∧ s.car c = some x ∧ x.entered = false ∧ s.cars.countP
       Car.entered < 32 ∧ 1 ≤ x.drive ∧ (∀ y ∈ s.cars, y.entered = true → y.drive ≠ x.drive) ∧ (∀ y ∈ s.cars, y.entered
       = true → grid ≠ 0 → y.gridSlot ≠ some grid)) ∧
    (∃ (s : State) (tag : Byte) (c : Code) (x : Car), s.takes .A 0x1E tag (codeBytes c) ∧ validCode c = true ∧
       s.race.state = .idle ∧ s.car c = some x ∧ x.entered = true) :=
  ⟨⟨idle1, 5, 1, 0, { carOf 1 with entered := false, gridSlot := none }, by decide, by decide, by decide,
      by decide, by decide, by decide, by decide, by decide, by decide, by decide⟩,
    ⟨idle1, 5, 2, carOf 2, by decide, by decide, by decide, by decide, by decide⟩⟩

theorem witness_RetireAndAdjust :
    ∃ (s : State) (tag : Byte) (c : Code) (x : Car), s.takes .A 0x1F tag (codeBytes c) ∧ validCode c = true ∧
      s.race.state.racing = true ∧ s.car c = some x ∧ x.entered = true ∧ x.race.state ≠ .retired ∧ x.race.state ≠
      .finished :=
  ⟨racing .green, 5, 1, carOf 1, by decide, by decide, by decide, by decide, by decide, by decide, by
    decide⟩

theorem witness_RetireAndAdjust_adjust :
    ∃ (s : State) (tag d : Byte) (c : Code) (x : Car), s.takes .A 0x20 tag (codeBytes c ++ [d]) ∧ validCode c = true ∧
      s.race.state.racing = true ∧ s.car c = some x ∧ x.entered = true :=
  ⟨racing .green, 5, 0xFE, 1, carOf 1, by decide, by decide, by decide, by decide, by decide⟩

theorem witness_CourseEdits :
    (∃ (s : State) (tag b : Byte) (n : Nat), s.takes .A 0x10 tag [b] ∧ (s.race.state = .idle ∨ s.race.state =
       .practice) ∧ n = max 2 (min 12 b.toNat)) ∧
    (∃ (s : State) (tag : Byte) (i : Nat) (gate : Option Gate) (serving pit : Bool) (payload : List Byte), payload =
       [BitVec.ofNat 8 i, (match gate with | some g => gateByte g | none => 0), if serving then 1 else 0, if pit then 1
       else 0] ∧ s.takes .A 0x11 tag payload ∧ (s.race.state = .idle ∨ s.race.state = .practice) ∧ i < 12 ∧ i <
       s.course.points.length ∧ (∀ g, gate = some g → s.bus.heads[g].state ≠ .off ∧ ∀ j q, s.course.points[j]? = some q
       → q.gate = some g → j = i)) ∧
    (∃ (s : State) (tag : Byte) (i : Nat) (lane : LaneRule) (pit : PitRule) (mn nom pm : Nat) (payload : List Byte),
       payload = [BitVec.ofNat 8 i, BitVec.ofNat 8 lane.toCode, BitVec.ofNat 8 pit.toCode] ++ u16 mn ++ u16 nom ++ u16
       pm ∧ s.takes .A 0x12 tag payload ∧ i < 12 ∧ i < s.course.points.length ∧ mn < 65536 ∧ nom < 65536 ∧ pm < 65536) :=
  ⟨⟨State.reset, 5, 1, 2, by decide, by decide, by decide⟩,
    ⟨track, 5, 1, none, true, true, [1, 0, 1, 1], by decide, by decide, by decide, by decide, by decide,
      nofun⟩,
    ⟨track, 5, 1, .closed, .exit, 300, 0, 65535, [1, 1, 3, 44, 1, 0, 0, 255, 255], by decide, by decide,
      by decide, by decide, by decide, by decide, by decide⟩⟩

theorem witness_SettingsRequests :
    (∃ (s : State) (tag : Byte) (payload : List Byte) (v : Settings), s.takes .A 0x0F tag payload ∧ payload.length =
       16 ∧ settingsOf payload = some v ∧ (s.race.state = .idle ∨ s.race.state = .practice)) ∧
    (∃ (s : State) (tag : Byte) (payload : List Byte) (v : StartProgram), s.takes .A 0x0E tag payload ∧ payload.length
       = 68 ∧ programOf payload = some v ∧ (s.race.state = .idle ∨ s.race.state = .practice)) ∧
    (∃ (s : State) (tag : Byte) (payload : List Byte) (k : Fin 6) (v : ScheduleRow), s.takes .A 0x21 tag payload ∧
       payload.length = 6 ∧ scheduleRowOf payload = some (k, v) ∧ s.race.state = .idle) :=
  ⟨⟨track, 5, someSettings.encode, someSettings, by decide, by decide, by decide, by decide⟩,
    ⟨track, 5, StartProgram.default.encode, StartProgram.default, by decide, by decide, by decide, by
      decide⟩,
    ⟨State.reset, 5, [3, 4, 200, 2, 7, 0], 3, ⟨.lapDeduct, 9, .autoWaive, 7, 1⟩, by decide, by decide, by decide, by
      decide⟩⟩

theorem witness_SettingsRequests_refused :
    (∃ (s : State) (tag : Byte) (payload : List Byte), s.takes .A 0x0F tag payload ∧ payload.length = 16 ∧
       (1 < (payload.getD 0 0).toNat ∨ 1 < (payload.getD 4 0).toNat ∨ 1 < (payload.getD 8 0).toNat ∨
       1 < (payload.getD 9 0).toNat)) ∧
    (∃ (s : State) (tag : Byte) (payload : List Byte), s.takes .A 0x0E tag payload ∧ payload.length = 68 ∧
       (15 < (payload.getD 65 0).toNat ∨ 15 < (payload.getD 67 0).toNat ∨ (payload.getD 65 0).toNat <
       (payload.getD 64 0).toNat ∨ (payload.getD 67 0).toNat < (payload.getD 66 0).toNat ∨
       ∃ i : Fin 16, (payload.getD (4 * i.val) 0).getLsbD 6 = true)) ∧
    (∃ (s : State) (tag : Byte) (payload : List Byte), s.takes .A 0x21 tag payload ∧ payload.length = 6 ∧
       (5 < (payload.getD 0 0).toNat ∨ 5 < (payload.getD 1 0).toNat ∨ 2 < (payload.getD 3 0).toNat)) :=
  ⟨⟨track, 5, someSettings.encode.set 9 2, by decide, by decide, by decide⟩,
    ⟨track, 5, StartProgram.default.encode.set 65 16, by decide, by decide, by decide⟩,
    ⟨racing .green, 5, [5, 5, 0, 3, 0, 0], by decide, by decide, by decide⟩⟩

theorem witness_SettingsRoundTrip :
    (∃ (v : Settings), v.limit = clampLimit v.mode v.limit ∧ 5 ≤ v.finishWindow ∧ v.finishWindow ≤ 255 ∧
       v.missTolerance ≤ 3 ∧ 10 ≤ v.silenceLimit ∧ v.silenceLimit ≤ 255 ∧ 1 ≤ v.rearm ∧ v.rearm ≤ 255 ∧ v.cautionCap ≤
       63 ∧ v.driveCap ≤ 63 ∧ v.pitCap ≤ 63 ∧ v.coolCap ≤ 63 ∧ v.practiceCap ≤ 63 ∧ 2 ≤ v.laneCount ∧ v.laneCount ≤ 6) ∧
    (∃ (v : StartProgram), (∀ i : Fin 16, v.steps[i].duration < 65536 ∧ v.steps[i].extension < 256) ∧ v.g0 ≤ v.g1 ∧
       v.c0 ≤ v.c1) ∧
    (∃ (v : ScheduleRow), clampAmount v.outcome v.amount = v.amount ∧ v.window < 256 ∧ 1 ≤ v.conversion ∧ v.conversion
       ≤ 255) :=
  ⟨⟨someSettings, by decide, by decide, by decide, by decide, by decide, by decide, by decide, by decide, by decide,
      by decide, by decide, by decide, by decide, by decide, by decide⟩,
    ⟨StartProgram.default, by decide, by decide, by decide⟩,
    ⟨⟨.lapDeduct, 9, .autoWaive, 7, 1⟩, by decide, by decide, by decide, by decide⟩⟩

theorem witness_PracticeSession :
    (∃ (s : State) (tag : Byte), s.takes .A 0x01 tag [] ∧ s.race.state = .idle) ∧
    (∃ (s : State) (tag : Byte), s.takes .A 0x02 tag [] ∧ s.race.state = .practice) ∧
    (∃ (s : State) (d : Nat), s.race.state = .practice ∧ s.race.practiceLimit = some d ∧ d ≤ s.raceClock) :=
  ⟨⟨track, 5, by decide, by decide⟩,
    ⟨practice, 5, by decide, by decide⟩,
    ⟨practice, 3600000000, by decide, by decide, by decide⟩⟩

theorem witness_GridAndCountdown :
    (∃ (s : State) (tag : Byte), s.takes .A 0x03 tag [] ∧ s.race.state = .idle ∧ (∃ x ∈ s.cars, x.entered = true) ∧ 2
       ≤ s.course.points.length ∧ s.course.points.length ≤ 12 ∧ (∀ q ∈ s.course.points, ∃ g, q.gate = some g ∧
       s.bus.heads[g].state = .ready)) ∧
    (∃ (s : State) (tag : Byte), s.takes .A 0x04 tag [] ∧ s.race.state = .grid) ∧
    (∃ (s : State) (tag : Byte), s.takes .A 0x05 tag [] ∧ s.race.state = .grid ∧ s.power.linkUp = true ∧
       s.power.status = some .normal) ∧
    (∃ (s : State) (tag : Byte), s.takes .A 0x05 tag [] ∧ s.race.state = .grid ∧ (s.power.linkUp = false ∨
       s.power.status ≠ some .normal)) ∧
    (∃ (s : State) (tag : Byte), s.takes .A 0x06 tag [] ∧ s.race.state = .countdown) :=
  ⟨⟨track, 5, by decide, by decide, by decide, by decide, by decide, by decide⟩,
    ⟨{ track with race.state := .grid, pen.list := [callOf 4 .serving .stopGo] }, 5, by decide, by decide⟩,
    ⟨{ track with race.state := .grid }, 5, by decide, by decide, by decide, by decide⟩,
    ⟨{ track with race.state := .grid, power.linkUp := false }, 5, by decide, by decide, by decide⟩,
    ⟨{ track with race.state := .countdown }, 5, by decide, by decide⟩⟩

theorem witness_StartSteps :
    (∃ (s : State) (w : StepTimer) (i : Fin 16), s.race.state = .grid ∧ s.race.step = some w ∧ s.reached w.deadline ∧
       i = (if w.index = s.race.program.g1 then s.race.program.g0 else w.index + 1)) ∧
    (∃ (s : State) (w : StepTimer) (i : Fin 16), s.race.state = .countdown ∧ s.race.step = some w ∧ s.reached
       w.deadline ∧ w.index ≠ s.race.program.c1 ∧ i = w.index + 1) ∧
    (∃ (s : State) (w : StepTimer), s.race.state = .countdown ∧ s.race.step = some w ∧ s.reached w.deadline ∧ w.index
       = s.race.program.c1) :=
  ⟨⟨stepping .grid 1, ⟨1, ⟨0, 100000⟩⟩, 0, by decide, by decide, by decide, by decide⟩,
    ⟨stepping .countdown 5, ⟨5, ⟨0, 100000⟩⟩, 6, by decide, by decide, by decide, by decide, by decide⟩,
    ⟨stepping .countdown 6, ⟨6, ⟨0, 100000⟩⟩, by decide, by decide, by decide, by decide⟩⟩

theorem witness_CautionAndLift :
    (∃ (p : PortId) (s : State) (tag : Byte), s.takes p 0x07 tag [] ∧ s.race.state = .green) ∧
    (∃ (p : PortId) (s : State) (tag : Byte), s.takes p 0x07 tag [] ∧ s.race.state = .chequered ∧ s.race.held = false) ∧
    (∃ (p : PortId) (s : State) (tag : Byte), s.takes p 0x07 tag [] ∧ (s.race.state = .caution ∨ s.race.state =
       .chequered ∧ s.race.held = true)) ∧
    (∃ (p : PortId) (s : State) (tag : Byte) (v w : SavedState), s.takes p 0x07 tag [] ∧ s.race.state = .suspended ∧
       s.race.saved = some v ∧ (v, w) ∈ [(.green, .caution), (.chequered false, .chequered true)]) ∧
    (∃ (p : PortId) (s : State) (tag : Byte), s.takes p 0x08 tag [] ∧ s.race.state = .caution) ∧
    (∃ (p : PortId) (s : State) (tag : Byte), s.takes p 0x08 tag [] ∧ s.race.state = .chequered ∧ s.race.held = true) ∧
    (∃ (p : PortId) (s : State) (tag : Byte), s.takes p 0x08 tag [] ∧ s.race.state = .chequered ∧ s.race.held = false) ∧
    (∃ (p : PortId) (s : State) (tag : Byte) (v w : SavedState), s.takes p 0x08 tag [] ∧ s.race.state = .suspended ∧
       s.race.saved = some v ∧ (v, w) ∈ [(.caution, .green), (.chequered true, .chequered false)]) :=
  ⟨⟨.B, racing .green, 5, by decide, by decide⟩,
    ⟨.B, { racing .chequered with race.held := false }, 5, by decide, by decide, by decide⟩,
    ⟨.A, racing .caution, 5, by decide, by decide⟩,
    ⟨.B, paused .green, 5, .green, .caution, by decide, by decide, by decide, by decide⟩,
    ⟨.B, racing .caution, 5, by decide, by decide⟩,
    ⟨.B, { racing .chequered with race.held := true }, 5, by decide, by decide, by decide⟩,
    ⟨.B, { racing .chequered with race.held := false }, 5, by decide, by decide, by decide⟩,
    ⟨.B, paused .caution, 5, .caution, .green, by decide, by decide, by decide, by decide⟩⟩

theorem witness_CautionAndLift_unchanged :
    (∃ (p : PortId) (s : State) (tag : Byte), s.takes p 0x07 tag [] ∧ s.race.state = .suspended ∧
       (s.race.saved = some .caution ∨ s.race.saved = some (.chequered true))) ∧
    (∃ (p : PortId) (s : State) (tag : Byte), s.takes p 0x08 tag [] ∧ s.race.state = .suspended ∧
       (s.race.saved = some .green ∨ s.race.saved = some (.chequered false))) ∧
    (∃ (p : PortId) (s : State) (tag : Byte), s.takes p 0x07 tag [] ∧ (s.race.state = .idle ∨ s.race.state = .practice
       ∨ s.race.state = .grid ∨ s.race.state = .countdown ∨ s.race.state = .closed)) ∧
    (∃ (p : PortId) (s : State) (tag : Byte), s.takes p 0x08 tag [] ∧ (s.race.state = .idle ∨ s.race.state = .practice
       ∨ s.race.state = .grid ∨ s.race.state = .countdown ∨ s.race.state = .green ∨ s.race.state = .closed)) :=
  ⟨⟨.B, paused (.chequered true), 5, by decide, by decide, by decide⟩,
    ⟨.B, paused .green, 5, by decide, by decide, by decide⟩,
    ⟨.A, racing .closed, 5, by decide, by decide⟩,
    ⟨.B, racing .green, 5, by decide, by decide⟩⟩

theorem witness_SuspendAndResume :
    (∃ (p : PortId) (s : State) (tag : Byte) (v : SavedState), s.takes p 0x09 tag [] ∧ (s.race.state = .green ∧ v =
       .green ∨ s.race.state = .caution ∧ v = .caution ∨ s.race.state = .chequered ∧ v = .chequered s.race.held)) ∧
    (∃ (p : PortId) (s : State) (tag : Byte), s.takes p 0x09 tag [] ∧ s.race.state = .suspended) ∧
    (∃ (s : State) (tag : Byte) (v : SavedState) (live : RaceState) (held : Bool), s.takes .A 0x0A tag [] ∧
       s.race.state = .suspended ∧ s.power.linkUp = true ∧ s.power.status = some .normal ∧ s.race.saved = some v ∧ (v =
       .green ∧ live = .green ∧ held = false ∨ v = .caution ∧ live = .caution ∧ held = false ∨ v = .chequered held ∧
       live = .chequered) ∧ (∃ x ∈ s.cars, x.entered = true ∧ x.race.state ≠ .finished ∧ x.race.state ≠ .retired)) :=
  ⟨⟨.B, racing .green, 5, .green, by decide, by decide⟩,
    ⟨.B, paused .green, 5, by decide, by decide⟩,
    ⟨{ paused .green with
        former.list := [strayAnon 3 200000, strayAnon 4 400000]
        course.shadow := some [⟨.closed, .none, 9, 9, 9⟩] },
      5, .green, .green, false, by decide, by decide, by decide, by decide, by decide, by decide, by decide⟩⟩

theorem witness_RaceEnds :
    (∃ (s : State) (d : Nat), (s.race.state = .green ∨ s.race.state = .caution) ∧ s.race.raceLimit = some d ∧ d ≤
       s.raceClock ∧ (∃ x ∈ s.cars, x.entered = true ∧ x.race.state ≠ .finished ∧ x.race.state ≠ .retired)) ∧
    (∃ (s : State) (d : Nat), s.race.state = .chequered ∧ s.race.finishWindow = some d ∧ d ≤ s.raceClock) ∧
    (∃ (s : State), s.race.state.racing = true ∧ 4200000000 ≤ (s.time.session - s.time.green).toNat) ∧
    (∃ (s : State) (tag : Byte), s.takes .A 0x0B tag [] ∧ s.race.state.racing = true) :=
  ⟨⟨{ racing .caution with race.raceLimit := some 500000 }, 500000, by decide, by decide, by decide, by
      decide⟩,
    ⟨{ racing .chequered with race.finishWindow := some 500000, pen.list := calls }, 500000, by decide, by
      decide, by decide⟩,
    ⟨{ racing .suspended with time.session := 4200000001, time.green := 0, pen.list := calls }, by decide,
      by decide⟩,
    ⟨{ racing .green with pen.list := calls }, 5, by decide, by decide⟩⟩

theorem witness_ReleaseAndSoftReset :
    (∃ (s : State) (tag : Byte), s.takes .A 0x0C tag [] ∧ s.race.state = .closed) ∧
    (∃ (s : State) (tag : Byte), s.takes .A 0x0D tag []) :=
  ⟨⟨{ racing .closed with pen.list := calls, former.list := [strayAnon 3 200000] }, 5, by decide, by
      decide⟩,
    ⟨{ racing .suspended with pen.list := calls, former.list := [strayAnon 3 200000], course.shadow := some [] },
      5, by decide⟩⟩

theorem witness_DeslotDeadline :
    ∃ (s : State) (c : Code) (x : Car) (d : Nat), s.car c = some x ∧ x.race.silence = some d ∧ s.race.state.clockRuns
      = true ∧ d ≤ s.raceClock :=
  ⟨racing .green, 1, carOf 1, 60000, by decide, by decide, by decide, by decide⟩

theorem witness_CallRaised :
    (∃ (p : PortId) (s : State) (tag am : Byte) (c : Code) (o : PenaltyOutcome) (x : Car) (payload : List Byte),
       payload = codeBytes c ++ [BitVec.ofNat 8 o.toCode, am] ∧ s.takes p 0x24 tag payload ∧ validCode c = true ∧
       (s.race.state.racing = true ∨ s.race.state = .closed) ∧ s.car c = some x ∧ x.entered = true ∧
       s.pen.list.length ≤ 32 ∧ 1 ≤ s.pen.nextId ∧ s.pen.nextId ≤ 255 ∧ (s.pen.list.length < 32 ∨ ∃ r ∈ s.pen.list,
       r.state = .served ∨ r.state = .waived ∨ r.state = .converted) ∧ s.pen.list.length = 32) ∧
    (∃ (p : PortId) (s : State) (tag am : Byte) (c : Code) (o : PenaltyOutcome) (x : Car) (payload : List Byte),
       payload = codeBytes c ++ [BitVec.ofNat 8 o.toCode, am] ∧ s.takes p 0x24 tag payload ∧ validCode c = true ∧
       (s.race.state.racing = true ∨ s.race.state = .closed) ∧ s.car c = some x ∧ x.entered = true ∧ 32 ≤
       s.pen.list.length ∧ (∀ r ∈ s.pen.list, r.state = .review ∨ r.state = .confirmed ∨ r.state = .serving)) :=
  ⟨⟨.A, crowded, 5, 9, 1, .time, carOf 1, [1, 0, 0, 9], by decide, by decide, by decide, by decide, by decide,
      by decide, by decide, by decide, by decide, by decide, by decide⟩,
    ⟨.B, { racing .green with pen.list := List.replicate 32 (callOf 4 .serving .stopGo) }, 5, 9, 1, .time,
      carOf 1, [1, 0, 0, 9], by decide, by decide, by decide, by decide, by decide, by decide, by decide, by decide⟩⟩

theorem witness_ConfirmDecides :
    (∃ (p : PortId) (s : State) (tag b ob am : Byte) (r r' : Penalty), s.takes p 0x25 tag [b, ob, am] ∧ b ≠ 0 ∧
       s.penalty b.toNat = some r ∧ r.state = .review ∧ (ob = 0xFF ∧ r' = r ∨ ∃ o : PenaltyOutcome, ob = BitVec.ofNat 8
       o.toCode ∧ r' = { r with outcome := o, amount := clampAmount o am.toNat }) ∧ ∃ x, s.car r.code = some x) ∧
    (∃ (p : PortId) (s : State) (tag b : Byte) (r : Penalty), s.takes p 0x25 tag [b, 0xFF, 0] ∧ b ≠ 0 ∧ s.penalty
       b.toNat = some r ∧ r.state ≠ .review) :=
  ⟨⟨.B, { racing .green with pen.list := calls }, 5, 6, 0xFF, 9, callOf 6 .review .stopGo, callOf 6
      .review .stopGo, by decide, by decide, by decide, by decide, .inl ⟨rfl, rfl⟩, carOf 1, by decide⟩,
    ⟨.B, { racing .green with pen.list := calls }, 5, 5, callOf 5 .confirmed .lockout, by decide, by
      decide, by decide, by decide⟩⟩

theorem witness_WaiveReverses :
    (∃ (p : PortId) (s : State) (tag b : Byte) (r : Penalty), s.takes p 0x26 tag [b] ∧ b ≠ 0 ∧ s.penalty b.toNat =
       some r ∧ r.state = .review) ∧
    (∃ (s : State) (tag b : Byte) (r : Penalty), s.takes .B 0x26 tag [b] ∧ b ≠ 0 ∧ s.penalty b.toNat = some r ∧
       r.state ≠ .review) ∧
    (∃ (s : State) (tag b : Byte) (r : Penalty) (x : Car), s.takes .A 0x26 tag [b] ∧ b ≠ 0 ∧ s.penalty b.toNat = some
       r ∧ s.car r.code = some x ∧ (r.state = .confirmed ∨ r.state = .serving ∨ r.state = .converted ∨ r.state = .served
       ∧ r.outcome.isServe = false)) ∧
    (∃ (s : State) (tag b : Byte) (r : Penalty), s.takes .A 0x26 tag [b] ∧ b ≠ 0 ∧ s.penalty b.toNat = some r ∧
       (r.state = .waived ∨ r.state = .served ∧ r.outcome.isServe = true)) :=
  ⟨⟨.B, { racing .green with pen.list := calls }, 5, 6, callOf 6 .review .stopGo, by decide, by decide,
      by decide, by decide⟩,
    ⟨{ racing .green with pen.list := calls }, 5, 8, callOf 8 .served .time, by decide, by decide, by
      decide, by decide⟩,
    ⟨{ racing .green with pen.list := calls }, 5, 4, callOf 4 .serving .stopGo, carOf 1, by decide, by
      decide, by decide, by decide, by decide⟩,
    ⟨{ racing .green with pen.list := callOf 3 .waived .time :: calls }, 5, 3, callOf 3 .waived .time, by
      decide, by decide, by decide, by decide⟩⟩

theorem witness_PenaltyDeadlines :
    (∃ (s : State) (id d : Nat) (r : Penalty), s.penalty id = some r ∧ r.state = .review ∧ r.review = some d ∧
       s.race.state.clockRuns = true ∧ d ≤ s.raceClock ∧ ∃ x, s.car r.code = some x) ∧
    (∃ (s : State) (id d : Nat) (r : Penalty) (x : Car), s.penalty id = some r ∧ r.state = .serving ∧ r.stopGoEnd =
       some d ∧ s.race.state.clockRuns = true ∧ d ≤ s.raceClock ∧ s.car r.code = some x) :=
  ⟨⟨{ racing .green with pen.list := timed 3 .autoWaive :: calls }, 3, 500000, timed 3 .autoWaive, by
      decide, by decide, by decide, by decide, by decide, carOf 1, by decide⟩,
    ⟨{ racing .green with pen.list := going :: calls }, 3, 500000, going, carOf 1, by decide, by decide,
      by decide, by decide, by decide, by decide⟩⟩

theorem witness_PermitRows :
    (∃ (s : State) (d : DriveIx) (x : Car) (st car serving pit : Nat), s.driver d = some x ∧
       st = (match s.race.state with
         | .practice => s.course.settings.practiceCap
         | .green => 63
         | .caution => s.course.settings.cautionCap
         | .chequered => if s.race.held then s.course.settings.cautionCap else 63
         | .idle | .grid | .countdown | .suspended | .closed => 0) ∧
       car = (match x.race.state with
         | .idle | .running | .offTrack => 63
         | .finished => s.course.settings.coolCap
         | .grid | .retired => 0) ∧
       serving = (match (s.servingRecord x.code).map Penalty.outcome with
         | some .stopGo => 0
         | some .driveThrough => s.course.settings.driveCap
         | _ => 63) ∧
       pit = (if (s.race.state = .green ∨ s.race.state = .caution ∨ s.race.state = .chequered)
         ∧ x.race.last.bind LastPassage.lane = some 6 then s.course.settings.pitCap else 63)) ∧
    (∃ (s : State) (d : DriveIx), (∀ x ∈ s.cars, x.entered = true → x.drive ≠ d.val + 1)) :=
  ⟨⟨{ racing .green with pen.list := going :: calls }, 0, carOf 1, 63, 63, 0, 63, by decide, rfl, rfl, rfl, rfl⟩,
    ⟨{ State.reset with race.state := .practice, roster.slots := Vector.replicate 72 none }, 4, by decide⟩⟩

theorem witness_PowerPoll :
    (∃ (s : State) (tag b : Byte) (v : BaseStatus), s.power.rx.completes [b] (ltFrame 0x60 tag [b]) = true ∧
       baseStatusOf b = some v) ∧
    (∃ (s : State) (f : List Byte), s.power.sending = some f ∧ s.power.slot = none) ∧
    (∃ (s : State) (f : List Byte) (tag : Byte), s.power.sending = some f ∧ s.power.slot = some tag) :=
  ⟨⟨{ racing .green with power.sending := none }, 5, 0, .normal, by decide, by decide⟩,
    ⟨{ State.reset with power.sending := some [1], power.slot := none }, [1], by decide, by decide⟩,
    ⟨{ State.reset with power.sending := some [1], power.slot := some 7 }, [1], 7, by decide, by decide⟩⟩

theorem witness_LinkTrouble :
    (∃ (s : State) (w : Timer), s.power.silence = some w ∧ s.reached w) ∧
    (∃ (s : State) (len : Byte), s.power.rx.bytes = [] ∧ 240 < len.toNat) ∧
    (∃ (s : State), s.power.rx.bytes ≠ [] ∧ checkFrame s.power.rx.bytes = .partly ∧ 200 < (s.time.session -
       s.power.rx.lastAt).toNat) :=
  ⟨⟨{ racing .green with power.silence := some ⟨0, 10000⟩ }, ⟨0, 10000⟩, by decide, by decide⟩,
    ⟨{ State.reset with power.rx := ⟨[], 0⟩ }, 241, by decide, by decide⟩,
    ⟨{ State.reset with power.rx := ⟨[0xC3, 1, 0xC3], 0⟩, time.session := 201 }, by decide, by decide, by decide⟩⟩

theorem witness_LinkTrouble_frames :
    (∃ (s : State) (sum : Byte) (payload : List Byte), s.power.rx.bytes = [] ∧ payload.length ≤ 240 ∧ sum ≠ 0) ∧
    (∃ (s : State) (kind : Byte) (payload : List Byte), s.power.rx.bytes = [] ∧ payload.length ≤ 240 ∧
       (kind ≠ 0x60 ∨ payload.length ≠ 1 ∨ 2 < (payload.getD 0 0).toNat)) ∧
    (∃ (s : State) (payload : List Byte), s.power.rx.bytes = [] ∧ payload.length ≤ 240 ∧
       (payload.length ≠ 1 ∨ 2 < (payload.getD 0 0).toNat)) :=
  ⟨⟨State.reset, 1, [0xC3], by decide, by decide, by decide⟩,
    ⟨State.reset, 0x61, [0], by decide, by decide, by decide⟩,
    ⟨State.reset, [3], by decide, by decide, by decide⟩⟩

theorem witness_ConsoleDrops :
    (∃ (p : PortId) (s : State) (len : Byte), (s.port p).rx.bytes = [] ∧ 240 < len.toNat) ∧
    (∃ (p : PortId) (s : State) (sum : Byte) (payload : List Byte), (s.port p).rx.bytes = [] ∧ payload.length ≤ 240 ∧
       sum ≠ 0) ∧
    (∃ (p : PortId) (s : State), (s.port p).rx.bytes ≠ [] ∧ checkFrame (s.port p).rx.bytes = .partly ∧ 200 <
       (s.time.session - (s.port p).rx.lastAt).toNat) ∧
    (∃ (p : PortId) (s : State) (kind tag : Byte) (payload : List Byte), (s.port p).engaged = true ∧ (s.port
       p).rx.completes payload (ltFrame kind tag payload) = true ∧ (s.port p).busyList.length < 50) ∧
    (∃ (p : PortId) (s : State) (kind tag : Byte) (payload : List Byte), s.takes p kind tag payload ∧ (kind = 0 ∨ 0x34
       < kind.toNat)) :=
  ⟨⟨.B, State.reset, 241, by decide, by decide⟩,
    ⟨.A, State.reset, 3, [4, 5], by decide, by decide, by decide⟩,
    ⟨.B, { State.reset with portB.rx := ⟨[0xC3, 1, 0xC3], 0⟩, time.session := 201 }, by decide, by decide, by decide⟩,
    ⟨.B, { State.reset with portB.engaged := true }, 1, 2, [4], by decide, by decide, by decide⟩,
    ⟨.B, State.reset, 0x35, 2, [4], by decide, by decide⟩⟩

theorem witness_ConsoleTransmit :
    (∃ (p : PortId) (s : State) (f : TxFrame), (s.port p).tx = some f) ∧
    (∃ (p : PortId) (s : State) (tag : Byte) (n m : Nat), s.takes p 0x27 tag (u16 n) ∧ n < 65536 ∧ m = min 6000 n) ∧
    (∃ (p : PortId) (s : State) (w : Timer), (s.port p).hold = some w ∧ s.reached w) :=
  ⟨⟨.B, { sending .reply with portB.busyList := [4, 5] }, ⟨.reply, [1]⟩, by decide⟩,
    ⟨.B, State.reset, 5, 7000, 6000, by decide, by decide, by decide⟩,
    ⟨.B, { State.reset with portB.hold := some ⟨0, 9⟩, time.session := 9 }, ⟨0, 9⟩, by decide, by decide⟩⟩

theorem witness_RefusedPort :
    ∃ (i : Instr) (s : State) (kind tag : Byte) (payload : List Byte), i.request = some (kind, .B, tag, payload) ∧
      raceControlOnly i = true ∧ s.takes .B kind tag payload :=
  ⟨.openPractice .B 5 [1], State.reset, 1, 5, [1], by decide, by decide, by decide⟩

theorem witness_PassageAccounting :
    (∃ (s : State) (y : Car) (x : Passage) (l : LastPassage) (o : LapStart), s.car x.code = some y ∧ s.race.state =
       .green ∧ y.race.state = .running ∧ x.point = 0 ∧ l.point < s.course.points.length ∧ y.race.last = some l ∧
       s.sinceGreen l.capture.time < s.sinceGreen x.capture.time ∧ s.sinceGreen x.capture.time ≤ s.elapsed ∧
       x.capture.tag.race = .green ∧ (if l.point = 0 then s.course.points.length else s.course.points.length - l.point)
       ≤ s.course.settings.missTolerance + 1 ∧ y.race.lapState = .openTimed ∧ y.race.lapStart = some o) ∧
    (∃ (s : State) (y : Car) (x : Passage) (l : LastPassage), s.car x.code = some y ∧ s.race.state = .chequered ∧
       (s.race.state = .chequered → ∃ e ∈ s.cars, e.entered = true ∧ e.race.state ≠ .finished ∧
       e.race.state ≠ .retired) ∧ y.race.state ≠ .finished ∧ y.race.state ≠ .retired ∧
       x.point < s.course.points.length ∧ y.race.last = some l ∧
       s.sinceGreen x.capture.time ≤ s.sinceGreen l.capture.time) ∧
    (∃ (s : State) (y : Car) (x : Passage) (l : LastPassage), s.car x.code = some y ∧ s.race.state = .chequered ∧
       (∀ e ∈ s.cars, e.entered = true → e.race.state = .finished ∨ e.race.state = .retired) ∧
       y.race.state ≠ .finished ∧ y.race.state ≠ .retired ∧ x.point < s.course.points.length ∧ y.race.last = some l ∧
       s.sinceGreen x.capture.time ≤ s.sinceGreen l.capture.time) :=
  ⟨⟨lapping, lap1, ⟨1, 0, some 2, cap 599000, .coded⟩, ⟨1, some 1, cap 400000, 3000⟩, ⟨150000, 0,
      ⟨.green, false, 0, 0⟩⟩, by decide, by decide, by decide, by decide, by decide, by decide, by decide, by decide, by
      decide, by decide, by decide, by decide⟩,
    ⟨{ lapping with race.state := .chequered }, lap1, ⟨1, 0, some 2, cap 400000, .coded⟩,
      ⟨1, some 1, cap 400000, 3000⟩, by decide, by decide, by decide, by decide, by decide, by decide, by decide,
      by decide⟩,
    ⟨{ lapping with
        race.state := .chequered
        roster.slots := State.reset.roster.slots.set 1 (some { lap1 with entered := false }) },
      { lap1 with entered := false }, ⟨1, 0, some 2, cap 400000, .coded⟩, ⟨1, some 1, cap 400000, 3000⟩, by decide,
      by decide, by decide, by decide, by decide, by decide, by decide, by decide⟩⟩

/-! ## Witnesses, where a statement is about a next state or nests its hypotheses -/

theorem next_of_after {c : Instr} {s : State} {P : State → Prop} [DecidablePred P]
    (h : (after c s).any (fun t => decide (P t)) = true) : ∃ t, exec c s = .next t ∧ P t := by
  revert h
  unfold after
  cases exec c s <;> simp

theorem step_of_after {c : Instr} {s : State} {P : State → Prop} [DecidablePred P]
    (h : (after c { s with pending := [] }).any (fun t => decide (P t)) = true) :
    ∃ t, step { s with pending := [c] } = .next t ∧ P t :=
  next_of_after h

theorem witness_StepRunsFront :
    ∃ (c : Instr) (s : State) (rest : List Instr), s.pending = c :: rest :=
  ⟨.tick 0, { racing .green with pending := [.tick 0, .tick 1] }, [.tick 1], rfl⟩

theorem witness_QueueDiscipline :
    (∃ s : State, s.pending = [] ∧ s.race.state = .green) ∧
    (∃ (s t : State), exec (.caution .B 5 []) s = .next t ∧ s.pending ≠ [] ∧ t.race.state = .caution) :=
  ⟨⟨racing .green, rfl, rfl⟩,
    { racing .green with pending := [.tick 1] },
    (next_of_after (P := fun t => ({ racing .green with pending := [.tick 1] } : State).pending ≠ []
      ∧ t.race.state = .caution) (by decide))⟩

theorem witness_EveryCommandCompletes :
    ∃ s : State, s.portA.busyList.length < 50 ∧ s.portB.busyList.length < 50 ∧ s.portA.busyList.length = 49 :=
  ⟨{ racing .green with portA.busyList := List.replicate 49 7 }, by decide, by decide, by decide⟩

theorem witness_TickSteps :
    ∃ (c : Instr) (s t : State), exec c s = .next t ∧ (∀ st, c ≠ .tick st) ∧ (∀ a b, c ≠ .hardReset a b) ∧
      t.race.state ≠ s.race.state :=
  ⟨.caution .B 5 [], racing .green,
    let ⟨t, h, k⟩ := next_of_after (c := .caution .B 5 []) (s := racing .green)
      (P := fun t => t.race.state ≠ .green) (by decide)
    ⟨t, h, nofun, nofun, k⟩⟩

theorem witness_Arbiter :
    (∃ (s : State) (g : Gate), s.bus.line = none ∧ s.inFetchClass g = true ∧
      (∀ j : Gate, (j.val + 11 - s.bus.pointer.val) % 12 < (g.val + 11 - s.bus.pointer.val) % 12 →
        s.inFetchClass j = false) ∧ s.bus.queue ≠ [] ∧ s.bus.runCount < 4) ∧
    (∃ (s : State) (e : ServiceEntry) (rest : List ServiceEntry), s.bus.line = none ∧ s.bus.queue = e :: rest ∧
      4 ≤ s.bus.runCount ∧ s.inFetchClass 1 = true) ∧
    (∃ s : State, s.bus.line = none ∧ s.bus.queue = [] ∧ ∀ j : Gate, s.inFetchClass j = false) :=
  ⟨⟨sharing 3, 8, by decide, by decide, by decide, by decide, by decide⟩,
    ⟨sharing 4, ⟨3, .status⟩, [⟨10, .probe⟩], by decide, by decide, by decide, by decide⟩,
    ⟨racing .green, by decide, by decide, by decide⟩⟩

theorem witness_Discard_assigned :
    ∃ (s t : State), s.takes .B 0x22 5 (4 :: codeBytes 1) ∧ exec (.assign .B 5 (4 :: codeBytes 1)) s = .next t ∧
      t.answered .B 0x22 5 .ok [] ∧ (s.port .B).tx = none :=
  let ⟨t, h, k⟩ := next_of_after (c := .assign .B 5 (4 :: codeBytes 1)) (s := wUn)
    (P := fun t => t.answered .B 0x22 5 .ok []) (by decide)
  ⟨wUn, t, by decide, h, k, by decide⟩

theorem witness_AgeLimit_kept :
    (∃ (s t : State), exec (.softReset .A 5 []) s = .next t ∧ t.race.state = .idle ∧ s.race.state = .green) ∧
    (∃ (s t : State), exec (.release .A 5 []) s = .next t ∧ t.race.state = .idle ∧ s.race.state = .closed) :=
  ⟨⟨racing .green,
      next_of_after (P := fun t => t.race.state = .idle ∧ (racing .green).race.state = .green) (by decide)⟩,
    ⟨racing .closed,
      next_of_after (P := fun t => t.race.state = .idle ∧ (racing .closed).race.state = .closed) (by decide)⟩⟩

theorem witness_ConfirmDecides_override :
    ∃ (s : State) (ob am : Byte) (r r' : Penalty), s.takes .B 0x25 5 [6, ob, am] ∧ s.penalty 6 = some r ∧
      r.state = .review ∧ (∃ o : PenaltyOutcome, ob = BitVec.ofNat 8 o.toCode ∧
        r' = { r with outcome := o, amount := clampAmount o am.toNat }) ∧ r' ≠ r :=
  ⟨{ racing .green with pen.list := calls }, 0, 3, callOf 6 .review .stopGo,
    { callOf 6 .review .stopGo with outcome := .time, amount := 3 }, by decide, by decide, by decide,
    ⟨.time, by decide, by decide⟩, by decide⟩

theorem witness_QueriesAnswered :
    ∃ s : State, s.takes .B 0x28 5 [gateByte 11] ∧ s.takes .B 0x29 5 [] ∧
      (s.takes .B 0x2A 5 (codeBytes 1) ∧ validCode 1 = true ∧ s.roster.find 1 = some 1 ∧
        s.roster.slots[(1 : Slot)] = some (carOf 1)) ∧
      s.takes .B 0x2B 5 [71] ∧ s.takes .B 0x2C 5 [] ∧ s.takes .B 0x2D 5 [] ∧ s.takes .B 0x2E 5 [] ∧
      (s.takes .B 0x2F 5 [8] ∧ s.penalty 8 = some (callOf 8 .served .time)) ∧
      s.takes .B 0x30 5 (codeBytes 0 ++ [31]) ∧ s.takes .B 0x31 5 [] ∧ s.takes .B 0x32 5 [] ∧
      s.takes .B 0x33 5 [32] ∧ s.takes .B 0x34 5 [0] :=
  ⟨{ racing .green with pen.list := calls }, by decide⟩

theorem witness_FrameRoundTrip :
    (∃ payload : List Byte, payload.length ≤ 240 ∧ payload.length = 240) ∧
    (∃ (payload : List Byte) (b : Byte), payload.length ≤ 240 ∧
      ltFrame 1 2 payload ≠ (ltFrame 1 2 payload).dropLast ++ [b]) :=
  ⟨⟨List.replicate 240 0xC3, List.length_replicate.le, List.length_replicate⟩, ⟨[0xC3, 5], 0, by decide, by decide⟩⟩

theorem witness_ResortOrder :
    (∃ s : State, s.stand.formed = true ∧ s.stand.fixed = true ∧ s.stand.list.map s.freshEntry ≠ s.stand.list) ∧
    (∃ s : State, s.stand.formed = false) :=
  ⟨⟨stood, by decide, by decide, by decide⟩, ⟨racing .green, by decide⟩⟩

/-- The invariants hold of a green race with the outputs shown. -/
def shownRace : State := { racing .green with race.lamps := 0x20, power.trackEnable := true }

theorem witness_OutputsKept :
    ∃ s t : State, s.outputsRight ∧ step s = .next t ∧ t.race.lamps = 0x40 :=
  let ⟨t, h, k⟩ := step_of_after (c := .caution .B 5 []) (s := shownRace) (P := fun t => t.race.lamps = 0x40)
    (by decide)
  ⟨_, t, ⟨by decide, by decide⟩, h, k⟩

theorem witness_CapsKept :
    ∃ s t : State, s.capsRight ∧ step s = .next t ∧ (∃ d : DriveIx, t.power.rows[d].cap = 20) :=
  let ⟨t, h, k⟩ := step_of_after (c := .caution .B 5 []) (s := shownRace)
    (P := fun t => t.power.rows[(0 : DriveIx)].cap = 20) (by decide)
  ⟨_, t, fun d => by revert d; decide, h, 0, k⟩

theorem witness_AttributesKept :
    ∃ s t : State, s.attributesRight ∧ step s = .next t ∧ t.race.saved = some .green :=
  let ⟨t, h, k⟩ := step_of_after (c := .suspend .B 5 []) (s := shownRace)
    (P := fun t => t.race.saved = some .green) (by decide)
  ⟨_, t, ⟨by decide, by decide⟩, h, k⟩

theorem witness_ListsKept :
    ∃ s t : State, s.noticesRight ∧ s.sizesRight ∧ s.idsRight ∧ step s = .next t ∧ t.journal.ring.length = 1 :=
  let ⟨t, h, k⟩ := step_of_after (c := .suspend .B 5 []) (s := shownRace)
    (P := fun t => t.journal.ring.length = 1) (by decide)
  ⟨_, t, ⟨by decide, by decide, by decide⟩, ⟨by decide, by decide, by decide, by decide, by decide⟩,
    ⟨by decide, by decide, by decide, by decide⟩, h, k⟩

/-! ## Witnesses of the passage, penalty and lap statements -/

theorem witness_DetectionTaken :
    (∃ (s : State) (g : Gate), s.time.gates[g].stack = [] ∧
       (∀ c, s.time.gates[g].last = some c → 2000 ≤ (s.time.session - c.time).toNat)) ∧
    (∃ (s : State) (c : Code), s.former.stray.map StrayMemory.code = some c) :=
  ⟨⟨reading 102000 [] (some (cap 100000)), 0, by decide, of_some (by decide)⟩,
    ⟨{ State.reset with former.stray := some ⟨5, ⟨0, 1000000⟩⟩ }, 5, by decide⟩⟩

/-- A detection with a capture of its own, and one with the shared one, at the boundary of 20 ms. -/
theorem witness_DetectionTaken_captures :
    (∃ (s v : State) (g : Gate) (d : Detection) (c : Capture) (rest : List Capture), s.time.gates[g].stack = c :: rest ∧
       v = { s.senseLane g d with
         time.gates := s.time.gates.set g { s.time.gates[g] with stack := rest, last := some c } } ∧
       (d.quality = 0 ∨ d.code = 0xFFFF) ∧ v.bus.heads[g].lanes[d.lane].stuck = true) ∧
    (∃ (s v : State) (g : Gate) (d : Detection) (c : Capture), s.time.gates[g].stack = [] ∧
       s.time.gates[g].last = some c ∧ (s.time.session - c.time).toNat < 2000 ∧ v = s.senseLane g d ∧
       (d.quality = 0 ∨ d.code = 0xFFFF) ∧ v.bus.heads[g].lanes[d.lane].stuck = false) :=
  ⟨⟨reading 100500 [cap 100000, cap 100300] none, _, 0, ⟨1, 0xFFFF, 3⟩, cap 100000, [cap 100300], by decide, rfl,
      by decide, by decide⟩,
    ⟨reading 101999 [] (some (cap 100000)), _, 0, ⟨0, 0xFFFF, 3⟩, cap 100000, by decide, by decide, by decide, rfl,
      by decide, by decide⟩⟩

/-- A lane the head listens to, within the lane count of the course, is not refused. -/
theorem lane_allowed {s : State} {g : Gate} {l : Lane} (hm : s.bus.heads[g].mask.getLsbD l.val = true)
    (hl : l.val < 6) (hc : l.val + 1 ≤ s.course.settings.laneCount) : ¬ s.laneRefused g l := by
  rintro (h | ⟨i, q, -, -, ⟨-, h⟩ | ⟨h, -⟩⟩)
  · rw [hm] at h; exact absurd h (by decide)
  · omega
  · omega

/-- The lane check of a detection: lane 6 of a course of four lanes, the pit lane at a point without one, and a lane
allowed; and a reserved code. -/
theorem witness_DetectionTaken_lanes :
    (∃ (v : State) (g : Gate) (d : Detection), (d.quality = 0 ∨ d.code = 0xFFFF) ∧
       v.bus.heads[g].lanes[d.lane].stuck = false ∧ v.laneRefused g d.lane) ∧
    (∃ (v : State) (g : Gate) (d : Detection), d.quality ≠ 0 ∧ d.code ≠ 0xFFFF ∧ validCode d.code = true ∧
       v.laneRefused g d.lane) ∧
    (∃ (v : State) (g : Gate) (d : Detection), d.quality ≠ 0 ∧ d.code ≠ 0xFFFF ∧ validCode d.code = true ∧
       ¬ v.laneRefused g d.lane) ∧
    (∃ d : Detection, d.quality ≠ 0 ∧ d.code ≠ 0xFFFF ∧ validCode d.code = false) :=
  ⟨⟨reading 100500 [cap 100000] none, 0, ⟨5, 0, 0⟩, by decide, by decide,
      .inr ⟨0, ⟨some 0, true, false⟩, by decide, by decide, .inl (by decide)⟩⟩,
    ⟨reading 100500 [cap 100000] none, 0, ⟨6, 1, 3⟩, by decide, by decide, by decide,
      .inr ⟨0, ⟨some 0, true, false⟩, by decide, by decide, .inr (by decide)⟩⟩,
    ⟨reading 100500 [cap 100000] none, 0, ⟨3, 1, 1⟩, by decide, by decide, by decide,
      lane_allowed (by decide) (by decide) (by decide)⟩,
    ⟨⟨0, 0xF003, 3⟩, by decide, by decide, by decide⟩⟩

theorem witness_CodedPassages :
    (∃ (s : State) (code : Code) (x : Car), s.car code = some x ∧ (s.race.state = .idle ∨ s.race.state = .grid ∨
       s.race.state = .closed)) ∧
    (∃ (s : State) (g : Gate) (code : Code) (x : Car), s.car code = some x ∧ (s.race.state = .practice ∨
       x.entered = true ∧ (s.race.state = .countdown ∨ s.race.state = .green ∨ s.race.state = .caution ∨
       s.race.state = .suspended ∨ s.race.state = .chequered)) ∧ s.pointOf g = none) ∧
    (∃ (s : State) (g : Gate) (code : Code) (x : Car) (c : Capture) (q : Nat) (p : LastPassage), s.car code = some x ∧
       (s.race.state = .practice ∨ x.entered = true ∧ s.race.state = .green) ∧ s.pointOf g = some q ∧
       x.race.last = some p ∧ p.point = q ∧ (c.time - p.capture.time).toNat < s.course.settings.rearm * 10000) ∧
    (∃ (s : State) (g : Gate) (code : Code) (x : Car) (c : Capture) (q : Nat), s.car code = some x ∧
       (s.race.state = .practice ∨ x.entered = true ∧ s.race.state = .green) ∧ s.pointOf g = some q ∧
       x.race.last.isSome = true ∧ (∀ p, x.race.last = some p → p.point = q →
         s.course.settings.rearm * 10000 ≤ (c.time - p.capture.time).toNat)) :=
  ⟨⟨track, 1, carOf 1, by decide, by decide⟩,
    ⟨racing .green, 5, 1, carOf 1, by decide, by decide, by decide⟩,
    ⟨lapping, 1, 1, lap1, cap 499999, 1, ⟨1, some 1, cap 400000, 3000⟩, by decide, by decide, by decide, by decide,
      by decide, by decide⟩,
    ⟨lapping, 1, 1, lap1, cap 500000, 1, by decide, by decide, by decide, by decide, of_some (by decide)⟩⟩

theorem witness_CodedPassages_strays :
    (∃ (s : State) (code : Code) (x : Car), s.car code = some x ∧ x.entered = false ∧ (s.race.state = .countdown ∨
       s.race.state = .green ∨ s.race.state = .caution ∨ s.race.state = .suspended ∨ s.race.state = .chequered)) ∧
    (∃ (s : State) (code : Code), s.car code = none ∧ (s.race.state ≠ .practice ∨ s.roster.learning = false)) ∧
    (∃ (s : State) (code : Code) (i : Slot), s.car code = none ∧ s.race.state = .practice ∧ s.roster.learning = true ∧
       s.roster.slots[i] = none ∧ (i = homeSlot code ∨ s.roster.slots[homeSlot code] ≠ none ∧ 64 ≤ i.val ∧
       ∀ j : Slot, 64 ≤ j.val → j.val < i.val → s.roster.slots[j] ≠ none) ∧ i ≠ homeSlot code) ∧
    (∃ (s : State) (code : Code), s.car code = none ∧ s.race.state = .practice ∧ s.roster.learning = true ∧
       s.roster.slots[homeSlot code] ≠ none ∧ (∀ j : Slot, 64 ≤ j.val → s.roster.slots[j] ≠ none)) :=
  ⟨⟨{ racing .green with roster.slots := idle1.roster.slots }, 1, { carOf 1 with entered := false, gridSlot := none },
      by decide, by decide, by decide⟩,
    ⟨racing .green, 9, by decide, by decide⟩,
    ⟨{ practice with roster.learning := true }, 0x0040, 64, by decide, by decide, by decide, by decide, by decide,
      by decide⟩,
    ⟨{ full with race.state := .practice, roster.learning := true }, 0x0040, by decide, by decide, by decide,
      by decide, by decide⟩⟩

/-- The two cars of the worked case, a prediction. -/
def near : Car :=
  { carOf 0x0A37 with race := { (carOf 0x0A37).race with
    last := some ⟨0, some 2, cap 9840000, 1⟩, refTicks := some 540000 } }
def far : Car :=
  { carOf 0x1144 with race := { (carOf 0x1144).race with last := some ⟨1, some 1, cap 9950000, 1⟩ } }

theorem near_qualifies : predictionCase.qualifies near 2 (some 2) (cap 10000000) 2000 :=
  ⟨⟨0, some 2, cap 9840000, 1⟩, 162000, 10002000, by decide, by decide, rfl, by decide, by decide,
    by unfold changePlausible; decide, by decide, by decide, by decide, by decide⟩

theorem far_not_qualifies (e : Nat) : ¬ predictionCase.qualifies far 2 (some 2) (cap 10000000) e := by
  rintro ⟨l, ticks, time, -, -, hl, -, -, -, ht, htm, hd, hw⟩
  obtain rfl : (⟨1, some 1, cap 9950000, 1⟩ : LastPassage) = l := Option.some.inj hl
  obtain rfl : ticks = 80000 := ht.trans (by decide)
  subst htm hd
  exact absurd hw (by decide)

theorem witness_AnonymousPassages :
    (∃ (s : State) (g : Gate), s.pointOf g = none) ∧
    (∃ (s : State) (g : Gate) (q : Nat), s.pointOf g = some q ∧ (s.race.state = .idle ∨ s.race.state = .grid ∨
       s.race.state = .countdown ∨ s.race.state = .closed)) ∧
    (∃ (s : State) (g : Gate) (q d : Nat) (l : Option Lane) (c : Capture) (x : Car) (before rest : List Car),
       s.pointOf g = some q ∧ s.race.state = .green ∧ s.cars = before ++ x :: rest ∧ s.qualifies x q l c d ∧
       (∀ y ∈ before ++ rest, ∀ e, s.qualifies y q l c e → d < e) ∧ (∀ p, x.race.last = some p → p.point = q →
       s.course.settings.rearm * 10000 ≤ (c.time - p.capture.time).toNat)) :=
  ⟨⟨State.reset, 5, by decide⟩,
    ⟨track, 1, 1, by decide, by decide⟩,
    ⟨predictionCase, 2, 2, 2000, some 2, cap 10000000, near, [far], [], by decide, by decide, by decide, near_qualifies,
      fun y hy e h => by
        obtain rfl : y = far := by simpa using hy
        exact absurd h (far_not_qualifies e),
      of_some (by decide)⟩⟩

/-- A car that laps within the re-arm time, and another on the same lap. -/
def quick (c : Code) : Car :=
  { carOf c with race := { (carOf c).race with last := some ⟨1, none, cap 400000, 3000⟩, refTicks := some 1000 } }
def quickCase : State := { racing .green with roster.slots := State.reset.roster.slots.set 1 (some (quick 1)) }
def twinCase : State := { quickCase with roster.slots := quickCase.roster.slots.set 2 (some (quick 2)) }

theorem witness_AnonymousPassages_rearm :
    ∃ (s : State) (g : Gate) (q d : Nat) (l : Option Lane) (c : Capture) (x : Car) (p : LastPassage),
      s.pointOf g = some q ∧ s.race.state = .green ∧ s.cars = [] ++ x :: [] ∧ s.qualifies x q l c d ∧
      x.race.last = some p ∧ p.point = q ∧ (c.time - p.capture.time).toNat < s.course.settings.rearm * 10000 :=
  ⟨quickCase, 1, 1, 0, none, cap 401000, quick 1, ⟨1, none, cap 400000, 3000⟩, by decide, by decide, by decide,
    ⟨⟨1, none, cap 400000, 3000⟩, 1000, 401000, by decide, by decide, rfl, by decide, by decide,
      by unfold changePlausible; decide, by decide, by decide, by decide, by decide⟩,
    by decide, by decide, by decide⟩

theorem witness_AnonymousPassages_joining :
    (∃ (s : State) (g : Gate) (q : Nat) (l : Option Lane) (c : Capture), s.pointOf g = some q ∧ s.race.state = .green ∧
       s.cars ≠ [] ∧ ∀ x ∈ s.cars, ∀ d, ¬ s.qualifies x q l c d) ∧
    (∃ (s : State) (g : Gate) (q : Nat) (l : Option Lane) (c : Capture) (x y : Car) (d : Nat), s.pointOf g = some q ∧
       s.race.state = .green ∧ s.cars = [] ++ x :: [] ++ y :: [] ∧ s.qualifies x q l c d ∧ s.qualifies y q l c d ∧
       ∀ z ∈ s.cars, ∀ e, s.qualifies z q l c e → d ≤ e) ∧
    (∃ (s : State) (drop : Option Unattr) (kept : List Unattr), s.former.list.length ≤ 8 ∧ 1 ≤ s.former.nextId ∧
       s.former.nextId ≤ 255 ∧ drop = (if s.former.list.length < 8 then none else s.former.list.head?) ∧
       kept = s.former.list.filter (fun a => drop.all (fun h => a.id != h.id)) ∧ drop.isSome = true) :=
  ⟨⟨racing .green, 1, 1, none, cap 400000, by decide, by decide, by decide, by
      rintro x hx d ⟨l, _, _, -, -, hl, -⟩
      have h : ∀ x ∈ (racing .green).cars, x.race.last = none := by decide
      rw [h x hx] at hl
      exact absurd hl (by simp)⟩,
    ⟨twinCase, 1, 1, none, cap 401000, quick 1, quick 2, 0, by decide, by decide, by decide,
      ⟨⟨1, none, cap 400000, 3000⟩, 1000, 401000, by decide, by decide, rfl, by decide, by decide,
        by unfold changePlausible; decide, by decide, by decide, by decide, by decide⟩,
      ⟨⟨1, none, cap 400000, 3000⟩, 1000, 401000, by decide, by decide, rfl, by decide, by decide,
        by unfold changePlausible; decide, by decide, by decide, by decide, by decide⟩,
      fun _ _ _ _ => Nat.zero_le _⟩,
    ⟨{ racing .green with
        former.list := [1, 2, 3, 4, 5, 6, 7, 8].map (fun n => strayAnon n 200000), former.nextId := 255 },
      some (strayAnon 1 200000), [2, 3, 4, 5, 6, 7, 8].map (fun n => strayAnon n 200000), by decide, by decide,
      by decide, by decide, by decide, by decide⟩⟩

theorem witness_AutomaticCalls :
    (∃ s : State, 32 ≤ s.pen.list.length ∧ (∀ r ∈ s.pen.list, r.state = .review ∨ r.state = .confirmed ∨
       r.state = .serving)) ∧
    (∀ k : Fin 6, ∃ (s : State) (c : Code) (x : Car) (row : ScheduleRow), s.car c = some x ∧ s.pen.list.length ≤ 32 ∧
       1 ≤ s.pen.nextId ∧ s.pen.nextId ≤ 255 ∧ (s.pen.list.length < 32 ∨ ∃ r ∈ s.pen.list, r.state = .served ∨
       r.state = .waived ∨ r.state = .converted) ∧ row = s.pen.schedule[k] ∧ s.pen.list.length = 32) :=
  ⟨⟨{ racing .green with pen.list := List.replicate 32 (callOf 4 .serving .stopGo) }, by decide, by decide⟩,
    fun _ => ⟨crowded, 1, carOf 1, _, by decide, by decide, by decide, by decide, by decide, rfl, by decide⟩⟩

/-- Each branch of an automatic call: at once, AUTO_CONFIRM and AUTO_WAIVE with no window, and a review. -/
theorem witness_AutomaticCalls_modes :
    (∃ (s : State) (k : Fin 6), s.pen.schedule[k].mode = .immediate) ∧
    (∃ (s : State) (k : Fin 6), s.pen.schedule[k].mode = .autoConfirm ∧ s.pen.schedule[k].window = 0) ∧
    (∃ (s : State) (k : Fin 6), s.pen.schedule[k].mode = .autoWaive ∧ s.pen.schedule[k].window = 0) ∧
    (∃ (s : State) (k : Fin 6), s.pen.schedule[k].mode = .autoConfirm ∧ s.pen.schedule[k].window ≠ 0) :=
  ⟨⟨State.reset, 4, by decide⟩,
    ⟨{ State.reset with pen.schedule := defaultSchedule.set 1 ⟨.time, 5, .autoConfirm, 0, 10⟩ }, 1,
      by decide, by decide⟩,
    ⟨{ State.reset with pen.schedule := defaultSchedule.set 1 ⟨.time, 5, .autoWaive, 0, 10⟩ }, 1,
      by decide, by decide⟩,
    ⟨State.reset, 1, by decide, by decide⟩⟩

theorem witness_ServingPenalties :
    (∃ (s : State) (c : Code) (r : Penalty), s.queueHead c = some r ∧ r.state = .serving) ∧
    (∃ (s : State) (c : Code) (r : Penalty), s.queueHead c = some r ∧ r.state = .confirmed) ∧
    (∃ (s : State) (x : Passage) (y : Car) (q : CoursePoint) (r : Penalty), s.car x.code = some y ∧
       s.course.points[x.point]? = some q ∧ q.serving = true ∧ s.race.state.racing = true ∧
       (q.pit = true → x.lane = some 6) ∧ s.queueHead x.code = some r ∧ r.state = .confirmed ∧ r.outcome = .stopGo) ∧
    (∃ (s : State) (x : Passage), s.race.state.racing = false ∨ (∀ q, s.course.points[x.point]? = some q →
       q.serving = false ∨ q.pit = true ∧ x.lane ≠ some 6) ∨ ∀ r, s.queueHead x.code = some r →
       r.state ≠ .confirmed ∨ r.outcome ≠ .stopGo) :=
  ⟨⟨queued calls, 1, callOf 4 .serving .stopGo, by decide, by decide⟩,
    ⟨queued [callOf 5 .confirmed .lockout, callOf 6 .confirmed .stopGo], 1, callOf 5 .confirmed .lockout, by decide,
      by decide⟩,
    ⟨queued [callOf 5 .confirmed .stopGo], ⟨1, 0, none, cap 500000, .coded⟩, carOf 1, ⟨some 0, true, false⟩,
      callOf 5 .confirmed .stopGo, by decide, by decide, by decide, by decide, by decide, by decide, by decide,
      by decide⟩,
    ⟨queued [callOf 5 .confirmed .stopGo], ⟨1, 1, none, cap 500000, .coded⟩, .inr (.inl (of_some (by decide)))⟩⟩

theorem witness_ServingPenalties_laps :
    (∃ (s : State) (c : Code) (r : Penalty), s.servingRecord c = some r ∧ (r.outcome = .driveThrough ∨
       r.outcome = .lockout ∧ r.lockoutLeft.getD 0 ≤ 1)) ∧
    (∃ (s : State) (c : Code) (r : Penalty) (n : Nat), s.servingRecord c = some r ∧ r.outcome = .lockout ∧
       r.lockoutLeft = some (n + 2)) ∧
    (∃ (s : State) (c : Code), ∀ r, s.servingRecord c = some r → r.outcome ≠ .driveThrough ∧ r.outcome ≠ .lockout) ∧
    (∃ (s : State) (c : Code) (r r1 : Penalty), s.queueHead c = some r ∧ r.state = .confirmed ∧
       (r.outcome = .driveThrough ∧ r1 = { r with state := .serving } ∨ r.outcome = .lockout ∧
       r1 = { r with state := .serving, lockoutLeft := some r.amount })) ∧
    (∃ (s : State) (c : Code), ∀ r, s.queueHead c = some r → r.state ≠ .confirmed ∨ r.outcome = .stopGo) ∧
    (∃ (s : State) (c : Code) (r : Penalty), s.queueHead c = some r ∧ r.state = .confirmed ∧ r.lapsAsHead.getD 0 < 2) ∧
    (∃ (s : State) (c : Code) (y : Car) (r : Penalty), s.car c = some y ∧ s.queueHead c = some r ∧
       r.state = .confirmed ∧ 2 ≤ r.lapsAsHead.getD 0) ∧
    (∃ (s : State) (c : Code), ∀ r, s.queueHead c = some r → r.state ≠ .confirmed) :=
  ⟨⟨queued [{ callOf 5 .serving .lockout with lockoutLeft := some 1 }], 1,
      { callOf 5 .serving .lockout with lockoutLeft := some 1 }, by decide, by decide⟩,
    ⟨queued [{ callOf 5 .serving .lockout with lockoutLeft := some 2 }], 1,
      { callOf 5 .serving .lockout with lockoutLeft := some 2 }, 0, by decide, by decide, by decide⟩,
    ⟨queued [callOf 4 .serving .stopGo], 1, of_some (by decide)⟩,
    ⟨queued [callOf 5 .confirmed .lockout], 1, callOf 5 .confirmed .lockout, _, by decide, by decide,
      .inr ⟨by decide, rfl⟩⟩,
    ⟨queued [callOf 5 .confirmed .stopGo], 1, of_some (by decide)⟩,
    ⟨queued [{ callOf 5 .confirmed .stopGo with lapsAsHead := some 1 }], 1,
      { callOf 5 .confirmed .stopGo with lapsAsHead := some 1 }, by decide, by decide, by decide⟩,
    ⟨queued [{ callOf 5 .confirmed .stopGo with lapsAsHead := some 2 }], 1, carOf 1,
      { callOf 5 .confirmed .stopGo with lapsAsHead := some 2 }, by decide, by decide, by decide, by decide⟩,
    ⟨queued [callOf 5 .serving .stopGo], 1, of_some (by decide)⟩⟩

/-- A lap counted from the last passage; one from the line of a car with no last passage; one lost past point 0. -/
theorem witness_LapTable :
    (∃ (s : State) (y : Car) (x : Passage) (p len : Nat), s.car x.code = some y ∧ s.race.state = .green ∧
       y.race.state = .running ∧ x.point < s.course.points.length ∧ p < s.course.points.length ∧ (∃ l,
       y.race.last = some l ∧ p = l.point ∧ s.sinceGreen l.capture.time < s.sinceGreen x.capture.time) ∧
       s.sinceGreen x.capture.time ≤ s.elapsed ∧ x.capture.tag.race = .green ∧ (x.point = 0 ∨ x.point ≤ p) ∧
       len = s.lengthTo p x.point ∧ len ≤ s.course.settings.missTolerance + 1 ∧ y.race.lapState ≠ .closed) ∧
    (∃ (s : State) (y : Car) (x : Passage) (p len : Nat), s.car x.code = some y ∧ s.race.state = .green ∧
       y.race.state = .running ∧ x.point < s.course.points.length ∧ p < s.course.points.length ∧
       (y.race.last = none ∧ y.race.lapState ≠ .closed ∧ p = 0) ∧ s.sinceGreen x.capture.time ≤ s.elapsed ∧
       x.capture.tag.race = .green ∧ (x.point = 0 ∨ x.point ≤ p) ∧ len = s.lengthTo p x.point) ∧
    (∃ (s : State) (y : Car) (x : Passage) (p len : Nat), s.car x.code = some y ∧ s.race.state = .green ∧
       y.race.state = .running ∧ x.point < s.course.points.length ∧ p < s.course.points.length ∧ (∃ l,
       y.race.last = some l ∧ p = l.point ∧ s.sinceGreen l.capture.time < s.sinceGreen x.capture.time) ∧
       s.sinceGreen x.capture.time ≤ s.elapsed ∧ x.capture.tag.race = .green ∧ (x.point = 0 ∨ x.point ≤ p) ∧
       len = s.lengthTo p x.point ∧ s.course.settings.missTolerance + 1 < len ∧ y.race.lapState ≠ .closed ∧
       s.serveQueue x.code = []) :=
  ⟨⟨lapping, lap1, ⟨1, 0, some 2, cap 599000, .coded⟩, 1, 1, by decide, by decide, by decide, by decide, by decide,
      ⟨⟨1, some 1, cap 400000, 3000⟩, by decide⟩, by decide, by decide, by decide, by decide, by decide, by decide⟩,
    ⟨racing .green, carOf 1, ⟨1, 0, some 2, cap 599000, .coded⟩, 0, 2, by decide, by decide, by decide, by decide,
      by decide, by decide, by decide, by decide, by decide, by decide⟩,
    ⟨lapCase 2250000 (onLap 2 1 1800000 .openTimed (some 1535000) 1),
      { carOf 0x0A37 with drive := 3, race := onLap 2 1 1800000 .openTimed (some 1535000) 1 },
      ⟨0x0A37, 1, some 1, cap 2250000, .coded⟩, 2, 3, by decide, by decide, by decide, by decide, by decide,
      ⟨⟨2, some 1, cap 1800000, 8000⟩, by decide⟩, by decide, by decide, by decide, by decide, by decide, by decide,
      by decide⟩⟩

/-- A clean lap and one with the flag CAUTION; a car that opens its first lap; a later point of the same lap. -/
theorem witness_LapTable_timed :
    (∀ clean : Bool, ∃ (s : State) (y : Car) (x : Passage) (l : LastPassage) (o : LapStart) (ticks : Nat),
       s.car x.code = some y ∧ s.race.state = .green ∧ y.race.state = .running ∧ x.point = 0 ∧
       l.point < s.course.points.length ∧ y.race.last = some l ∧ s.sinceGreen l.capture.time <
       s.sinceGreen x.capture.time ∧ s.sinceGreen x.capture.time ≤ s.elapsed ∧ (x.capture.tag.race = .green ∨
       x.capture.tag.race = .caution) ∧ s.lengthTo l.point 0 ≤ s.course.settings.missTolerance + 1 ∧
       y.race.lapState = .openTimed ∧ y.race.lapStart = some o ∧
       ticks = (x.capture.time - o.time).toNat - (x.capture.neutral - o.neutral).toNat ∧
       (clean = true ↔ o.tag.cautionEpoch = x.capture.tag.cautionEpoch ∧ o.tag.race ≠ .caution ∧
       x.capture.tag.race ≠ .caution ∧ ¬ (o.tag.race = .chequered ∧ o.tag.held = true) ∧
       ¬ (x.capture.tag.race = .chequered ∧ x.capture.tag.held = true) ∧
       o.tag.suspensionEpoch = x.capture.tag.suspensionEpoch ∧ o.tag.race ≠ .suspended ∧
       x.capture.tag.race ≠ .suspended ∧ ticks / 100 ≤ 16777215 ∧ (x.origin = .coded ∨ x.origin = .shared) ∧
       y.race.serving = false)) ∧
    (∃ (s : State) (y : Car) (x : Passage), s.car x.code = some y ∧ s.race.state = .green ∧ y.race.state = .running ∧
       x.point < s.course.points.length ∧ y.race.last = none ∧ y.race.lapState = .closed ∧
       s.sinceGreen x.capture.time ≤ s.elapsed ∧ x.capture.tag.race = .green) ∧
    (∃ (s : State) (y : Car) (x : Passage) (l : LastPassage), s.car x.code = some y ∧ s.race.state = .green ∧
       y.race.state = .running ∧ y.race.last = some l ∧ l.point < x.point ∧ x.point < s.course.points.length ∧
       s.sinceGreen l.capture.time < s.sinceGreen x.capture.time ∧ s.sinceGreen x.capture.time ≤ s.elapsed ∧
       x.capture.tag.race = .green) :=
  ⟨fun clean => ⟨lapping, lap1,
      ⟨1, 0, some 2, ⟨599000, 0, ⟨if clean then .green else .caution, false, 0, 0⟩, 0⟩, .coded⟩,
      ⟨1, some 1, cap 400000, 3000⟩, ⟨150000, 0, ⟨.green, false, 0, 0⟩⟩, 449000, by revert clean; decide⟩,
    ⟨watched .green .call, fresh1, ⟨1, 0, some 2, cap 599000, .coded⟩, by decide, by decide, by decide, by decide,
      by decide, by decide, by decide, by decide⟩,
    ⟨lapCase 1330000 (onLap 0 1 1250000 .openTimed (some 1150000) 0),
      { carOf 0x0A37 with drive := 3, race := onLap 0 1 1250000 .openTimed (some 1150000) 0 },
      ⟨0x0A37, 3, some 1, cap 1330000, .coded⟩, ⟨0, some 1, cap 1250000, 2500⟩, by decide, by decide, by decide,
      by decide, by decide, by decide, by decide, by decide, by decide⟩⟩

/-- The lane change of the worked case, with its LANE call, and the rejoin of the worked case, with its REJOIN call. -/
theorem witness_RejoinAndChecks :
    ∀ off : Bool, ∃ (s : State) (y : Car) (x : Passage) (l : LastPassage) (sp : List Sector) (ticks : Nat)
      (mark differ change : Bool) (calls : List (Fin 6)), s.car x.code = some y ∧ s.race.state = .green ∧
      x.capture.tag.race = .green ∧ (y.race.state = .running ∧ off = false ∨ y.race.state = .offTrack ∧ off = true) ∧
      y.race.last = some l ∧ s.sinceGreen l.capture.time < s.sinceGreen x.capture.time ∧
      s.sinceGreen x.capture.time ≤ s.elapsed ∧ l.point < x.point ∧ x.point < s.course.points.length ∧
      x.point - l.point ≤ s.course.settings.missTolerance + 1 ∧
      (∀ q, s.course.points[x.point]? = some q → q.serving = false) ∧
      sp = s.spanned l.point (x.point - l.point) ∧
      ticks = (x.capture.time - l.capture.time).toNat - (x.capture.neutral - l.capture.neutral).toNat ∧
      (mark = true ↔ ¬ changePlausible sp l.lane x.lane) ∧
      (differ = true ↔ ∃ a b : Lane, l.lane = some a ∧ x.lane = some b ∧ a ≠ b) ∧
      (change = true ↔ ∃ a b : Lane, l.lane = some a ∧ x.lane = some b ∧ a ≠ b ∧ a.val < 6 ∧ b.val < 6) ∧
      calls =
        (if off = true ∧ differ = true ∧ (s.course.sectors.getD l.point Sector.initial).laneRule = .closed
          then [5] else [])
        ++ (if off = false ∧ change = true ∧ ∀ a ∈ sp, a.laneRule = .closed then [2] else [])
        ++ (if change = true ∧ (l.capture.tag.race = .caution
          ∨ l.capture.tag.race = .chequered ∧ l.capture.tag.held = true) then [3] else [])
        ++ (if off = false ∧ ticks < 100 * (sp.map Sector.minimum).sum then [1] else [])
        ++ (if off = false ∧ l.lane = some 6 ∧ x.lane = some 6 ∧ (∀ a ∈ sp, a.pitRule = .within)
          ∧ ticks < 100 * (sp.map Sector.pitMinimum).sum then [4] else []) ∧
      calls = (if off then [5] else [2]) := by
  intro off
  let r : RacePart := { onLap 1 2 1250000 .openTimed (some 1150000) 0 with
    state := if off then .offTrack else .running, silence := none }
  refine ⟨lapCase 1330000 r, { carOf 0x0A37 with drive := 3, race := r }, ⟨0x0A37, 2, some 1, cap 1330000, .coded⟩,
    ⟨1, some 2, cap 1250000, 2500⟩, _, _, false, true, true, if off then [5] else [2], ?_, ?_, ?_, ?_, ?_, ?_, ?_, ?_,
    ?_, ?_, of_some ?_, rfl, rfl, ?_, ?_, ?_, ?_, ?_⟩ <;> revert off <;> (try unfold changePlausible) <;> decide

/-- No jump, a jump with RESTART, and one with CALL. -/
theorem witness_JumpHandling :
    ∀ j : JumpAction, ∃ (s : State) (y : Car) (x : Passage), s.car x.code = some y ∧ s.race.state = .countdown ∧
      y.race.state ≠ .finished ∧ y.race.state ≠ .retired ∧ x.point < s.course.points.length ∧
      (∀ l, y.race.last = some l → s.sinceGreen l.capture.time < s.sinceGreen x.capture.time) ∧
      s.jumps y.race x.capture ∧ s.course.settings.jump = j ∧
      ¬ ({ s with race.watchStart := none } : State).jumps y.race x.capture := by
  intro j
  have none_ : ¬ ({ watched .countdown j with race.watchStart := none } : State).jumps fresh1.race (early 100000) := by
    rintro ⟨-, -, w, h, -⟩
    exact absurd h (by simp)
  cases j <;>
    exact ⟨watched .countdown _, fresh1, ⟨1, 0, none, early 100000, .coded⟩, by decide, by decide, by decide, by decide,
      by decide, of_some (by decide), ⟨by decide, by decide, 100000, by decide, by decide⟩, rfl, none_⟩

theorem witness_JumpHandling_after_green :
    ∃ (s : State) (y : Car) (x : Passage), s.car x.code = some y ∧ s.race.state = .green ∧
      x.capture.tag.race = .countdown ∧ y.race.state ≠ .finished ∧ y.race.state ≠ .retired ∧
      x.point < s.course.points.length ∧
      (∀ l, y.race.last = some l → s.sinceGreen l.capture.time < s.sinceGreen x.capture.time) ∧
      s.jumps y.race x.capture ∧ x.point = 0 ∧ s.course.settings.gridPosition = .behindLine ∧
      y.race.lapState = .closed ∧ y.race.last = none :=
  ⟨watched .green .call, fresh1, ⟨1, 0, none, early 100000, .coded⟩, by decide, by decide, by decide, by decide,
    by decide, by decide, of_some (by decide), ⟨by decide, by decide, 100000, by decide, by decide⟩, by decide,
    by decide, by decide, by decide⟩

theorem witness_Finishing :
    (∃ (s : State) (c : Code) (x : Car) (n : Nat), s.car c = some x ∧ x.race.state = .running ∧
       s.race.state = .chequered ∧ s.position c = some n ∧ (s.pen.list.map Penalty.id).Nodup ∧ s.serveQueue c ≠ []) ∧
    (∃ (s : State) (c : Code) (x : Car) (n : Nat), s.car c = some x ∧ x.race.state = .running ∧ x.entered = true ∧
       (s.race.state = .green ∨ s.race.state = .caution) ∧ s.course.settings.mode = .laps ∧
       s.course.settings.limit ≤ x.race.effective ∧ s.course.settings.limit = 3 ∧ s.position c = some n ∧
       s.serveQueue c = []) ∧
    (∃ (s : State) (c : Code) (x : Car), s.car c = some x ∧ (x.race.state ≠ .running ∨ s.race.state ≠ .chequered ∧
       ((s.race.state ≠ .green ∧ s.race.state ≠ .caution) ∨ s.course.settings.mode = .time ∨
       x.race.effective < s.course.settings.limit))) ∧
    (∃ (s : State) (y : Car) (x : Passage) (l : LastPassage) (before rest : List Car), s.car x.code = some y ∧
       s.cars = before ++ y :: rest ∧ s.race.state = .chequered ∧ (y.race.state = .running ∨
       y.race.state = .offTrack) ∧ x.point < s.course.points.length ∧ l.point < s.course.points.length ∧
       y.race.last = some l ∧ s.sinceGreen l.capture.time < s.sinceGreen x.capture.time ∧
       s.sinceGreen x.capture.time ≤ s.elapsed ∧ x.capture.tag.race = .green ∧ (x.point = 0 ∨ x.point ≤ l.point) ∧
       s.lengthTo l.point x.point ≤ s.course.settings.missTolerance + 1 ∧ y.race.lapState ≠ .closed ∧
       (∀ e ∈ before ++ rest, e.entered = true → e.race.state = .finished ∨ e.race.state = .retired)) :=
  ⟨⟨{ lapping with
        race.state := .chequered, pen.list := [callOf 4 .serving .stopGo, callOf 5 .confirmed .lockout]
        stand := ⟨[⟨1, 3, 0, 1⟩], true, false, 0⟩ }, 1, lap1, 1, by decide, by decide, by decide, by decide, by decide,
      by decide⟩,
    ⟨{ lapping with
        course.settings := { Settings.default with limit := 3 }, stand := ⟨[⟨1, 3, 0, 1⟩], true, false, 0⟩ },
      1, lap1, 1, by decide, by decide, by decide, by decide, by decide, by decide, by decide, by decide, by decide⟩,
    ⟨lapping, 1, lap1, by decide, by decide⟩,
    ⟨{ lapping with race.state := .chequered }, lap1, ⟨1, 0, some 2, cap 599000, .coded⟩,
      ⟨1, some 1, cap 400000, 3000⟩, [], [], by decide, by decide, by decide, by decide, by decide, by decide,
      by decide, by decide, by decide, by decide, by decide, by decide, by decide, by decide⟩⟩

/-- Of the same finish, another car still going. -/
theorem witness_Finishing_others :
    ∃ (s : State) (before rest : List Car), s.race.state = .chequered ∧ s.cars = before ++ lap1 :: rest ∧
      ∃ e ∈ before ++ rest, e.entered = true ∧ e.race.state ≠ .finished ∧ e.race.state ≠ .retired :=
  ⟨{ lapping with race.state := .chequered, roster.slots := lapping.roster.slots.set 2 (some (carOf 2)) }, [],
    [carOf 2], by decide, by decide, by decide⟩

/-! ## A close that changes the leader and changes it back (R159, R178, R179) -/

/-- A car with one lap counted. -/
def counted1 (c : Code) : Car :=
  { carOf c with race := { (carOf c).race with counted := 1, lastCountedMs := 4000 } }

/-- Two cars, each with a TIME call in review, the first leading. -/
def closeCase : State :=
  { racing .green with
    pen.list := [{ callOf 1 .review .time with amount := 9 }, { callOf 2 .review .time with code := 2, amount := 9 }]
    roster.slots := (State.reset.roster.slots.set 1 (some (counted1 1))).set 2 (some (counted1 2))
    stand := ⟨[⟨1, 1, 4000, 1⟩, ⟨2, 1, 4000, 2⟩], true, false, 0⟩ }

/-- CLOSE: car 1 is settled and handed on and car 2 leads; then car 2 is, and car 1 leads again: two LEADER notices. -/
theorem test_close_leader_changes_back :
    (after (.close .A 1 []) closeCase).map (fun t => t.journal.ring.filterMap (fun e =>
      match e.notice with
      | .leader c .. => some c
      | _ => none)) = some [2, 1] := by decide

/-! ## The lap start in QUERY_CAR (R9, R65, R76) -/

/-- 12,345 ticks are 123 ms and 30,099 ticks are 300 ms, rounded down (R9), least-significant byte first (R198). -/
theorem test_query_car_lap_start : lapStartBytes (some ⟨12345, 30099, ⟨.green, false, 2, 1⟩⟩)
    = [123, 0, 0, 0, 44, 1, 0, 0, 2, 1] := by decide

end Sys2Proof.Tests
end

section
/-! PROOFS. What the port of a served request shows after it: a refusal leaves everything but the ports alone, and the
status of the reply is the one the request's own work gave. -/

namespace Sys2Proof.Machine

open Sys2Proof

/-! ## The ports' own changes -/

theorem State.onlyPorts_trans {s u t : State} (hu : s.onlyPorts u) (ht : u.onlyPorts t) : s.onlyPorts t := by
  rw [State.onlyPorts, ht, hu]

/-- Taking a frame and engaging the port do not begin or end a transmission. -/
@[simp] theorem State.taken_tx (s : State) (p : PortId) (frame : List Byte) :
    (((s.frameTaken p frame).engage p).port p).tx = (s.port p).tx := by
  simp [State.engage, State.frameTaken]

/-- A request refused by its own rule is answered with that status and changes nothing but the ports (R186, R187). -/
theorem State.serve_refused {s : State} {p : PortId} {kind tag : Byte} {payload : List Byte} {onlyA : Bool} {len : Nat}
    {body : State → Served} {st : ReplyStatus} (h : s.takes p kind tag payload) (hp : onlyA = true → p = .A)
    (hl : payload.length = len) (hb : ∀ u : State, s.onlyPorts u → body u = refuse st u) :
    ∃ t, s.serve p kind tag payload onlyA len body = .next t ∧ t.answered p kind tag st [] ∧ s.onlyPorts t := by
  have hu := s.taken_onlyPorts p (ltFrame kind tag payload)
  obtain ⟨t, ht, ha, ho⟩ := State.serve_answered h hp hl (hb _ hu) (by simp)
  exact ⟨t, ht, ha, State.onlyPorts_trans hu ho⟩

/-! ## The status of a reply -/

/-- The status codes of R200 fit a byte and differ. -/
theorem ReplyStatus.toCode_inj {a b : ReplyStatus} (h : BitVec.ofNat 8 a.toCode = BitVec.ofNat 8 b.toCode) : a = b := by
  revert h
  cases a <;> cases b <;> decide

/-- Two equal REPLY frames carry the same status. -/
theorem replyFrame_status {kind tag : Byte} {a b : Answer} (h : replyFrame kind tag a = replyFrame kind tag b) :
    a.status = b.status := by
  have hs : ∀ c : Answer, (replyFrame kind tag c)[5]? = some (BitVec.ofNat 8 c.status.toCode) := fun _ => rfl
  exact ReplyStatus.toCode_inj (Option.some.inj (by rw [← hs a, ← hs b, h]))

/-- An idle transmitter finds one reply, so the reply that waits or is sent once it has chosen is that one (R189). -/
theorem Port.choose_reply_unique {p : Port} {j : Journal} {r q : List Byte} (htx : p.tx = none)
    (hr : p.reply = some r) (h : (p.choose j).reply = some q ∨ (p.choose j).tx = some ⟨.reply, q⟩) : q = r := by
  unfold Port.choose at h
  cases hb : p.busyList with
  | nil => simpa [htx, hr, hb, eq_comm] using h
  | cons t rest => simpa [htx, hr, hb, eq_comm] using h

/-! ## Requests taken on either port -/

/-- A request of the right length that either port may send is judged by its own rule (R186). -/
theorem judge_eitherPort {p : PortId} {payload : List Byte} {len : Nat} (hl : payload.length = len)
    (body : State → Served) (u : State) : judge p payload false len body u = body u := by
  simp [judge, hl]

section
variable {s s1 t : State} {p : PortId} {kind tag : Byte} {payload : List Byte} {len : Nat} {body : State → Served}
  {a : Answer}

/-- The state after a request taken on either port: its own work, the reply put in place, the transmitters' choice. -/
theorem State.serve_eq_replied (h : s.takes p kind tag payload) (hl : payload.length = len)
    (hb : body ((s.frameTaken p (ltFrame kind tag payload)).engage p) = (s1, some a))
    (ht : s.serve p kind tag payload false len body = .next t) :
    t = (s1.putReply p (replyFrame kind tag a)).transmit := by
  rw [State.serve_of_takes _ _ _ h, judge_eitherPort hl, hb] at ht
  cases ht
  rfl

/-- From an idle transmitter the reply shows the status that the request's own work gave (R187, R189). -/
theorem State.serve_status {st : ReplyStatus} {data : List Byte} (h : s.takes p kind tag payload)
    (hl : payload.length = len)
    (hb : body ((s.frameTaken p (ltFrame kind tag payload)).engage p) = (s1, some a))
    (htx : (s1.port p).tx = none) (ht : s.serve p kind tag payload false len body = .next t)
    (ha : t.answered p kind tag st data) : a.status = st := by
  obtain ⟨-, hreply⟩ := ha
  rw [State.serve_eq_replied h hl hb ht, State.transmit_port] at hreply
  have hframe : replyFrame kind tag ⟨st, data⟩ = replyFrame kind tag a :=
    Port.choose_reply_unique (by simpa [State.putReply] using htx) (by simp [State.putReply]) hreply
  exact (replyFrame_status hframe).symm

end

end Sys2Proof.Machine
end

section
/-! PROOFS. The unattributed list under ASSIGN and DISCARD (R54, R55). -/

namespace Sys2Proof.Machine

open Sys2Proof

/-! ## Operands -/

theorem idOf_of_ne {b : Byte} (h : b ≠ 0) : idOf b = some b.toNat := if_neg h

/-- A code field reads back the code written (R198). -/
@[simp] theorem codeAt_cons_codeBytes (b : Byte) (c : Code) : codeAt (b :: codeBytes c) 1 = c := by
  apply BitVec.eq_of_toNat_eq
  have := c.isLt
  simp [codeAt, wordAt, natAt, byteAt, codeBytes, u16]
  omega

theorem carCodeOf_cons_codeBytes (b : Byte) {c : Code} (h : validCode c = true) :
    carCodeOf (b :: codeBytes c) 1 = some c := by
  simp [carCodeOf, h]

/-! ## The list -/

theorem State.unattr_eq_none_iff {s : State} {id : Nat} : s.unattr id = none ↔ ∀ r ∈ s.former.list, r.id ≠ id := by
  simp [State.unattr]

theorem State.unattr_id {s : State} {id : Nat} {r : Unattr} (h : s.unattr id = some r) : r.id = id := by
  simpa using List.find?_some h

theorem State.unattr_of_onlyPorts {s u : State} (h : s.onlyPorts u) (id : Nat) : u.unattr id = s.unattr id := by
  rw [h]; rfl

theorem State.unattr_none_of_onlyPorts {s u : State} {id : Nat} (h : s.onlyPorts u)
    (hr : ∀ r ∈ s.former.list, r.id ≠ id) : u.unattr id = none :=
  (State.unattr_of_onlyPorts h id).trans (State.unattr_eq_none_iff.mpr hr)

/-- A record dropped from the list takes its identifier with it. -/
theorem State.dropUnattr_no_id (s : State) (r : Unattr) (g : GoneReason) (c : Code) :
    ∀ x ∈ (s.dropUnattr r g c).former.list, x.id ≠ r.id := by
  simp [State.dropUnattr]

/-! ## DISCARD -/

/-- A record after its DISCARD: off the list, noticed and counted (R55). -/
def State.discardRecord (s : State) (r : Unattr) : State :=
  (s.dropUnattr r .discarded 0).tallyPassage (fun t => { t with discarded := t.discarded + 1 })

theorem State.discard_of_none {s : State} {id : Nat} (h : s.unattr id = none) : s.discard id = refuse .notFound s := by
  simp [State.discard, h]

theorem State.discard_of_some {s : State} {id : Nat} {r : Unattr} (h : s.unattr id = some r) :
    s.discard id = ok [] (s.discardRecord r) := by
  simp [State.discard, State.discardRecord, h]

/-- What a discarded record changes and leaves unchanged (R55, R57, R193). -/
theorem State.discardRecord_frame (s : State) (r : Unattr) :
    s.discardRecord r = { s with
      former := { s.former with
        list := s.former.list.filter (fun x => x.id != r.id)
        tallies := { s.former.tallies with discarded := s.former.tallies.discarded + 1 } }
      journal := s.journal.added s.raceMs (.unattributedGone r.id r.origin .discarded 0)
      portA := s.portA.overrun s.journal
      portB := s.portB.overrun s.journal } := rfl

theorem State.discardRecord_engaged (s : State) (r : Unattr) (p : PortId) :
    ((s.discardRecord r).port p).engaged = (s.port p).engaged := by
  cases p <;> simp [State.discardRecord_frame, State.port]

/-- What DISCARD does with its payload (R55). -/
def discardRequest (payload : List Byte) (u : State) : Served :=
  match idOf (byteAt payload 0) with
  | some id => u.discard id
  | none => refuse .badArgument u

theorem exec_discard (p : PortId) (tag : Byte) (payload : List Byte) (s : State) :
    exec (.discard p tag payload) s = s.serve p 0x23 tag payload false 1 (discardRequest payload) := rfl

theorem discardRequest_zero (u : State) : discardRequest [0] u = refuse .badArgument u := rfl

theorem discardRequest_of_ne {b : Byte} (hb : b ≠ 0) (u : State) : discardRequest [b] u = u.discard b.toNat := by
  simp only [discardRequest, byteAt, List.getD_cons_zero, idOf_of_ne hb]

theorem exec_discard_zero {s : State} {p : PortId} {tag : Byte} (h : s.takes p 0x23 tag [0]) :
    ∃ t, exec (.discard p tag [0]) s = .next t ∧ t.answered p 0x23 tag .badArgument [] ∧ s.onlyPorts t := by
  rw [exec_discard]
  exact State.serve_refused h (by simp) rfl (fun u _ => discardRequest_zero u)

theorem exec_discard_absent {s : State} {p : PortId} {tag b : Byte} (h : s.takes p 0x23 tag [b]) (hb : b ≠ 0)
    (hr : ∀ r ∈ s.former.list, r.id ≠ b.toNat) :
    ∃ t, exec (.discard p tag [b]) s = .next t ∧ t.answered p 0x23 tag .notFound [] ∧ s.onlyPorts t := by
  rw [exec_discard]
  refine State.serve_refused h (by simp) rfl (fun u hu => ?_)
  rw [discardRequest_of_ne hb, State.discard_of_none (State.unattr_none_of_onlyPorts hu hr)]

/-- An accepted DISCARD is the record's removal from the state in which the frame has been taken. -/
theorem exec_discard_present {s : State} {p : PortId} {tag b : Byte} {r : Unattr} (h : s.takes p 0x23 tag [b])
    (hb : b ≠ 0) (hr : s.unattr b.toNat = some r) :
    ∃ u t, s.onlyPorts u ∧ exec (.discard p tag [b]) s = .next t ∧ t.answered p 0x23 tag .ok [] ∧
      (u.discardRecord r).onlyPorts t := by
  have hu := s.taken_onlyPorts p (ltFrame 0x23 tag [b])
  have hwork := (discardRequest_of_ne hb _).trans (State.discard_of_some ((State.unattr_of_onlyPorts hu _).trans hr))
  obtain ⟨t, ht, ha, ho⟩ := State.serve_answered h (onlyA := false) (by simp) rfl hwork
    (by simp [State.discardRecord_engaged])
  exact ⟨_, t, hu, ht, ha, ho⟩

/-! ## ASSIGN -/

/-- What ASSIGN does with its payload (R54). -/
def assignRequest (payload : List Byte) (u : State) : Served :=
  match idOf (byteAt payload 0), carCodeOf payload 1 with
  | some id, some code => u.assign id code
  | _, _ => refuse .badArgument u

theorem exec_assign (p : PortId) (tag : Byte) (payload : List Byte) (s : State) :
    exec (.assign p tag payload) s = s.serve p 0x22 tag payload false 3 (assignRequest payload) := rfl

theorem assignRequest_legal {b : Byte} {c : Code} (hb : b ≠ 0) (hc : validCode c = true) (u : State) :
    assignRequest (b :: codeBytes c) u = u.assign b.toNat c := by
  simp only [assignRequest, byteAt, List.getD_cons_zero, idOf_of_ne hb, carCodeOf_cons_codeBytes b hc]

theorem State.assign_of_none {s : State} {id : Nat} (c : Code) (ha : s.race.state.assignable = true)
    (h : s.unattr id = none) : s.assign id c = refuse .notFound s := by
  simp [State.assign, ha, h]

/-- ASSIGN either accepts a record of the list or refuses with a status other than OK (R54). -/
theorem State.assign_cases (s : State) (id : Nat) (c : Code) :
    (∃ r, s.unattr id = some r ∧ s.assign id c = ok [] (s.assignTo r c)) ∨
      ∃ st, st ≠ .ok ∧ s.assign id c = refuse st s := by
  unfold State.assign
  split
  · split
    · rename_i r x hr hx
      split
      · split
        · exact .inr ⟨.stale, by decide, rfl⟩
        · exact .inl ⟨r, hr, rfl⟩
      · exact .inr ⟨.notFound, by decide, rfl⟩
    · exact .inr ⟨.notFound, by decide, rfl⟩
  · exact .inr ⟨.refusedState, by decide, rfl⟩

/-- The passage that an accepted ASSIGN hands on puts no record back on the list. -/
theorem State.assignTo_no_id (s : State) (r : Unattr) (c : Code) :
    ∀ x ∈ (s.assignTo r c).former.list, x.id ≠ r.id := by
  simpa [State.assignTo] using s.dropUnattr_no_id r .assigned c

/-- The work of ASSIGN on an id byte: OK with no record of that id left, or a refusal. -/
theorem assignRequest_cases (b : Byte) (rest : List Byte) (u : State) :
    (∃ v : State, assignRequest (b :: rest) u = ok [] v ∧ ∀ x ∈ v.former.list, x.id ≠ b.toNat) ∨
      ∃ st, st ≠ .ok ∧ assignRequest (b :: rest) u = refuse st u := by
  unfold assignRequest
  by_cases hb : b = 0
  · exact .inr ⟨.badArgument, by decide, by rw [hb]; rfl⟩
  · simp only [byteAt, List.getD_cons_zero, idOf_of_ne hb]
    cases carCodeOf (b :: rest) 1 with
    | none => exact .inr ⟨.badArgument, by decide, rfl⟩
    | some c =>
      refine (u.assign_cases b.toNat c).imp_left ?_
      rintro ⟨r, hr, he⟩
      exact ⟨u.assignTo r c, he, State.unattr_id hr ▸ u.assignTo_no_id r c⟩

theorem exec_assign_absent {s : State} {p : PortId} {tag b : Byte} {c : Code}
    (h : s.takes p 0x22 tag (b :: codeBytes c)) (hb : b ≠ 0) (hc : validCode c = true)
    (ha : s.race.state.assignable = true) (hr : ∀ r ∈ s.former.list, r.id ≠ b.toNat) :
    ∃ t, exec (.assign p tag (b :: codeBytes c)) s = .next t ∧ t.answered p 0x22 tag .notFound [] ∧
      s.onlyPorts t := by
  rw [exec_assign]
  refine State.serve_refused h (by simp) rfl (fun u hu => ?_)
  have hau : u.race.state.assignable = true := by rw [hu]; exact ha
  rw [assignRequest_legal hb hc, State.assign_of_none c hau (State.unattr_none_of_onlyPorts hu hr)]

/-- An ASSIGN answered OK was accepted: every refusal would have left another status in the reply. -/
theorem exec_assign_accepted {s t : State} {p : PortId} {tag b : Byte} {c : Code}
    (h : s.takes p 0x22 tag (b :: codeBytes c)) (ht : exec (.assign p tag (b :: codeBytes c)) s = .next t)
    (hok : t.answered p 0x22 tag .ok []) (htx : (s.port p).tx = none) : ∀ x ∈ t.former.list, x.id ≠ b.toNat := by
  rw [exec_assign] at ht
  rcases assignRequest_cases b (codeBytes c) ((s.frameTaken p (ltFrame 0x22 tag (b :: codeBytes c))).engage p) with
    ⟨v, hv, hgone⟩ | ⟨st, hst, hv⟩
  · have hformer : t.former = v.former := by
      rw [State.serve_eq_replied h rfl hv ht]
      simp [State.putReply]
    rwa [hformer]
  · exact absurd (State.serve_status h rfl hv (by simpa using htx) ht hok) hst

/-! ## The statement -/

/-- Settles O19: the five outcomes of DISCARD and ASSIGN, each by the lemma about its request. -/
theorem discard : Obligations.Discard := by
  refine ⟨fun p s tag h => exec_discard_zero h, fun p s tag b h hb hr => exec_discard_absent h hb hr, ?_,
    fun p s tag b c h hb hc ha hr => exec_assign_absent h hb hc ha hr,
    fun p s t tag b c h ht hok htx => exec_assign_accepted h ht hok htx⟩
  intro p s tag b r h hb hr
  obtain ⟨u, t, hu, ht, ha, ho⟩ := exec_discard_present h hb hr
  have hid := State.unattr_id hr
  rw [State.onlyPorts, State.discardRecord_frame, hid] at ho
  have hformer : t.former = { s.former with
      list := s.former.list.filter (fun x => x.id != b.toNat)
      tallies := { s.former.tallies with discarded := s.former.tallies.discarded + 1 } } := by
    rw [ho, hu]
  have hjournal : t.journal = s.journal.added s.raceMs (.unattributedGone b.toNat r.origin .discarded 0) := by
    rw [ho, hu]; rfl
  refine ⟨t, ht, ha, hformer, ?_, hjournal, ?_⟩
  · simp [hformer]
  · rw [ho, hu]

end Sys2Proof.Machine
end

section
/-! PROOFS. The age limit of the roster and the aging check (R69, R70). -/

namespace Sys2Proof.Machine

open Sys2Proof

/-! ## What a request keeps -/

theorem State.modPort_onlyPorts (s : State) (p : PortId) (f : Port → Port) : s.onlyPorts (s.modPort p f) := by
  cases p <;> rfl

/-- BUSY changes nothing but the ports (R188). -/
theorem State.answerBusy_onlyPorts {s t : State} {p : PortId} {tag : Byte} (h : s.answerBusy p tag = .next t) :
    s.onlyPorts t := by
  unfold State.answerBusy at h
  split at h
  · cases h
  · cases h
    exact State.onlyPorts_trans (s.modPort_onlyPorts p _) (State.transmit_onlyPorts _)

/-- The reply put in place changes nothing but the ports (R187). -/
theorem State.replied_onlyPorts (p : PortId) (kind tag : Byte) (r : Served) :
    r.1.onlyPorts (State.replied p kind tag r) := by
  obtain ⟨v, a⟩ := r
  cases a with
  | none => rfl
  | some a => exact v.modPort_onlyPorts p (fun q => { q with reply := some (replyFrame kind tag a) })

/-- A judged request is refused, with the state as it is, or does its own work (R186). -/
theorem judge_cases (p : PortId) (payload : List Byte) (onlyA : Bool) (len : Nat) (body : State → Served) (u : State) :
    (judge p payload onlyA len body u).1 = u ∨ judge p payload onlyA len body u = body u := by
  unfold judge
  split
  · exact .inl rfl
  · split
    · exact .inl rfl
    · exact .inr rfl

/-- What the roster holds, a request keeps if its own work keeps it, whether the frame is refused, answered BUSY or not
taken at all (R185 to R188). -/
theorem State.serve_keeps {α : Type} (f : Roster → α) {s t : State} {p : PortId} {kind tag : Byte}
    {payload : List Byte} {onlyA : Bool} {len : Nat} {body : State → Served}
    (hbody : ∀ u : State, f (body u).1.roster = f u.roster)
    (h : s.serve p kind tag payload onlyA len body = .next t) : f t.roster = f s.roster := by
  have hports : ∀ {u v : State}, u.onlyPorts v → v.roster = u.roster := fun {u v} ho => by rw [ho]
  rcases State.takeFrame_cases h with ⟨-, rfl⟩ | ⟨-, -, hbusy⟩ | ⟨-, rfl⟩
  · rfl
  · rw [hports (State.answerBusy_onlyPorts hbusy)]
    simp [State.frameTaken]
  · rw [State.transmit_roster, hports (State.replied_onlyPorts ..), ← hports (s.taken_onlyPorts p _)]
    rcases judge_cases p payload onlyA len body _ with hj | hj
    · rw [hj]
    · rw [hj, hbody]

/-! ## The limit kept -/

@[simp] theorem State.mapCars_ageLimit (s : State) (f : Car → Car) :
    (s.mapCars f).roster.ageLimit = s.roster.ageLimit := rfl

@[simp] theorem State.initCars_ageLimit (s : State) (k : Bool) :
    (s.initCars k).roster.ageLimit = s.roster.ageLimit := rfl

/-- A soft reset changes the records, not the age limit (R69, R134). -/
theorem State.softReset_ageLimit (s : State) : s.softReset.roster.ageLimit = s.roster.ageLimit := by
  simp [State.softReset]

/-- RELEASE changes the records, not the age limit (R69, R133). -/
theorem State.release_ageLimit (s : State) : s.release.roster.ageLimit = s.roster.ageLimit := by
  simp [State.release]

/-- What RELEASE does with its request (R133). -/
def releaseRequest (u : State) : Served :=
  if u.race.state = .closed then ok [] u.release else refuse .refusedState u

theorem exec_release (p : PortId) (tag : Byte) (payload : List Byte) (s : State) :
    exec (.release p tag payload) s = s.serve p 0x0C tag payload true 0 releaseRequest := rfl

theorem releaseRequest_ageLimit (u : State) : (releaseRequest u).1.roster.ageLimit = u.roster.ageLimit := by
  unfold releaseRequest
  split
  · exact u.release_ageLimit
  · rfl

theorem exec_softReset (p : PortId) (tag : Byte) (payload : List Byte) (s : State) :
    exec (.softReset p tag payload) s = s.serve p 0x0D tag payload true 0 (fun u => ok [] u.softReset) := rfl

/-! ## SET_AGE_LIMIT -/

/-- The limit stored by SET_AGE_LIMIT (R69). -/
def State.setAgeLimit (s : State) (n : Nat) : State := { s with roster.ageLimit := clamp 1 255 n }

theorem exec_setAgeLimit (p : PortId) (tag : Byte) (payload : List Byte) (s : State) :
    exec (.setAgeLimit p tag payload) s =
      s.serve p 0x1C tag payload true 1 (fun u => ok [] (u.setAgeLimit (natAt payload 0))) := rfl

@[simp] theorem State.setAgeLimit_port (s : State) (n : Nat) (p : PortId) : (s.setAgeLimit n).port p = s.port p := by
  cases p <;> rfl

/-- A byte is never above 255, so that its clamp acts at 0 only (R69). -/
theorem clamp_byte (b : Byte) : clamp 1 255 b.toNat = max 1 b.toNat := by
  have := b.isLt
  simp only [clamp]
  omega

/-- A SET_AGE_LIMIT that is taken is answered OK and stores the clamped limit, whatever the race state (R69). -/
theorem exec_setAgeLimit_taken {s : State} {tag b : Byte} (h : s.takes .A 0x1C tag [b]) :
    ∃ t, exec (.setAgeLimit .A tag [b]) s = .next t ∧ t.answered .A 0x1C tag .ok [] ∧
      t.roster = { s.roster with ageLimit := max 1 b.toNat } ∧
      t = { s with roster := t.roster, portA := t.portA, portB := t.portB } := by
  have hu := s.taken_onlyPorts .A (ltFrame 0x1C tag [b])
  rw [exec_setAgeLimit]
  obtain ⟨t, ht, ha, ho⟩ := State.serve_answered h (onlyA := true) (len := 1)
    (body := fun u => ok [] (u.setAgeLimit (natAt [b] 0))) (fun _ => rfl) rfl rfl (by simp)
  have hroster : t.roster = { s.roster with ageLimit := max 1 b.toNat } := by
    rw [ho, hu, ← clamp_byte]; rfl
  exact ⟨t, ht, ha, hroster, by rw [ho, hu]; rfl⟩

/-! ## The aging check -/

/-- The aging check empties the slot of a record that has aged out, and leaves every other slot (R70). -/
theorem State.ageCheck_slot (s : State) (i : Slot) :
    s.ageCheck.roster.slots[i] = s.roster.slots[i].filter (fun x => !s.agesOut x) :=
  mapVec_getElem (fun o : Option Car => o.filter (fun x => !s.agesOut x)) s.roster.slots i.val i.isLt

theorem exec_agingCheck_due {s : State} (h : s.reached s.roster.aging) :
    exec .agingCheck s = .next s.ageCheck := by
  have hdue : s.roster.aging.due s.time.session = true := decide_eq_true h
  exact congrArg Host.Outcome.next (if_pos hdue)

/-- A LEARNED record that is not entered ages out when it was last seen the limit, in minutes, ago (R69, R70). -/
theorem State.agesOut_iff {s : State} {x : Car} (hl : x.origin = .learned) (he : x.entered = false) :
    s.agesOut x = true ↔ s.roster.ageLimit * 6000000 ≤ (s.time.session - x.lastSeen).toNat := by
  change _ ↔ s.roster.ageLimit * agingTicks ≤ _
  simp [State.agesOut, hl, he]

theorem State.ageCheck_removes_iff {s : State} {i : Slot} {x : Car} (hx : s.roster.slots[i] = some x) :
    s.ageCheck.roster.slots[i] = none ↔ s.agesOut x = true := by
  rw [State.ageCheck_slot, hx]
  simp [Option.filter]

/-! ## The statement -/

/-- Settles O22: the reset value, the two changes that keep the limit, the request that stores it and the check that
uses it, each by its lemma. -/
theorem ageLimit : Obligations.AgeLimit := by
  refine ⟨fun a b s => ⟨_, rfl, rfl⟩, fun p tag payload s t h => ?_, fun p tag payload s t h => ?_,
    fun s tag b h => ?_, fun s i x hdue hx hl he => ?_, fun limit h => ?_⟩
  · rw [exec_softReset] at h
    exact State.serve_keeps Roster.ageLimit State.softReset_ageLimit h
  · rw [exec_release] at h
    exact State.serve_keeps Roster.ageLimit releaseRequest_ageLimit h
  · obtain ⟨t, ht, ha, hroster, hframe⟩ := exec_setAgeLimit_taken h
    have hb := b.isLt
    have hlimit : t.roster.ageLimit = max 1 b.toNat := by rw [hroster]
    exact ⟨t, ht, ha, hroster, by omega, by omega, hframe⟩
  · exact ⟨s.ageCheck, exec_agingCheck_due hdue, (State.ageCheck_removes_iff hx).trans (State.agesOut_iff hl he)⟩
  · exact ⟨by omega, by norm_num⟩

end Sys2Proof.Machine
end

section
/-! PROOFS. What every operation of the model keeps: the queue, the clock and the random source, and the invariants of
the part. Two preorders of states say it once. `Moves` holds across every operation, also inside a change of race state;
`Works` holds across an operation that is whole, after which rows and output lines are right again. -/

-- One theorem at a time: elaborated at once, those that cite each other wait in threads beyond the check's memory.
set_option Elab.async false

namespace Sys2Proof.Machine

open Sys2Proof

/-! ## The two preorders -/

/-- What every operation keeps, also the parts of a change of race state. -/
structure State.Moves (s t : State) : Prop where
  pending : t.pending = s.pending
  session : t.time.session = s.time.session
  rng : t.time.rng = s.time.rng
  attributes : s.attributesRight → t.attributesRight
  notices : s.noticesRight → t.noticesRight
  sizes : s.sizesRight → t.sizesRight
  ids : s.idsRight → t.idsRight
  engaged : ∀ p, (t.port p).engaged = (s.port p).engaged

/-- What an operation keeps once it is whole. -/
structure State.Works (s t : State) : Prop extends State.Moves s t where
  outputs : s.outputsRight → t.outputsRight
  caps : s.capsRight → t.capsRight

/-- What a command keeps, the end of a transmission included. -/
structure State.Settles (s t : State) : Prop where
  pending : t.pending = s.pending
  session : t.time.session = s.time.session
  rng : t.time.rng = s.time.rng
  attributes : s.attributesRight → t.attributesRight
  notices : s.noticesRight → t.noticesRight
  sizes : s.sizesRight → t.sizesRight
  ids : s.idsRight → t.idsRight
  outputs : s.outputsRight → t.outputsRight
  caps : s.capsRight → t.capsRight

variable {s t u : State}

theorem State.Moves.refl (s : State) : s.Moves s := ⟨rfl, rfl, rfl, id, id, id, id, fun _ => rfl⟩

theorem State.Moves.trans (h : s.Moves t) (k : t.Moves u) : s.Moves u where
  pending := k.pending.trans h.pending
  session := k.session.trans h.session
  rng := k.rng.trans h.rng
  attributes := k.attributes ∘ h.attributes
  notices := k.notices ∘ h.notices
  sizes := k.sizes ∘ h.sizes
  ids := k.ids ∘ h.ids
  engaged := fun p => (k.engaged p).trans (h.engaged p)

theorem State.Works.refl (s : State) : s.Works s := ⟨.refl s, id, id⟩

theorem State.Works.trans (h : s.Works t) (k : t.Works u) : s.Works u :=
  ⟨h.toMoves.trans k.toMoves, k.outputs ∘ h.outputs, k.caps ∘ h.caps⟩

/-- The last move first: the state in between is read off its statement. -/
theorem State.Moves.after (k : t.Moves u) (h : s.Moves t) : s.Moves u := h.trans k

theorem State.Works.after (k : t.Works u) (h : s.Works t) : s.Works u := h.trans k

theorem State.Works.settles (h : s.Works t) : s.Settles t :=
  ⟨h.pending, h.session, h.rng, h.attributes, h.notices, h.sizes, h.ids, h.outputs, h.caps⟩

theorem State.Settles.refl (s : State) : s.Settles s := (State.Works.refl s).settles

theorem State.Settles.trans (h : s.Settles t) (k : t.Settles u) : s.Settles u where
  pending := k.pending.trans h.pending
  session := k.session.trans h.session
  rng := k.rng.trans h.rng
  attributes := k.attributes ∘ h.attributes
  notices := k.notices ∘ h.notices
  sizes := k.sizes ∘ h.sizes
  ids := k.ids ∘ h.ids
  outputs := k.outputs ∘ h.outputs
  caps := k.caps ∘ h.caps

/-- A fold of whole operations is whole. -/
theorem State.Works.foldl {β : Type} {f : State → β → State} (h : ∀ a b, State.Works a (f a b)) (l : List β)
    (s : State) : s.Works (l.foldl f s) := by
  induction l generalizing s with
  | nil => exact .refl s
  | cons b l ih => exact (h s b).trans (ih (f s b))

/-! ## Updates that leave the invariants' fields alone -/

/-- Output lines and lamps are right in a state with the same controller, link and lines. -/
theorem State.outputsRight_congr (race : t.race = s.race) (link : t.power.linkUp = s.power.linkUp)
    (enable : t.power.trackEnable = s.power.trackEnable) : t.outputsRight ↔ s.outputsRight := by
  simp [State.outputsRight, State.lampPattern, race, link, enable]

theorem State.stateCap_congr (race : t.race = s.race) (settings : t.course.settings = s.course.settings) :
    t.stateCap = s.stateCap := by
  simp [State.stateCap, race, settings]

/-- A change of race state is a move when the clock, the lists and the ports stand and the attributes stay right. -/
theorem State.Moves.of_frame (attributes : s.attributesRight → t.attributesRight)
    (pending : t.pending = s.pending := by simp) (session : t.time.session = s.time.session := by simp)
    (rng : t.time.rng = s.time.rng := by simp)
    (depths : ∀ g : Gate, t.time.gates[g].stack.length ≤ s.time.gates[g].stack.length := by simp)
    (former : t.former.list.length ≤ s.former.list.length := by simp)
    (formerId : t.former.nextId = s.former.nextId := by simp)
    (pen : t.pen.list.length ≤ s.pen.list.length := by simp)
    (penId : t.pen.nextId = s.pen.nextId := by simp)
    (portA : t.portA = s.portA := by simp) (portB : t.portB = s.portB := by simp)
    (journal : t.journal = s.journal := by simp) : s.Moves t where
  pending := pending
  session := session
  rng := rng
  attributes := attributes
  notices := by simp [State.noticesRight, portA, portB, journal]
  sizes := by
    rintro ⟨hg, hf, hp, h1, h2⟩
    exact ⟨fun g => (depths g).trans (hg g), former.trans hf, pen.trans hp, portA ▸ h1, portB ▸ h2⟩
  ids := by simp [State.idsRight, formerId, penId]
  engaged := fun p => by cases p <;> simp [State.port, portA, portB]

/-- An update outside all that the invariants speak of. -/
theorem State.Works.of_frame (pending : t.pending = s.pending := by simp)
    (session : t.time.session = s.time.session := by simp)
    (rng : t.time.rng = s.time.rng := by simp)
    (depths : ∀ g : Gate, t.time.gates[g].stack.length ≤ s.time.gates[g].stack.length := by simp)
    (former : t.former.list.length ≤ s.former.list.length := by simp)
    (formerId : t.former.nextId = s.former.nextId := by simp)
    (pen : t.pen.list.length ≤ s.pen.list.length := by simp)
    (penId : t.pen.nextId = s.pen.nextId := by simp)
    (portA : t.portA = s.portA := by simp) (portB : t.portB = s.portB := by simp)
    (journal : t.journal = s.journal := by simp) (race : t.race = s.race := by simp)
    (rows : t.power.rows = s.power.rows := by simp) (link : t.power.linkUp = s.power.linkUp := by simp)
    (enable : t.power.trackEnable = s.power.trackEnable := by simp)
    (settings : t.course.settings = s.course.settings := by simp) : s.Works t where
  toMoves := .of_frame (by simp [State.attributesRight, race]) pending session rng depths
    former formerId pen penId portA portB journal
  outputs := (State.outputsRight_congr race link enable).mpr
  caps := by simp [State.capsRight, State.stateCap_congr race settings, rows]

/-! ## Ports and journal -/

/-- A port after a change that loses no notice and lengthens no BUSY list. -/
structure Port.Keeps (p q : Port) (j : Journal) : Prop where
  unsent : q.unsent j ≤ p.unsent j
  busy : q.busyList.length ≤ p.busyList.length

/-- Changes of the two ports that keep them. -/
theorem State.Settles.of_ports (h : s.onlyPorts t) (ha : s.portA.Keeps t.portA s.journal)
    (hb : s.portB.Keeps t.portB s.journal) : s.Settles t where
  pending := by rw [h]
  session := by rw [h]
  rng := by rw [h]
  attributes := by rw [h]; exact id
  notices := by
    rintro ⟨hr, h1, h2⟩
    rw [h]
    exact ⟨hr, ha.unsent.trans h1, hb.unsent.trans h2⟩
  sizes := by
    rintro ⟨hg, hf, hp, h1, h2⟩
    rw [h]
    exact ⟨hg, hf, hp, ha.busy.trans h1, hb.busy.trans h2⟩
  ids := by rw [h]; exact id
  outputs := by rw [h]; exact id
  caps := by rw [h]; exact id

theorem State.Settles.works (h : s.Settles t) (engaged : ∀ p, (t.port p).engaged = (s.port p).engaged) :
    s.Works t :=
  ⟨⟨h.pending, h.session, h.rng, h.attributes, h.notices, h.sizes, h.ids, engaged⟩, h.outputs, h.caps⟩

theorem Port.Keeps.refl (p : Port) (j : Journal) : p.Keeps p j := ⟨le_rfl, le_rfl⟩

/-- A notice sent is one unsent notice fewer (R194). -/
theorem Port.unsent_next {p : Port} {j : Journal} (h : p.cursor ≠ j.next) :
    (j.next - (p.cursor + 1)).toNat ≤ p.unsent j := by
  unfold Port.unsent
  bv_omega

/-- The transmitter's choice sends notices and BUSY frames, and makes none (R189). -/
theorem Port.choose_keeps (p : Port) (j : Journal) : p.Keeps (p.choose j) j := by
  refine ⟨?_, p.choose_busyList_length j⟩
  unfold Port.choose
  repeat' split
  all_goals try exact le_rfl
  rename_i hne _ _ _ _
  have hc : p.cursor ≠ j.next := by
    intro e
    simp [e] at hne
  exact Port.unsent_next hc

theorem State.transmit_works (s : State) : s.Works s.transmit :=
  (State.Settles.of_ports s.transmit_onlyPorts (s.portA.choose_keeps _) (s.portB.choose_keeps _)).works
    (fun p => by simp [State.transmit_port])

/-- A change of one port that keeps it. -/
theorem State.modPort_settles (s : State) (p : PortId) (f : Port → Port)
    (h : (s.port p).Keeps (f (s.port p)) s.journal) : s.Settles (s.modPort p f) := by
  cases p with
  | A => exact .of_ports (s.modPort_onlyPorts .A f) h (.refl _ _)
  | B => exact .of_ports (s.modPort_onlyPorts .B f) (.refl _ _) h

theorem State.modPort_engaged (s : State) (p q : PortId) (f : Port → Port)
    (h : (f (s.port p)).engaged = (s.port p).engaged) : ((s.modPort p f).port q).engaged = (s.port q).engaged := by
  by_cases e : q = p
  · subst e; simpa using h
  · rw [State.modPort_port_other _ _ _ _ e]

theorem State.modPort_works (s : State) (p : PortId) (f : Port → Port)
    (h : (s.port p).Keeps (f (s.port p)) s.journal) (he : (f (s.port p)).engaged = (s.port p).engaged) :
    s.Works (s.modPort p f) :=
  (s.modPort_settles p f h).works (fun q => s.modPort_engaged p q f he)

/-- An append keeps every unsent notice among the newest 256, an overrun port having passed over its oldest
(R193, R194). -/
theorem Port.overrun_unsent {p : Port} {j : Journal} (ms : Nat) (n : Notice) (hr : j.ring.length ≤ 256)
    (h : p.unsent j ≤ j.ring.length) :
    (p.overrun j).unsent (j.added ms n) ≤ (j.added ms n).ring.length := by
  have hlen : (j.added ms n).ring.length = min 256 (j.ring.length + 1) := by
    simp only [Journal.added, newest256, List.length_drop, List.length_append, List.length_singleton]
    omega
  have hnext : (j.added ms n).next = j.next + 1 := rfl
  rw [hlen]
  unfold Port.overrun
  split
  · rename_i h256
    simp only [Port.unsent, hnext] at *
    bv_omega
  · rename_i h256
    simp only [Port.unsent, hnext] at *
    bv_omega

theorem State.appendAt_works (s : State) (ms : Nat) (n : Notice) : s.Works (s.appendAt ms n) where
  pending := rfl
  session := rfl
  rng := rfl
  attributes := id
  notices := by
    rintro ⟨hr, h1, h2⟩
    refine ⟨?_, Port.overrun_unsent ms n hr h1, Port.overrun_unsent ms n hr h2⟩
    simp only [State.appendAt_journal, newest256_length]
  sizes := by
    rintro ⟨hg, hf, hp, h1, h2⟩
    exact ⟨hg, hf, hp, by simpa using h1, by simpa using h2⟩
  ids := id
  engaged := fun p => by cases p <;> exact Port.overrun_engaged _ _
  outputs := id
  caps := id

theorem State.append_works (s : State) (n : Notice) : s.Works (s.append n) := s.appendAt_works s.raceMs n

/-! ## Rows, lines and lamps -/

/-- No row's cap exceeds the state cap (R165). -/
theorem State.rowOf_cap_le (s : State) (d : DriveIx) : (s.rowOf d).cap ≤ s.stateCap := by
  unfold State.rowOf
  split
  · simp only [State.occupiedRow]
    omega
  · unfold State.freeRow State.stateCap
    split <;> simp_all

/-- New rows within the state cap. -/
theorem State.putRows_works (s : State) (rows : Vector PermitRow 32)
    (h : s.capsRight → ∀ d : DriveIx, rows[d].cap ≤ s.stateCap) : s.Works (s.putRows rows) where
  toMoves := .of_frame (by simp [State.attributesRight])
  outputs := (State.outputsRight_congr (by simp) (by rw [State.putRows_power]) (by rw [State.putRows_power])).mpr
  caps := fun hs d => by
    rw [State.putRows_rows, State.stateCap_congr (s := s) (by simp) (by simp)]
    exact h hs d

theorem State.recomputeDrive_works (s : State) (drive : Nat) : s.Works (s.recomputeDrive drive) := by
  unfold State.recomputeDrive
  split
  · rename_i h
    refine s.putRows_works _ (fun hs d => ?_)
    rw [Fin.getElem_fin, Vector.getElem_set]
    split
    · exact s.rowOf_cap_le _
    · exact hs d
  · exact .refl s

theorem State.recomputeCar_works (s : State) (c : Code) : s.Works (s.recomputeCar c) := by
  unfold State.recomputeCar
  repeat' split
  · exact s.recomputeDrive_works _
  · exact .refl s
  · exact .refl s

theorem State.recomputeAll_works (s : State) : s.Works s.recomputeAll :=
  s.putRows_works _ (fun _ d => by
    have h := s.recomputeAll_row d
    rw [State.recomputeAll, State.putRows_rows] at h
    rw [h]
    exact s.rowOf_cap_le d)

theorem State.setLamps_moves (s : State) : s.Moves s.setLamps := .of_frame id

theorem State.showState_moves (s : State) : s.Moves s.showState :=
  s.recomputeAll_works.toMoves.trans (.of_frame id)

/-- A change of race state ends with the state shown, and is whole then (R111). -/
theorem State.Moves.show (h : s.Moves t) : s.Works t.showState where
  toMoves := h.trans t.showState_moves
  outputs := fun _ => t.showState_shown.2
  caps := fun _ d => by
    rw [t.showState_shown.1 d]
    exact State.rowOf_cap_le _ d

end Sys2Proof.Machine
end

section
/-! PROOFS. The operations of the penalty unit, the standings and the race controller keep the invariants. -/

set_option Elab.async false

namespace Sys2Proof.Machine

open Sys2Proof

variable (s : State)

/-! ## Cars -/

theorem State.modCar_works (c : Code) (f : Car → Car) : s.Works (s.modCar c f) := .of_frame
theorem State.modRace_works (c : Code) (f : RacePart → RacePart) : s.Works (s.modRace c f) := .of_frame
theorem State.mapCars_works (f : Car → Car) : s.Works (s.mapCars f) := .of_frame
theorem State.tallyLap_works (f : LapTallies → LapTallies) : s.Works (s.tallyLap f) := .of_frame

theorem State.car_of_find {s : State} {c : Code} {i : Slot} (h : s.roster.find c = some i) :
    s.car c = s.roster.slots[i] := by
  simp [State.car, h]

/-- Changes that agree on the record of a code are one change. -/
theorem State.modCar_congr {s : State} {c : Code} {f g : Car → Car} (h : ∀ x, s.car c = some x → f x = g x) :
    s.modCar c f = s.modCar c g := by
  unfold State.modCar
  split
  · rename_i i hi
    have e : s.roster.slots[i].map f = s.roster.slots[i].map g :=
      Option.map_congr (fun x hx => h x (by rw [State.car_of_find hi]; exact hx))
    rw [e]
  · rfl

/-- A change that leaves the record of a code as it is leaves the state as it is. -/
theorem State.modCar_of_fixed {s : State} {c : Code} {f : Car → Car} (h : ∀ x, s.car c = some x → f x = x) :
    s.modCar c f = s := by
  rw [State.modCar_congr (g := id) h]
  unfold State.modCar
  split <;> simp

/-! ## Confirmation -/

/-- Of the machine, a confirmation changes what the car of the record is charged, and nothing else (R147, R148,
R154). -/
theorem State.confirmRecord_state (d : Decider) (r : Penalty) :
    (s.confirmRecord d r).1 = s.modCar r.code (s.paid r) := by
  have hrec := s.confirmRecord_record .auto r
  have hserve : r.outcome ≠ .time → r.outcome ≠ .lapDeduct →
      (s.confirmedAs .auto r).state ≠ .converted → s.modCar r.code (s.paid r) = s := fun h1 h2 h3 =>
    State.modCar_of_fixed (fun x _ => by simp [State.paid, h1, h2, h3])
  unfold State.confirmRecord at hrec ⊢
  cases ho : r.outcome <;> simp only [ho] at hrec ⊢
  case time => exact State.modCar_congr (fun x _ => by simp [State.paid, ho])
  case lapDeduct => exact State.modCar_congr (fun x _ => by simp [State.paid, ho, ← hrec])
  case warning => exact (hserve (by simp [ho]) (by simp [ho]) (by simp [← hrec])).symm
  all_goals
    split at hrec
    · rename_i hc
      rw [if_pos hc]
      exact State.modCar_congr (fun x _ => by simp [State.paid, ho, ← hrec, Penalty.converted])
    · rename_i hc
      rw [if_neg hc]
      exact (hserve (by simp [ho]) (by simp [ho]) (by simp [← hrec])).symm

/-- The review step leaves the state alone or confirms (R143). -/
theorem State.reviewStep_state (w : Nat) (r : Penalty) :
    (s.reviewStep w r).1 = s ∨ ∃ d, (s.reviewStep w r).1 = (s.confirmRecord d r).1 := by
  unfold State.reviewStep
  split
  · split
    · exact .inr ⟨.auto, rfl⟩
    · exact .inl rfl
  · split
    · exact .inl rfl
    · exact .inl rfl
  · exact .inr ⟨.auto, rfl⟩

/-! ## Standings -/

theorem State.noticeLeader_works (b : Option StandEntry) (k : LeaderCause) : s.Works (s.noticeLeader b k) := by
  unfold State.noticeLeader
  repeat' split
  · exact .refl s
  · exact s.append_works _
  · exact .refl s

theorem State.resort_works (k : LeaderCause) : s.Works (s.resort k) := by
  unfold State.resort
  split
  · exact .trans .of_frame (State.noticeLeader_works _ _ _)
  · exact .refl s

theorem State.recordFinish_works (c : Code) : s.Works (s.recordFinish c) := by
  unfold State.recordFinish
  split
  · dsimp only
    split
    · exact (s.modRace_works _ _).trans (State.append_works _ _)
    · exact s.modRace_works _ _
  · exact .refl s

theorem State.finishCar_works (c : Code) : s.Works (s.finishCar c) :=
  ((s.modRace_works _ _).trans (State.recordFinish_works _ _)).trans (State.recomputeCar_works _ _)

/-! ## Penalty records -/

theorem State.putPenalty_works (r : Penalty) : s.Works (s.putPenalty r) := .of_frame

theorem State.handOn_works (k : PenaltyCause) (c : Code) (b : Bool) : s.Works (s.handOn k c b) := by
  unfold State.handOn
  split
  · exact (s.recomputeCar_works c).trans (State.resort_works _ _)
  · exact s.recomputeCar_works c

theorem State.finishEvent_works (k : PenaltyCause) (r : Penalty) (b : Bool) : s.Works (s.finishEvent k r b) :=
  ((s.putPenalty_works r).trans (State.append_works _ _)).trans (State.handOn_works _ _ _ _)

theorem State.addTime_works (c : Code) (n : Nat) : s.Works (s.addTime c n) := s.modRace_works _ _
theorem State.restartSilence_works (c : Code) : s.Works (s.restartSilence c) := s.modRace_works _ _
theorem State.markServing_works (c : Code) : s.Works (s.markServing c) := s.modRace_works _ _

theorem State.confirmRecord_works (d : Decider) (r : Penalty) : s.Works (s.confirmRecord d r).1 := by
  rw [State.confirmRecord_state]
  exact s.modCar_works _ _

theorem State.decideByMode_works (r : Penalty) : s.Works (s.decideByMode r).1 := by
  unfold State.decideByMode
  split
  · exact .refl s
  · exact s.confirmRecord_works _ _

theorem State.reviewStep_works (w : Nat) (r : Penalty) : s.Works (s.reviewStep w r).1 := by
  rcases s.reviewStep_state w r with h | ⟨d, h⟩
  · rw [h]; exact .refl s
  · rw [h]; exact s.confirmRecord_works d r

/-! ## A record joins the list -/

/-- An identifier taken from a start in range is in range (R51, R140). -/
theorem freeId_range (used : List Nat) {start : Nat} (h1 : 1 ≤ start) (h2 : start ≤ 255) :
    1 ≤ freeId used start ∧ freeId used start ≤ 255 := by
  cases hf : ((List.range 255).map (fun k => (start - 1 + k) % 255 + 1)).find? (fun i => !used.contains i) with
  | none => simp only [freeId, hf]; exact ⟨h1, h2⟩
  | some i =>
    obtain ⟨he, -, hr⟩ := freeId_of_some hf
    rw [he]
    exact hr

theorem nextIdAfter_range {i : Nat} (h : i ≤ 255) : 1 ≤ nextIdAfter i ∧ nextIdAfter i ≤ 255 := by
  unfold nextIdAfter
  split <;> omega

/-- The record a confirmation leaves keeps its identifier. -/
@[simp] theorem State.confirmedAs_id (d : Decider) (r : Penalty) : (s.confirmedAs d r).id = r.id := by
  unfold State.confirmedAs
  repeat' split
  all_goals rfl

@[simp] theorem State.confirmRecord_id (d : Decider) (r : Penalty) : (s.confirmRecord d r).2.1.id = r.id := by
  rw [State.confirmRecord_record, State.confirmedAs_id]

@[simp] theorem State.reviewStep_id (w : Nat) (r : Penalty) : (s.reviewStep w r).2.1.id = r.id := by
  unfold State.reviewStep
  repeat' split
  all_goals simp [Penalty.waivedBy]

/-- Room made is room for one record (R141). -/
theorem State.makeRoom_length {s t : State} (h : s.makeRoom = some t) (hs : s.pen.list.length ≤ 32) :
    t.pen.list.length < 32 := by
  unfold State.makeRoom at h
  split at h
  · cases h; assumption
  · split at h
    · rename_i hf
      obtain ⟨r, hr, hfin⟩ := List.any_eq_true.mp hf
      cases h
      have := List.length_eraseP_of_mem (p := fun r : Penalty => r.state.isFinal) hr hfin
      have := List.length_pos_of_mem hr
      simp only
      omega
    · cases h

theorem State.makeRoom_works {s t : State} (h : s.makeRoom = some t) : s.Works t := by
  unfold State.makeRoom at h
  split at h
  · cases h; exact .refl s
  · split at h
    · cases h
      exact .of_frame (pen := by simpa using List.length_eraseP_le)
    · cases h

/-- A record joins a list with room. -/
theorem State.joinRecord_works {s t : State} (h : s.Works t) (r : Penalty) (b : Bool)
    (room : s.sizesRight → t.pen.list.length < 32) (inRange : s.idsRight → r.id ≤ 255) : s.Works (t.joinRecord r b) := by
  refine .trans ?_ (State.handOn_works _ _ _ _)
  refine .trans ?_ (State.append_works _ _)
  exact {
    pending := h.pending
    session := h.session
    rng := h.rng
    attributes := h.attributes
    notices := h.notices
    sizes := fun hs => by
      obtain ⟨hg, hf, -, h1, h2⟩ := h.sizes hs
      have := room hs
      exact ⟨hg, hf, by simpa using this, h1, h2⟩
    ids := fun hi => by
      obtain ⟨h1, h2, -, -⟩ := h.ids hi
      have := nextIdAfter_range (inRange hi)
      exact ⟨h1, h2, this.1, this.2⟩
    engaged := h.engaged
    outputs := h.outputs
    caps := h.caps }

theorem State.newPenaltyId_range {s : State} (h : s.idsRight) : s.newPenaltyId ≤ 255 := by
  obtain ⟨-, -, h1, h2⟩ := h
  exact (freeId_range _ h1 h2).2

/-- The record an automatic call opens, with what its schedule row gives (R142). -/
def State.callRecord (s : State) (k : Fin 6) (c : Code) (q : Nat) (l : Option Lane) : Penalty :=
  s.newRecord (kindOfRow k) c (some (q, l)) s.pen.schedule[k].outcome s.pen.schedule[k].amount
    (some s.pen.schedule[k].mode) s.pen.schedule[k].conversion

/-- With room made, a call passes its review step and joins the list (R142, R143). -/
theorem State.raiseCall_of_room {s a : State} (h : s.makeRoom = some a) (k : Fin 6) (c : Code) (q : Nat)
    (l : Option Lane) {v : State × Penalty × Bool}
    (hv : v = a.reviewStep a.pen.schedule[k].window (a.callRecord k c q l)) :
    s.raiseCall k c q l = v.1.joinRecord v.2.1 v.2.2 := by
  subst hv
  simp only [State.raiseCall, h]
  rfl

theorem State.raiseCall_works (k : Fin 6) (c : Code) (q : Nat) (l : Option Lane) :
    s.Works (s.raiseCall k c q l) := by
  cases ha : s.makeRoom with
  | none =>
    simp only [State.raiseCall, ha]
    exact (s.append_works (.listFull (kindOfRow k) c (s.numberOf c) q l)).trans .of_frame
  | some a =>
    rw [State.raiseCall_of_room ha k c q l rfl]
    have hw := State.makeRoom_works ha
    refine State.joinRecord_works (hw.trans (a.reviewStep_works _ _)) _ _ (fun hs => ?_) (fun hi => ?_)
    · have := State.makeRoom_length ha hs.2.2.1
      rcases a.reviewStep_state a.pen.schedule[k].window (a.callRecord k c q l) with e | ⟨d, e⟩
      · rw [e]; exact this
      · rw [e, State.confirmRecord_state]; simpa using this
    · rw [State.reviewStep_id]
      exact State.newPenaltyId_range (hw.ids hi)

theorem State.raiseAll_works (l : List (Fin 6)) (x : Passage) : s.Works (s.raiseAll l x) :=
  .foldl (fun a k => a.raiseCall_works k _ _ _) l s

end Sys2Proof.Machine
end

section
/-! PROOFS. Serving, settlement and the changes of race state keep the invariants. -/

set_option Elab.async false

namespace Sys2Proof.Machine

open Sys2Proof

variable (s : State)

/-! ## Serving -/

theorem State.beginStopGo_works (c : Code) : s.Works (s.beginStopGo c) := by
  unfold State.beginStopGo
  split
  · split
    · exact (s.modRace_works _ _).trans (State.finishEvent_works _ _ _ _)
    · exact .refl s
  · exact .refl s

theorem State.serveProgress_works (c : Code) : s.Works (s.serveProgress c) := by
  unfold State.serveProgress
  split
  · split
    · exact s.finishEvent_works _ _ _
    · split
      · exact s.finishEvent_works _ _ _
      · exact s.putPenalty_works _
    · exact .refl s
  · exact .refl s

theorem State.serveBegin_works (c : Code) : s.Works (s.serveBegin c) := by
  unfold State.serveBegin
  split
  · split
    · split
      · exact s.finishEvent_works _ _ _
      · exact s.finishEvent_works _ _ _
      · exact .refl s
    · exact .refl s
  · exact .refl s

theorem State.serveCount_works (c : Code) : s.Works (s.serveCount c) := by
  unfold State.serveCount
  split
  · split
    · split
      · exact (s.addTime_works _ _).trans (State.finishEvent_works _ _ _ _)
      · exact s.putPenalty_works _
    · exact .refl s
  · exact .refl s

theorem State.serveTriggers_works (c : Code) : s.Works (s.serveTriggers c) :=
  ((s.serveProgress_works c).trans (State.serveBegin_works _ _)).trans (State.serveCount_works _ _)

/-! ## Settlements -/

variable {s} in
theorem State.settleQueued_works {k : PenaltyCause} {r : Penalty} {v : State × Bool}
    (h : s.settleQueued k r = some v) : s.Works v.1 := by
  unfold State.settleQueued at h
  split at h
  · split at h
    · cases h
      exact ((s.addTime_works _ _).trans (State.putPenalty_works _ _)).trans (State.append_works _ _)
    · cases h
      exact (s.putPenalty_works _).trans (State.append_works _ _)
  · cases h

/-- A fold that carries a state along with a flag is whole when each step is. -/
theorem State.Works.foldl_fst {β : Type} {f : State × Bool → β → State × Bool}
    (h : ∀ a b, State.Works a.1 (f a b).1) (l : List β) (a : State × Bool) : a.1.Works (l.foldl f a).1 := by
  induction l generalizing a with
  | nil => exact .refl _
  | cons b l ih => exact (h a b).trans (ih (f a b))

theorem State.settleCar_works (c : Code) (k : PenaltyCause) : s.Works (s.settleCar c k) := by
  unfold State.settleCar
  dsimp only
  split
  · exact .refl s
  · refine .trans (State.Works.foldl_fst (fun a r => ?_) _ (s, false)) (State.handOn_works _ _ _ _)
    cases h : a.1.settleQueued k r with
    | some v => exact (State.settleQueued_works h : a.1.Works v.1)
    | none => exact .refl a.1

variable {s} in
theorem State.settleAtClose_works {r : Penalty} {v : State × Bool} (h : s.settleAtClose r = some v) :
    s.Works v.1 := by
  unfold State.settleAtClose at h
  split at h
  · cases h
    exact ((s.decideByMode_works r).trans (State.putPenalty_works _ _)).trans (State.append_works _ _)
  · exact State.settleQueued_works h
  · cases h
    exact (s.putPenalty_works _).trans (State.append_works _ _)
  · cases h

theorem State.handOnClose_works (l : List (Code × Bool)) (c : Code) : s.Works (s.handOnClose l c) := by
  unfold State.handOnClose
  split
  · exact s.handOn_works _ _ _
  · exact .refl s

theorem State.settleRecords_works (cars : List Code) (touched : List (Code × Bool)) (l : List Penalty) :
    s.Works (s.settleRecords cars touched l) := by
  induction l generalizing s cars touched with
  | nil => exact .refl s
  | cons r l ih =>
    unfold State.settleRecords
    cases h : s.settleAtClose r with
    | none => exact (State.Works.foldl (fun a c => a.handOnClose_works _ c) _ s).trans (ih _ _ _)
    | some v =>
      exact ((State.settleAtClose_works h).trans
        (State.Works.foldl (fun a c => a.handOnClose_works _ c) _ _)).trans (ih _ _ _)

theorem State.settleClose_works : s.Works s.settleClose := s.settleRecords_works _ _ _

/-! ## The parts of a change of race state -/

/-- The attributes of R110 are right of these values of the controller. -/
theorem State.attributesRight_iff : s.attributesRight ↔
    (s.race.held = true → s.race.state = .chequered) ∧ (s.race.saved.isSome = true ↔ s.race.state = .suspended) :=
  .rfl

theorem State.announce_moves (l : RaceState) (r : StateReason) : s.Moves (s.announce l r) :=
  .after (State.append_works _ _).toMoves (.of_frame id)

@[simp] theorem State.announce_race (l : RaceState) (r : StateReason) :
    (s.announce l r).race = { s.race with reason := r } := rfl

theorem State.applyShadow_settings : s.applyShadow.course.settings = s.course.settings := by
  unfold State.applyShadow
  split <;> rfl

theorem State.applyShadow_works : s.Works s.applyShadow := .of_frame (settings := s.applyShadow_settings)

theorem State.clearCaptures_works : s.Works s.clearCaptures :=
  .of_frame (depths := fun g => by simp [State.clearCaptures, mapVec_getElem])

theorem State.initCars_works (b : Bool) : s.Works (s.initCars b) := s.mapCars_works _

theorem State.clearPenalties_works : s.Works s.clearPenalties := .of_frame

theorem State.clearUnattributed_works : s.Works s.clearUnattributed := .of_frame

theorem State.clearStandings_works : s.Works s.clearStandings := .of_frame

theorem State.formStandings_works : s.Works s.formStandings := by
  unfold State.formStandings
  exact .of_frame

theorem State.resumeUnattributed_works : s.Works s.resumeUnattributed := by
  have h : s.Works (s.former.list.foldl (fun a r => a.append (.unattributedGone r.id r.origin .resumed 0)) s) :=
    .foldl (fun a r => a.append_works _) _ s
  unfold State.resumeUnattributed
  exact h.trans .of_frame

theorem State.beginStep_moves (i : Fin 16) : s.Moves (s.beginStep i) := by
  unfold State.beginStep
  dsimp only
  split
  · exact .after (State.setLamps_moves _) (.of_frame id)
  · exact .after (State.setLamps_moves _) (.of_frame id)

/-- A step begun in GRID or COUNTDOWN leaves the lamps at its pattern (R118). -/
theorem State.beginStep_works (i : Fin 16) : s.Works (s.beginStep i) where
  toMoves := s.beginStep_moves i
  outputs := fun h => by
    obtain ⟨he, -⟩ := h
    refine ⟨?_, ?_⟩
    · unfold State.beginStep
      dsimp only
      split <;> exact he
    · unfold State.beginStep
      dsimp only
      split <;> rfl
  caps := fun h d => by
    have hs : (s.beginStep i).stateCap = s.stateCap := by
      unfold State.beginStep
      dsimp only
      split <;> rfl
    rw [hs, State.beginStep_power]
    exact h d

/-! ## The changes of race state -/

/-- The clocks and the controller at the entry to CLOSED, before anything is announced (R132). -/
def State.closedClocks (s : State) : State :=
  let s1 : State := { s with time.latched := some s.raceClock }
  let s2 := if s.race.state = .suspended then s1.endSuspension else s1
  { s2 with
    race.state := .closed, race.held := false, race.saved := none, race.raceLimit := none, race.finishWindow := none }

/-- The entry to CLOSED up to the settlement of the penalty list (R132, R85, R107). -/
def State.closing (s : State) (reason : StateReason) : State :=
  ((s.closedClocks.announce s.race.state reason).applyShadow).mapCars
    (fun x => { x with race := { x.race with silence := none } })

theorem State.closeRace_eq (r : StateReason) :
    s.closeRace r = State.showState { ((s.closing r).settleClose.resort .close) with stand.fixed := true } := rfl

theorem State.closedClocks_moves : s.Moves s.closedClocks := by
  unfold State.closedClocks
  dsimp only
  split <;> exact .of_frame (fun _ => by simp [State.attributesRight_iff])

theorem State.closing_moves (r : StateReason) : s.Moves (s.closing r) :=
  .after (State.mapCars_works _ _).toMoves (.after (State.applyShadow_works _).toMoves
    (.after (State.announce_moves _ _ _) s.closedClocks_moves))

theorem State.closeRace_works (r : StateReason) : s.Works (s.closeRace r) := by
  rw [State.closeRace_eq]
  have h : s.Moves ((s.closing r).settleClose.resort .close) :=
    .after (State.resort_works _ _).toMoves (.after (State.settleClose_works _).toMoves (s.closing_moves r))
  exact State.Moves.show (h.trans (.of_frame id))

theorem State.doneTest_works : s.Works s.doneTest := by
  unfold State.doneTest
  split
  · exact s.closeRace_works _
  · exact .refl s

variable {s}

theorem State.enterChequered_works (h : s.race.state = .green ∨ s.race.state = .caution) :
    s.Works s.enterChequered := by
  refine .trans (State.Moves.show (.after (State.announce_moves _ _ _) ?_)) (State.doneTest_works _)
  refine .of_frame (fun hs => ?_)
  rw [State.attributesRight_iff] at hs ⊢
  rcases h with h | h <;> simp_all

theorem State.suspendRace_works (r : StateReason) : s.Works (s.suspendRace r) :=
  State.Moves.show (.after (State.announce_moves _ _ _) (.of_frame (fun _ => by simp [State.attributesRight_iff])))

theorem State.abortToGrid_works (h : s.race.state = .countdown) (r : StateReason) : s.Works (s.abortToGrid r) := by
  refine State.Moves.show (.after (State.beginStep_moves _ _)
    (.after (State.announce_moves _ _ _) (.of_frame (fun hs => ?_))))
  rw [State.attributesRight_iff] at hs ⊢
  simp_all

theorem State.reportTrouble_works (r : StateReason) : s.Works (s.reportTrouble r) := by
  unfold State.reportTrouble
  split
  · exact State.suspendRace_works r
  · exact State.suspendRace_works r
  · exact State.suspendRace_works r
  · exact State.abortToGrid_works ‹_› r
  · exact .refl s

theorem State.enterCaution_works (h : s.race.state = .green) (r : StateReason) : s.Works (s.enterCaution r) := by
  refine State.Moves.show (.after (State.announce_moves _ _ _) (.of_frame (fun hs => ?_)))
  rw [State.attributesRight_iff] at hs ⊢
  simp_all

theorem State.greenMoment_works (h : s.race.state = .countdown) : s.Works s.greenMoment := by
  refine State.Moves.show (.after (State.mapCars_works _ _).toMoves
    (.after (State.announce_moves _ _ _) (.of_frame (fun hs => ?_))))
  rw [State.attributesRight_iff] at hs ⊢
  simp_all

theorem State.closePractice_works (h : s.race.state = .practice) (r : StateReason) : s.Works (s.closePractice r) := by
  refine State.Moves.show (.after (State.mapCars_works _ _).toMoves
    (.after (State.announce_moves _ _ _) (.of_frame (fun hs => ?_))))
  rw [State.attributesRight_iff] at hs ⊢
  simp_all

theorem State.openPractice_works (h : s.race.state = .idle) : s.Works s.openPractice := by
  refine State.Moves.show (.after (State.initCars_works _ _).toMoves (.after (State.announce_moves _ _ _)
    (.of_frame (fun hs => ?_))))
  rw [State.attributesRight_iff] at hs ⊢
  simp_all

theorem State.formGrid_works (h : s.race.state = .idle) : s.Works s.formGrid := by
  refine State.Moves.show (.after (State.beginStep_moves _ _) (.after (State.formStandings_works _).toMoves
    (.after (State.clearPenalties_works _).toMoves (.after (State.mapCars_works _ _).toMoves
      (.after (State.initCars_works _ _).toMoves
    (.after (State.announce_moves _ _ _) (.of_frame (fun hs => ?_))))))))
  rw [State.attributesRight_iff] at hs ⊢
  simp_all

theorem State.standDown_works (h : s.race.state = .grid) : s.Works s.standDown := by
  refine State.Moves.show (.after (State.clearPenalties_works _).toMoves (.after (State.mapCars_works _ _).toMoves
    (.after (State.announce_moves _ _ _) (.of_frame (fun hs => ?_)))))
  rw [State.attributesRight_iff] at hs ⊢
  simp_all

theorem State.startRace_works (h : s.race.state = .grid) : s.Works s.startRace := by
  refine State.Moves.show (.after (State.beginStep_moves _ _) (.after (State.mapCars_works _ _).toMoves
    (.after (State.announce_moves _ _ _) (.of_frame (fun hs => ?_)))))
  rw [State.attributesRight_iff] at hs ⊢
  simp_all

theorem State.stepDone_works (i : Fin 16) : s.Works (s.stepDone i) := by
  unfold State.stepDone
  split
  · exact s.beginStep_works _
  · split
    · exact State.greenMoment_works ‹_›
    · exact s.beginStep_works _
  · exact .refl s

theorem State.setHeld_works (h : s.race.state = .chequered) (b : Bool) : s.Works (s.setHeld b) := by
  refine State.Moves.show (.after (State.announce_moves _ _ _) (.of_frame (fun hs => ?_)))
  rw [State.attributesRight_iff] at hs ⊢
  simp_all

theorem State.setSaved_works (h : s.race.state = .suspended) (v : SavedState) : s.Works (s.setSaved v) := by
  refine State.Moves.show (.after (State.announce_moves _ _ _) (.of_frame (fun hs => ?_)))
  rw [State.attributesRight_iff] at hs ⊢
  simp_all

theorem State.growCaution_works (s : State) : s.Works s.growCaution := .of_frame

theorem State.cautionSaved_works (h : s.race.state = .suspended) : s.Works s.cautionSaved := by
  unfold State.cautionSaved
  split
  · exact s.growCaution_works.trans (State.setSaved_works (by simpa using h) _)
  · exact s.growCaution_works.trans (State.setSaved_works (by simpa using h) _)
  · exact .refl s

theorem State.liftSaved_works (h : s.race.state = .suspended) : s.Works s.liftSaved := by
  unfold State.liftSaved
  split
  · exact State.setSaved_works h _
  · exact State.setSaved_works h _
  · exact .refl s

theorem State.liftCaution_works (h : s.race.state = .caution) : s.Works s.liftCaution := by
  refine State.Moves.show (.after (State.announce_moves _ _ _) (.of_frame (fun hs => ?_)))
  rw [State.attributesRight_iff] at hs ⊢
  simp_all

theorem State.resumeRace_works (s : State) : s.Works s.resumeRace := by
  refine .trans (State.Moves.show (.after (State.resumeUnattributed_works _).toMoves
    (.after (State.applyShadow_works _).toMoves
    (.after (State.announce_moves _ _ _) (.of_frame (fun _ => ?_)))))) (State.doneTest_works _)
  rw [State.attributesRight_iff]
  rcases s.race.saved.getD .green with _ | _ | _ <;> simp [SavedState.live]

theorem State.release_works (h : s.race.state = .closed) : s.Works s.release := by
  refine State.Moves.show (.after (State.clearStandings_works _).toMoves (.after (State.clearCaptures_works _).toMoves
    (.after (State.clearUnattributed_works _).toMoves (.after (State.clearPenalties_works _).toMoves
      (.after (State.initCars_works _ _).toMoves
    (.after (State.announce_moves _ _ _) (.of_frame (fun hs => ?_))))))))
  rw [State.attributesRight_iff] at hs ⊢
  simp_all

theorem State.dropShadow_works (s : State) : s.Works { s with course.shadow := none } := .of_frame

theorem State.softReset_works (s : State) : s.Works s.softReset := by
  refine State.Moves.show (.after (State.dropShadow_works _).toMoves (.after (State.clearCaptures_works _).toMoves
    (.after (State.clearStandings_works _).toMoves (.after (State.clearUnattributed_works _).toMoves
      (.after (State.clearPenalties_works _).toMoves (.after (State.mapCars_works _ _).toMoves
        (.after (State.initCars_works _ _).toMoves (.after (State.announce_moves _ _ _)
          (.of_frame (fun _ => ?_))))))))))
  simp [State.attributesRight_iff, RaceCtl.softReset]

end Sys2Proof.Machine
end

section
/-! PROOFS. Lap Accounting keeps the invariants: the seven stages of a passage, its jump handling and its finish. -/

set_option Elab.async false

namespace Sys2Proof.Machine

open Sys2Proof

variable (s : State)

theorem State.setLastSeen_works (c : Code) (t : Time) : s.Works (s.setLastSeen c t) := s.modCar_works _ _

/-! ## Jumps (R91, R121) -/

theorem State.handleJump_works (x : Passage) : s.Works (s.handleJump x) := by
  unfold State.handleJump
  split
  · dsimp only
    split
    · split
      · exact .after (State.abortToGrid_works (by simp_all) _)
          (.after (State.append_works _ _) (s.modRace_works _ _))
      · exact .after (State.raiseCall_works _ _ _ _ _) (s.modRace_works _ _)
    · exact .refl s
  · exact .refl s

theorem State.countdownPassage_works (x : Passage) : s.Works (s.countdownPassage x) := by
  unfold State.countdownPassage
  refine .after (State.handleJump_works _ _) ?_
  split
  · exact .after (State.modRace_works _ _ _) (s.setLastSeen_works _ _)
  · exact s.setLastSeen_works _ _

theorem State.lateCountdownPassage_works (x : Passage) : s.Works (s.lateCountdownPassage x) := by
  unfold State.lateCountdownPassage
  dsimp only
  split
  · exact .after (State.modRace_works _ _ _) (s.countdownPassage_works x)
  · exact s.countdownPassage_works x

/-! ## The stages (R92, R97, R101 to R104) -/

theorem State.rejoin_works (y : Car) (x : Passage) (mark : Bool) : s.Works (s.rejoin y x mark) := by
  unfold State.rejoin
  split
  · exact .after (State.recomputeCar_works _ _) (s.modRace_works _ _)
  · exact .after (State.recomputeCar_works _ _) (.after (State.append_works _ _) (s.modRace_works _ _))
  · exact .refl s

theorem State.finishChecks_works (c : Code) : s.Works (s.finishChecks c) := by
  unfold State.finishChecks
  split
  · split
    · rename_i _ h
      have hs : s.race.state = .green ∨ s.race.state = .caution := by
        simp only [State.lapsLimitHit, Bool.and_eq_true, Bool.or_eq_true, decide_eq_true_eq] at h
        exact h.1.1
      exact .after (State.settleCar_works _ _ _) (.after (State.finishCar_works _ _) (State.enterChequered_works hs))
    · split
      · exact .after (State.settleCar_works _ _ _) (s.finishCar_works _)
      · exact .refl s
  · exact .refl s

theorem State.countedLap_works (y : Car) (x : Passage) (f : LapFlags) (t : Option Nat) :
    s.Works (s.countedLap y x f t) := by
  have sorted (a : State) (b : Bool) : a.Works (if b then a.resort .lap else a) := by
    split
    · exact a.resort_works _
    · exact .refl a
  have served (a : State) (b : Bool) : a.Works (if b then a.serveTriggers x.code else a) := by
    split
    · exact a.serveTriggers_works _
    · exact .refl a
  exact .after (State.markServing_works _ _) (.after (served _ _) (.after (State.finishChecks_works _ _)
    (.after (sorted _ _) (.after (State.append_works _ _) (s.modRace_works _ _)))))

theorem State.stageLaps_works (y : Car) (x : Passage) (sp : Span) (mark : Bool) :
    s.Works (s.stageLaps y x sp mark) := by
  have turned := s.modRace_works x.code (fun r => r.turnLap sp (linePlace sp x.point) x)
  unfold State.stageLaps
  dsimp only
  split
  · exact turned
  all_goals
    split
    · exact .after (State.markServing_works _ _) turned
    · split
      · exact .after (State.countedLap_works _ _ _ _ _) turned
      · exact .after (State.markServing_works _ _) (.after (State.tallyLap_works _ _)
          (.after (State.append_works _ _) turned))

theorem State.stageServing_works (x : Passage) : s.Works (s.stageServing x) := by
  unfold State.stageServing
  split
  · split
    · exact s.beginStopGo_works _
    · exact .refl s
  · exact .refl s

theorem State.update_works (x : Passage) : s.Works (s.update x) := by
  unfold State.update
  split
  · dsimp only
    split
    · exact s.modCar_works _ _
    · exact .after (State.recomputeCar_works _ _) (s.modCar_works _ _)
  · exact .refl s

theorem State.passStages_works (y : Car) (x : Passage) : s.Works (s.passStages y x) := by
  have relocated (a : State) (b : Bool) :
      a.Works (if b then a else a.tallyLap (fun t => { t with relocated := t.relocated + 1 })) := by
    split
    · exact .refl a
    · exact a.tallyLap_works _
  have implausible (a : State) (b : Bool) :
      a.Works (if b then a.tallyLap (fun t => { t with implausible := t.implausible + 1 }) else a) := by
    split
    · exact a.tallyLap_works _
    · exact .refl a
  exact .after (State.update_works _ _) (.after (State.stageServing_works _ _) (.after (State.stageLaps_works _ _ _ _ _)
    (.after (State.raiseAll_works _ _ _) (.after (implausible _ _) (.after (relocated _ _) (s.rejoin_works _ _ _))))))

/-- Both branches of a test whole, the test is whole. -/
theorem State.Works.ite {t u : State} {p : Prop} [Decidable p] (h : s.Works t) (k : s.Works u) :
    s.Works (if p then t else u) := by
  split
  · exact h
  · exact k

theorem State.phaseGate_works (y : Car) (x : Passage) : s.Works (s.phaseGate y x) := by
  have seen := s.setLastSeen_works x.code x.capture.time
  have tallied (f : LapTallies → LapTallies) := seen.trans (State.tallyLap_works _ f)
  exact .ite _ (s.update_works x) (.ite _ seen (.ite _ (tallied _) (.ite _ (tallied _)
    (.ite _ (s.countdownPassage_works x) (.ite _ (s.lateCountdownPassage_works x)
      (.ite _ (tallied _) (s.passStages_works y x)))))))

theorem State.processPassage_works (x : Passage) : s.Works (s.processPassage x) := by
  unfold State.processPassage
  split
  · exact .after (State.doneTest_works _) (s.phaseGate_works _ x)
  · exact .refl s

end Sys2Proof.Machine
end

section
/-! PROOFS. The Passage Former, the gate bus and the capture unit keep the invariants. -/

set_option Elab.async false

namespace Sys2Proof.Machine

open Sys2Proof

variable (s : State)

/-! ## Heads, gates and tallies -/

theorem State.modHead_works (g : Gate) (f : Head → Head) : s.Works (s.modHead g f) := .of_frame

theorem State.modLane_works (g : Gate) (l : Lane) (f : LaneSensor → LaneSensor) : s.Works (s.modLane g l f) :=
  s.modHead_works g _

theorem State.countBy_works (g : Gate) (o : CounterObject) (n : Nat) : s.Works (s.countBy g o n) :=
  s.modHead_works g _

theorem State.countObj_works (g : Gate) (o : CounterObject) : s.Works (s.countObj g o) := s.countBy_works g o 1

theorem State.tallyPassage_works (f : PassageTallies → PassageTallies) : s.Works (s.tallyPassage f) := .of_frame

/-- The capture record of the changed gate. -/
theorem State.modGate_self (g : Gate) (f : GateCapture → GateCapture) :
    (s.modGate g f).time.gates[g] = f s.time.gates[g] := by
  simp

/-- The capture record of every other gate stands. -/
theorem State.modGate_other {g k : Gate} (f : GateCapture → GateCapture) (h : k ≠ g) :
    (s.modGate g f).time.gates[k] = s.time.gates[k] := by
  have hv : g.val ≠ k.val := fun e => h (Fin.ext e.symm)
  simp [hv]

/-- A gate's capture record changed to one with at most 4 captures on its stack. -/
theorem State.modGate_works (g : Gate) (f : GateCapture → GateCapture)
    (h : s.time.gates[g].stack.length ≤ 4 → (f s.time.gates[g]).stack.length ≤ 4) : s.Works (s.modGate g f) where
  pending := rfl
  session := rfl
  rng := rfl
  attributes := id
  notices := id
  sizes := by
    rintro ⟨hg, hrest⟩
    refine ⟨fun k => ?_, hrest⟩
    by_cases hk : k = g
    · subst hk
      rw [State.modGate_self]
      exact h (hg k)
    · rw [State.modGate_other _ _ hk]
      exact hg k
  ids := id
  engaged := fun p => by cases p <;> rfl
  outputs := id
  caps := id

/-! ## Detections -/

theorem State.senseLane_works (g : Gate) (d : Detection) : s.Works (s.senseLane g d) := by
  have lane (f : LaneSensor → LaneSensor) := s.modLane_works g d.lane f
  have noticed (f : LaneSensor → LaneSensor) (n : Notice) := (lane f).trans (State.append_works _ n)
  exact .ite _ (.ite _ (noticed _ _) (lane _)) (.ite _ (.ite _ (noticed _ _) (lane _)) (lane _))

theorem State.clearLanes_works (g : Gate) : s.Works (s.clearLanes g) :=
  .after (State.Works.foldl (fun a _ => a.append_works _) _ _) (s.modHead_works g _)

theorem State.claim_works (g : Gate) : s.Works (s.claim g).1 := by
  unfold State.claim
  dsimp only
  split
  · rename_i c rest h
    dsimp only
    refine s.modGate_works g _ (fun hl => ?_)
    rw [h] at hl
    exact Nat.le_of_succ_le hl
  · split
    · split <;> exact .refl s
    · exact .refl s

theorem State.setStray_works (m : Option StrayMemory) : s.Works { s with former.stray := m } := .of_frame

theorem State.strayRead_works (g : Gate) (c : Code) (l : Option Lane) (r : StrayReason) :
    s.Works (s.strayRead g c l r) := by
  unfold State.strayRead
  dsimp only
  have counted := s.countObj_works g .strays
  split
  · exact counted
  · exact .after (State.setStray_works _ _) (.after (State.append_works _ _) counted)

theorem State.checkLane_works (g : Gate) (l : Lane) : s.Works (s.checkLane g l).1 := by
  unfold State.checkLane
  split
  · dsimp only
    exact s.tallyPassage_works _
  · exact .refl s

theorem State.learn_works (c : Code) (t : Time) : s.Works (s.learn c t).1 := by
  unfold State.learn
  split <;> exact .of_frame

theorem State.handOver_works (g : Gate) (x : Car) (q : Passage) : s.Works (s.handOver g x q) :=
  .ite _ (.after (State.tallyPassage_works _ _) (s.countObj_works g _)) (s.processPassage_works q)

theorem State.codedOf_works (g : Gate) (x : Car) (l : Option Lane) (c : Capture) (b : Bool) :
    s.Works (s.codedOf g x l c b) := by
  unfold State.codedOf
  split
  · exact s.handOver_works g x _
  · exact .after (State.tallyPassage_works _ _) (s.setLastSeen_works _ _)

theorem State.knownCar_works (g : Gate) (x : Car) (l : Option Lane) (c : Capture) (b : Bool) :
    s.Works (s.knownCar g x l c b) := by
  have quiet := State.Works.after (State.tallyPassage_works _ (fun t => { t with quiet := t.quiet + 1 }))
    (s.setLastSeen_works x.code c.time)
  unfold State.knownCar
  split
  · exact quiet
  · exact quiet
  · exact quiet
  · exact .ite _ (s.codedOf_works g x l c b) (.after (State.strayRead_works _ _ _ _ _)
      (.after (State.tallyPassage_works _ _) (s.setLastSeen_works _ _)))

theorem State.codedPassage_works (g : Gate) (code : Code) (l : Option Lane) (c : Capture) (b : Bool) :
    s.Works (s.codedPassage g code l c b) := by
  unfold State.codedPassage
  split
  · exact s.knownCar_works g _ l c b
  · refine .ite _ ?_ (s.strayRead_works _ _ _ _)
    have learned := s.learn_works code c.time
    split
    · rename_i s1 h
      rw [h] at learned
      exact .after (State.codedOf_works _ _ _ _ _ _) learned
    · rename_i s1 h
      rw [h] at learned
      exact .after (State.strayRead_works _ _ _ _ _) learned

/-! ## The unattributed list (R51, R52) -/

theorem State.dropUnattr_works (r : Unattr) (w : GoneReason) (c : Code) : s.Works (s.dropUnattr r w c) :=
  .after (State.append_works _ _) (.of_frame (former := List.length_filter_le _ _))

/-- A record that leaves makes the list shorter. -/
theorem State.dropUnattr_shorter {r : Unattr} (h : r ∈ s.former.list) (w : GoneReason) (c : Code) :
    (s.dropUnattr r w c).former.list.length < s.former.list.length := by
  have : (s.former.list.filter (fun x => x.id != r.id)).length < s.former.list.length :=
    List.length_filter_lt_length_iff_exists.mpr ⟨r, h, by simp⟩
  simpa [State.dropUnattr] using this

theorem State.makeUnattrRoom_works : s.Works s.makeUnattrRoom := by
  unfold State.makeUnattrRoom
  split
  · exact .refl s
  · split
    · exact .after (State.tallyPassage_works _ _) (s.dropUnattr_works _ _ _)
    · exact .refl s

/-- Room made is room for one record (R52). -/
theorem State.makeUnattrRoom_length (h : s.former.list.length ≤ 8) : s.makeUnattrRoom.former.list.length < 8 := by
  unfold State.makeUnattrRoom
  split
  · assumption
  · split
    · rename_i r rest e
      have := s.dropUnattr_shorter (r := r) (by rw [e]; exact List.mem_cons_self) .dropped 0
      exact Nat.lt_of_lt_of_le this h
    · rename_i e
      simp [e]

theorem State.joinUnattr_works (g : Gate) (q : Nat) (l : Option Lane) (c : Capture) (o : UnattrOrigin) :
    s.Works (s.joinUnattr g q l c o) := by
  have h := s.makeUnattrRoom_works
  unfold State.joinUnattr
  refine .after (State.tallyPassage_works _ _) (.after (State.append_works _ _) ?_)
  exact {
    pending := h.pending
    session := h.session
    rng := h.rng
    attributes := h.attributes
    notices := h.notices
    sizes := fun hs => by
      have hl := s.makeUnattrRoom_length hs.2.1
      obtain ⟨hg, -, hrest⟩ := h.sizes hs
      refine ⟨hg, ?_, hrest⟩
      simp only [insertBy_length]
      omega
    ids := fun hi => by
      obtain ⟨h1, h2, hrest⟩ := h.ids hi
      obtain ⟨k1, k2⟩ := nextIdAfter_range (freeId_range (s.makeUnattrRoom.former.list.map Unattr.id) h1 h2).2
      exact ⟨k1, k2, hrest⟩
    engaged := h.engaged
    outputs := h.outputs
    caps := h.caps }

theorem State.predict_works (g : Gate) (q : Nat) (l : Option Lane) (c : Capture) (o : UnattrOrigin) :
    s.Works (s.predict g q l c o) := by
  unfold State.predict
  split
  · exact .after (State.handOver_works _ _ _ _) (s.tallyPassage_works _)
  · exact s.joinUnattr_works g q l c o

theorem State.anonPassage_works (g : Gate) (l : Option Lane) (c : Capture) (o : UnattrOrigin) :
    s.Works (s.anonPassage g l c o) := by
  unfold State.anonPassage
  split
  · exact s.tallyPassage_works _
  · rename_i q _
    have quiet := s.tallyPassage_works (fun t => { t with quiet := t.quiet + 1 })
    have offered := s.predict_works g q l c o
    split
    exacts [quiet, quiet, quiet, quiet, offered, offered, offered, offered, offered]

/-! ## A detection whole (R37, R40, R41) -/

theorem State.anonDetection_works (g : Gate) (d : Detection) (c : Capture) (b : Bool) :
    s.Works (s.anonDetection g d c b) := by
  have counted := s.countObj_works g .anon
  have suppressed (f : PassageTallies → PassageTallies) :=
    (counted.trans (State.countObj_works _ g .suppressed)).trans (State.tallyPassage_works _ f)
  exact .ite _ (suppressed _) (.ite _ (suppressed _)
    (.after (State.anonPassage_works _ _ _ _ _) (.after (State.checkLane_works _ _ _) counted)))

theorem State.classify_works (g : Gate) (d : Detection) (c : Capture) (b : Bool) : s.Works (s.classify g d c b) :=
  .ite _ (s.anonDetection_works g d c b) (.ite _
    (.after (State.codedPassage_works _ _ _ _ _ _) (s.checkLane_works _ _)) (s.strayRead_works _ _ _ _))

theorem State.takeDetection_works (g : Gate) (d : Detection) : s.Works (s.takeDetection g d) := by
  have claimed := (s.senseLane_works g d).trans (State.claim_works _ g)
  unfold State.takeDetection
  dsimp only
  split
  · rename_i h
    rw [h] at claimed
    exact .after (State.classify_works _ _ _ _ _) claimed
  · rename_i h
    rw [h] at claimed
    exact .after (State.tallyPassage_works _ _) (.after (State.countObj_works _ _ _) claimed)

/-! ## The gate bus (R17 to R34) -/

theorem State.joinQueue_works (g : Gate) (k : BusKind) : s.Works (s.joinQueue g k) := .of_frame

theorem State.dropEntries_works (g : Gate) : s.Works (s.dropEntries g) := .of_frame

theorem State.discardLine_works (g : Gate) (b : Bool) : s.Works (s.discardLine g b) := .of_frame

theorem State.freeLine_works : s.Works s.freeLine := .of_frame

theorem State.arbitrate_works : s.Works s.arbitrate := .of_frame

theorem State.busSettled_works : s.Works s.busSettled := .after (State.transmit_works _) s.arbitrate_works

theorem State.enterHead_works (g : Gate) (st : HeadState) (r : GateReason) : s.Works (s.enterHead g st r) := by
  have lanes (a : State) (b : Prop) [Decidable b] : a.Works (if b then a.clearLanes g else a) :=
    .ite _ (a.clearLanes_works g) (.refl a)
  have entered := State.Works.after (lanes _ (st = .setup)) (.after (State.append_works _ (.gate g st r))
    (.after (State.modHead_works _ g (fun h => h.entered st r s.time.session))
      (.after (State.discardLine_works _ g false) (s.dropEntries_works g))))
  unfold State.enterHead
  dsimp only
  split
  · exact .after (State.joinQueue_works _ _ _) entered
  · exact entered

theorem State.setCheck_works (c : Option GateCheck) : s.Works { s with bus.check := c } := .of_frame

theorem State.modCheck_works (g : Gate) (f : GateCheck → GateCheck) : s.Works (s.modCheck g f) := s.setCheck_works _

theorem State.joinNextCheck_works (g : Gate) : s.Works (s.joinNextCheck g) := by
  unfold State.joinNextCheck
  split
  · exact .ite _ (s.joinQueue_works _ _) (s.joinQueue_works _ _)
  · exact .refl s

/-- A reply put in its place touches neither the cursor nor the BUSY list. -/
theorem State.putReply_works (p : PortId) (f : List Byte) : s.Works (s.putReply p f) :=
  s.modPort_works p _ ⟨le_rfl, le_rfl⟩ rfl

theorem State.endCheck_works (g : Gate) : s.Works (s.endCheck g) := by
  unfold State.endCheck
  split
  · exact .ite _ (.after (State.putReply_works _ _ _) (s.setCheck_works _)) (.refl s)
  · exact .refl s

theorem State.requeue_works (g : Gate) (k : BusKind) : s.Works (s.requeue g k) := by
  unfold State.requeue
  have again (k : BusKind) := s.joinQueue_works g k
  split
  exacts [again _, again _, again _, again _, again _, again _, s.joinNextCheck_works g, .refl s]

theorem State.failedTransaction_works (g : Gate) (k : BusKind) : s.Works (s.failedTransaction g k) := by
  have check (a : State) : a.Works (if k.ofCheck then a.modCheck g (GateCheck.failedOne k) else a) :=
    .ite _ (a.modCheck_works g _) (.refl a)
  have counted := State.Works.after (check _) (.after (State.countObj_works _ g .failures)
    (s.modHead_works g (fun h => { h with failures := min 3 (s.bus.heads[g].failures + 1) })))
  exact .ite _ (.after (State.endCheck_works _ _) (.after (State.enterHead_works _ _ _ _) counted))
    (.after (State.requeue_works _ _ _) counted)

theorem State.setLine_works (x : Option Transaction) : s.Works { s with bus.line := x } := .of_frame

theorem State.attemptFailed_works : s.Works s.attemptFailed := by
  unfold State.attemptFailed
  split
  · exact .refl s
  · exact .ite _ (.after (State.busSettled_works _) (.ite _ s.freeLine_works
      (.after (State.failedTransaction_works _ _ _) s.freeLine_works))) (s.setLine_works _)

theorem State.busReply_works (g : Gate) (k : BusKind) (payload : List Byte) (f : State → BusReply → State)
    (hf : ∀ a r, State.Works a (f a r)) : s.Works (s.busReply g k payload f) := by
  unfold State.busReply
  split
  · refine .ite _ ?_ (.refl s)
    split
    · exact s.attemptFailed_works
    · exact .after (State.busSettled_works _) (.ite _ s.freeLine_works
        (.after (hf _ _) (.after (State.modHead_works _ _ _) s.freeLine_works)))
  · exact .refl s

theorem State.probeDone_works (g : Gate) (r : BusReply) : s.Works (s.probeDone g r) := by
  unfold State.probeDone
  split
  · rename_i n
    have sensors := s.modHead_works g (fun h => { h with sensors := some n })
    dsimp only
    split
    · exact .ite _ (.after (State.enterHead_works _ _ _ _) sensors) (.after (State.enterHead_works _ _ _ _) sensors)
    · exact .ite _ (.after (State.enterHead_works _ _ _ _) sensors) sensors
    · exact .refl s
  · exact .refl s

theorem State.writeRejected_works (g : Gate) : s.Works (s.writeRejected g) := by
  have counted := s.modHead_works g (fun h => { h with rejects := min 3 (s.bus.heads[g].rejects + 1) })
  exact .ite _ (.after (State.enterHead_works _ _ _ _) counted) (.after (State.joinQueue_works _ _ _) counted)

theorem State.writeDone_works (g : Gate) (f : State → State) (hf : ∀ a, State.Works a (f a)) (r : BusReply) :
    s.Works (State.writeDone g f s r) := by
  unfold State.writeDone
  split
  · exact hf s
  · exact s.writeRejected_works g
  · exact .refl s

theorem State.headReset_works (g : Gate) : s.Works (s.headReset g) := s.enterHead_works g _ _

theorem State.statusDone_works (g : Gate) (r : BusReply) : s.Works (s.statusDone g r) := by
  unfold State.statusDone
  split
  · exact s.modHead_works g _
  · exact s.headReset_works g
  · exact s.headReset_works g
  · exact .refl s

theorem State.settleFlag_works (g : Gate) (n : Nat) : s.Works (s.settleFlag g n) :=
  .ite _ (s.modHead_works g _) (.refl s)

theorem State.fetchDone_works (g : Gate) (r : BusReply) : s.Works (s.fetchDone g r) := by
  unfold State.fetchDone
  split
  · exact .after (State.settleFlag_works _ _ _) (.after (.foldl (fun a d => a.takeDetection_works g d) _ _)
      (.after (State.countBy_works _ _ _ _) (s.countBy_works _ _ _)))
  · exact s.settleFlag_works g _
  · exact s.headReset_works g
  · exact s.headReset_works g
  · exact .refl s

theorem State.checkRejected_works (g : Gate) : s.Works (s.checkRejected g) :=
  .after (State.endCheck_works _ _) (s.headReset_works g)

theorem State.patternOnDone_works (g : Gate) (r : BusReply) : s.Works (s.patternOnDone g r) := by
  unfold State.patternOnDone
  split
  · exact s.joinQueue_works g _
  · exact s.checkRejected_works g
  · exact .refl s

theorem State.checkFetchDone_works (g : Gate) (r : BusReply) : s.Works (s.checkFetchDone g r) := by
  unfold State.checkFetchDone
  split
  · exact .after (State.joinNextCheck_works _ _) (s.modCheck_works g _)
  · exact s.checkRejected_works g
  · exact .refl s

theorem State.patternOffDone_works (g : Gate) (r : BusReply) : s.Works (s.patternOffDone g r) := by
  unfold State.patternOffDone
  split
  · exact .after (State.endCheck_works _ _) (s.enterHead_works g _ _)
  · exact s.checkRejected_works g
  · exact .refl s

theorem State.joinPeriodic_works (g : Gate) (k : BusKind) : s.Works (s.joinPeriodic g k) :=
  .ite _ (.refl s) (s.joinQueue_works g k)

/-! ## Strobe edges (R10 to R14) -/

theorem mergeNewest_length (l : List Capture) : (mergeNewest l).length = l.length := by
  induction l using mergeNewest.induct with
  | case1 => rfl
  | case2 c => rfl
  | case3 c d rest ih => simp [mergeNewest, ih]

theorem GateCapture.mergeEdge_length (q : GateCapture) : q.mergeEdge.stack.length = q.stack.length := by
  unfold GateCapture.mergeEdge
  split
  · rfl
  · exact mergeNewest_length _

theorem State.stackEdge_works (g : Gate) : s.Works (s.stackEdge g) := by
  unfold State.stackEdge
  split
  · rename_i h
    refine .after (State.modHead_works _ _ _) (s.modGate_works g _ (fun _ => ?_))
    simp only [stackLimit, List.length_append, List.length_singleton] at h ⊢
    omega
  · exact s.countObj_works g _

theorem State.offerEdge_works (g : Gate) : s.Works (s.offerEdge g) := by
  have counted := s.countObj_works g .strobes
  exact .ite _ (.after (State.countObj_works _ _ _) (.after
    (State.modGate_works _ _ _ (fun h => by rw [GateCapture.mergeEdge_length]; exact h)) counted))
    (.after (State.stackEdge_works _ _) counted)

theorem State.dropEdge_works (g : Gate) : s.Works (s.dropEdge g) := by
  unfold State.dropEdge
  exact .of_frame

theorem State.takeEdge_works (g : Gate) : s.Works (s.takeEdge g) := by
  unfold State.takeEdge
  split
  · exact .ite _ (.after (State.busSettled_works _) (s.offerEdge_works g)) (.refl s)
  exacts [s.countObj_works g _, s.countObj_works g _, .refl s, .refl s, .refl s, .refl s]

theorem State.releaseBlank_works (g : Gate) (c : Capture) (rest : List Capture)
    (h : s.time.gates[g].stack = c :: rest) : s.Works (s.releaseBlank g c rest) := by
  refine .after (State.anonPassage_works _ _ _ _ _) (.after (State.countObj_works _ _ _)
    (s.modGate_works g _ (fun hl => ?_)))
  rw [h] at hl
  exact Nat.le_of_succ_le hl

end Sys2Proof.Machine
end

section
/-! PROOFS. Every command completes while neither BUSY list is full, and settles: what a request, a deadline and an event
of the power link keep. -/

set_option Elab.async false

namespace Sys2Proof.Machine

open Sys2Proof

variable (s : State)

/-! ## The outcome of a command -/

/-- A command's outcome keeps the invariants, and it is a state while neither BUSY list is full. -/
structure State.Runs (s : State) (o : Host.Outcome State Fault Refusal) : Prop where
  settles : ∀ t, o = .next t → s.Settles t
  completes : s.portA.busyList.length < 50 → s.portB.busyList.length < 50 → ∃ t, o = .next t

variable {s} in
theorem State.Settles.runs {t : State} (h : s.Settles t) : s.Runs (.next t) where
  settles := fun _ e => by cases e; exact h
  completes := fun _ _ => ⟨t, rfl⟩

variable {s} in
theorem State.Works.runs {t : State} (h : s.Works t) : s.Runs (.next t) := h.settles.runs

/-- What the served request leaves is whole. -/
def State.Serves (s : State) (r : Served) : Prop := s.Works r.1

theorem State.refuse_serves (st : ReplyStatus) : s.Serves (refuse st s) := .refl s

theorem State.answer_serves (st : ReplyStatus) (data : List Byte) : s.Serves (answer st data s) := .refl s

variable {s} in
theorem State.Works.serves {t : State} (h : s.Works t) (data : List Byte) : s.Serves (ok data t) := h

variable {s} in
theorem State.Serves.ite {a b : Served} {p : Prop} [Decidable p] (h : s.Serves a) (k : s.Serves b) :
    s.Serves (if p then a else b) := by
  split
  · exact h
  · exact k

/-- A taken frame keeps its port's cursor and BUSY list. -/
theorem State.frameTaken_works (p : PortId) (f : List Byte) : s.Works (s.frameTaken p f) :=
  s.modPort_works p _ ⟨le_rfl, le_rfl⟩ rfl

theorem State.engage_settles (p : PortId) : s.Settles (s.engage p) := s.modPort_settles p _ ⟨le_rfl, le_rfl⟩

theorem State.replied_works (p : PortId) (kind tag : Byte) (r : Served) : r.1.Works (State.replied p kind tag r) := by
  unfold State.replied
  split
  · exact r.1.putReply_works _ _
  · exact .refl r.1

/-- A BUSY TAG joins a list of at most 50 (R188). -/
theorem State.busyTag_settles (p : PortId) (tag : Byte) (h : (s.port p).busyList.length < 50) :
    s.Settles (s.modPort p (fun q =>
      { q with busyList := q.busyList ++ [tag], counters := { q.counters with busy := q.counters.busy + 1 } })) := by
  cases p
  all_goals
    exact {
      pending := rfl
      session := rfl
      rng := rfl
      attributes := id
      notices := id
      sizes := by
        rintro ⟨hg, hf, hp, h1, h2⟩
        simp only [State.port] at h
        refine ⟨hg, hf, hp, ?_, ?_⟩ <;>
          simp only [State.modPort, List.length_append, List.length_singleton] <;> omega
      ids := id
      outputs := id
      caps := id }

theorem State.answerBusy_runs (p : PortId) (tag : Byte) : s.Runs (s.answerBusy p tag) where
  settles := fun t h => by
    unfold State.answerBusy at h
    split at h
    · cases h
    · rename_i hb
      cases h
      exact (s.busyTag_settles p tag (by omega)).trans (State.transmit_works _).settles
  completes := fun ha hb => by
    have h : (s.port p).busyList.length < 50 := by cases p <;> assumption
    simp only [State.answerBusy]
    rw [if_neg (by omega)]
    exact ⟨_, rfl⟩

theorem State.frameTaken_busyList (p q : PortId) (f : List Byte) :
    ((s.frameTaken p f).port q).busyList = (s.port q).busyList := by
  cases p <;> cases q <;> rfl

/-- A taken frame whose own work is whole runs. -/
theorem State.takeFrame_runs (p : PortId) (kind tag : Byte) (payload : List Byte) (body : State → Served)
    (hb : ∀ a, State.Serves a (body a)) : s.Runs (s.takeFrame p kind tag payload body) := by
  have taken := s.frameTaken_works p (ltFrame kind tag payload)
  have busy := (s.frameTaken p (ltFrame kind tag payload)).answerBusy_runs p tag
  refine ⟨fun t h => ?_, fun ha hb => ?_⟩
  · obtain ⟨-, rfl⟩ | ⟨-, -, h⟩ | ⟨-, rfl⟩ := State.takeFrame_cases h
    · exact .refl t
    · exact taken.settles.trans (busy.settles t h)
    · exact ((((taken.settles.trans (State.engage_settles _ p)).trans (hb _).settles).trans
        (State.replied_works _ _ _ _).settles).trans (State.transmit_works _).settles)
  · unfold State.takeFrame
    dsimp only
    split
    · exact ⟨s, rfl⟩
    split
    · exact busy.completes (by simpa [State.port] using (s.frameTaken_busyList p .A _ ▸ ha))
        (by simpa [State.port] using (s.frameTaken_busyList p .B _ ▸ hb))
    · exact ⟨_, rfl⟩

theorem State.serve_runs (p : PortId) (kind tag : Byte) (payload : List Byte) (onlyA : Bool) (len : Nat)
    (body : State → Served) (hb : ∀ a, State.Serves a (body a)) :
    s.Runs (s.serve p kind tag payload onlyA len body) :=
  s.takeFrame_runs p kind tag payload _ (fun a => .ite (a.refuse_serves _) (.ite (a.refuse_serves _) (hb a)))

end Sys2Proof.Machine
end

section
/-! PROOFS. What each request, deadline and event of the power link keeps; every command runs. -/

set_option Elab.async false

namespace Sys2Proof.Machine

open Sys2Proof

variable (s : State)

/-! ## The course map, the settings and the start program (R82 to R87, R117) -/

theorem State.structuralEdit_works : s.Works s.structuralEdit := s.mapCars_works _

theorem State.setMap_works (points : List CoursePoint) (sectors : List Sector) (shadow : Option (List Sector)) :
    s.Works { s with course.points := points, course.sectors := sectors, course.shadow := shadow } := .of_frame

theorem State.resizeCourse_works (n : Nat) : s.Works (s.resizeCourse n) :=
  .after (State.structuralEdit_works _) (s.setMap_works _ _ s.course.shadow)

theorem State.writePoint_works (i : Nat) (q : CoursePoint) : s.Works (s.writePoint i q) := by
  have set := s.setMap_works (setPoint s.course.points i q) s.course.sectors s.course.shadow
  exact .ite _ set (.after (State.structuralEdit_works _) set)

theorem State.setPointChecked_serves (i : Nat) (q : CoursePoint) : s.Serves (s.setPointChecked i q) := by
  have written := (s.writePoint_works i q).serves []
  unfold State.setPointChecked
  refine .ite (s.refuse_serves _) ?_
  split
  · exact .ite (s.refuse_serves _) (.ite (s.refuse_serves _) written)
  · exact written

theorem State.writeSector_serves (i : Nat) (t : Sector) : s.Serves (s.writeSector i t) := by
  have written := (s.setMap_works s.course.points (s.course.sectors.set i t) s.course.shadow).serves [0]
  have pending := (s.setMap_works s.course.points s.course.sectors
    (some ((s.course.shadow.getD s.course.sectors).set i t))).serves [1]
  unfold State.writeSector
  split
  exacts [written, written, pending, pending, pending, pending, s.refuse_serves _, s.refuse_serves _,
    s.refuse_serves _]

/-- Rows computed anew stand within the state cap (R165, R167). -/
theorem State.recomputeAll_capsRight : s.recomputeAll.capsRight := fun d => by
  rw [State.recomputeAll_row, State.stateCap_congr (s := s) (by simp) (by simp)]
  exact s.rowOf_cap_le d

/-- Settings with the same caps leave the state cap; others recompute the rows (R87). -/
theorem State.putSettings_works (t : Settings) : s.Works (s.putSettings t) := by
  have moved : s.Moves { s with course.settings := t } := .of_frame id
  unfold State.putSettings
  dsimp only
  split
  · rename_i h
    obtain ⟨h1, -, -, -, h5⟩ : t.cautionCap = _ ∧ t.driveCap = _ ∧ t.pitCap = _ ∧ t.coolCap = _ ∧ t.practiceCap = _ := by
      simpa [Settings.caps] using h
    have cap : State.stateCap { s with course.settings := t } = s.stateCap := by
      simp [State.stateCap, h1, h5]
    exact { moved with outputs := id, caps := fun hs d => cap ▸ hs d }
  · have recomputed := State.recomputeAll_works { s with course.settings := t }
    exact {
      moved.trans recomputed.toMoves with
      outputs := fun hs => recomputed.outputs hs
      caps := fun _ => State.recomputeAll_capsRight _ }

/-- In IDLE and PRACTICE no lamp shows the start program (R112, R135). -/
theorem State.putProgram_works (t : StartProgram) (h : s.race.state.configurable = true) :
    s.Works { s with race.program := t } where
  toMoves := .of_frame id
  outputs := fun hs => by
    have lamps : State.lampPattern { s with race.program := t } = s.lampPattern := by
      unfold State.lampPattern
      cases e : s.race.state <;> simp_all [RaceState.configurable]
    exact ⟨hs.1, hs.2.trans lamps.symm⟩
  caps := id

theorem State.adjustLaps_serves (c : Code) (d : Int) : s.Serves (s.adjustLaps c d) := by
  unfold State.adjustLaps
  split
  · exact .ite (.serves (.after (State.resort_works _ _) (s.modRace_works _ _)) _) (s.refuse_serves _)
  · exact s.refuse_serves _

/-! ## Gate requests (R21, R29, R33, R39) -/

theorem State.configureGate_works (g : Gate) (m : BitVec 7) (threshold guard : Nat) :
    s.Works (s.configureGate g m threshold guard) :=
  .after (State.arbitrate_works _) (.after (State.clearLanes_works _ _) (.after (State.enterHead_works _ _ _ _)
    (.after (State.discardLine_works _ _ _) (.after (State.modHead_works _ _ _) (s.modGate_works _ _ id)))))

theorem State.removeGate_works (g : Gate) : s.Works (s.removeGate g) :=
  .after (State.arbitrate_works _) (.after (State.enterHead_works _ _ _ _) (.after (State.discardLine_works _ _ _)
    (s.modHead_works _ _)))

theorem State.startCheck_works (g : Gate) (tag : Byte) : s.Works (s.startCheck g tag) :=
  .after (State.arbitrate_works _) (.after (State.setCheck_works _ _) (s.enterHead_works _ _ _))

theorem State.clearStuck_serves (g : Gate) (l : Lane) : s.Serves (s.clearStuck g l) :=
  .ite (.serves (.after (State.append_works _ _) (s.modLane_works _ _ _)) _) (s.refuse_serves _)

/-! ## The unattributed list (R54, R55) -/

theorem State.assignTo_works (r : Unattr) (c : Code) : s.Works (s.assignTo r c) :=
  .after (State.processPassage_works _ _) (.after (State.tallyPassage_works _ _) (s.dropUnattr_works _ _ _))

theorem State.assign_serves (id : Nat) (c : Code) : s.Serves (s.assign id c) := by
  unfold State.assign
  refine .ite ?_ (s.refuse_serves _)
  split
  · exact .ite (.ite (s.refuse_serves _) ((s.assignTo_works _ _).serves _)) (s.refuse_serves _)
  · exact s.refuse_serves _

theorem State.discard_serves (id : Nat) : s.Serves (s.discard id) := by
  unfold State.discard
  split
  · exact .serves (.after (State.tallyPassage_works _ _) (s.dropUnattr_works _ _ _)) _
  · exact s.refuse_serves _

/-! ## The roster (R66 to R72, R75) -/

theorem State.putCar_works (i : Slot) (x : Car) : s.Works (s.putCar i x) := .of_frame

theorem State.register_serves (c : Code) (number drive : Nat) : s.Serves (s.register c number drive) := by
  unfold State.register
  split
  · split
    · exact .ite (s.refuse_serves _) ((s.putCar_works _ _).serves _)
    · exact s.refuse_serves _
  · split
    · exact (s.putCar_works _ _).serves _
    · exact s.refuse_serves _

theorem State.emptySlot_works (i : Slot) : s.Works (s.emptySlot i) := .of_frame

theorem State.removeCar_serves (c : Code) : s.Serves (s.removeCar c) := by
  unfold State.removeCar
  split
  · exact .ite (s.refuse_serves _) ((s.emptySlot_works _).serves _)
  · exact s.refuse_serves _

theorem State.setStand_works (t : Standings) : s.Works { s with stand := t } := .of_frame

theorem State.standEnter_works (c : Code) (grid : Nat) : s.Works (s.standEnter c grid) :=
  .ite _ (s.setStand_works _) (.refl s)

theorem State.standWithdraw_works (c : Code) : s.Works (s.standWithdraw c) :=
  .ite _ (s.setStand_works _) (.refl s)

theorem State.enterCar_works (x : Car) (grid : Nat) : s.Works (s.enterCar x grid) :=
  .after (State.recomputeDrive_works _ _) (.after (State.standEnter_works _ _ _) (s.modCar_works _ _))

theorem State.enter_serves (c : Code) (grid : Nat) : s.Serves (s.enter c grid) := by
  have refused (st : ReplyStatus) := s.refuse_serves st
  unfold State.enter
  split
  · exact refused _
  · exact .ite (refused _) (.ite (refused _) (.ite (refused _) (.ite (refused _) ((s.enterCar_works _ _).serves _))))

theorem State.withdrawCar_works (x : Car) : s.Works (s.withdrawCar x) :=
  .after (State.recomputeDrive_works _ _) (.after (State.standWithdraw_works _ _) (s.modCar_works _ _))

theorem State.withdraw_serves (c : Code) : s.Serves (s.withdraw c) := by
  unfold State.withdraw
  split
  · exact s.refuse_serves _
  · exact .ite ((s.withdrawCar_works _).serves _) (s.refuse_serves _)

theorem State.retireCar_works (c : Code) : s.Works (s.retireCar c) :=
  .after (State.doneTest_works _) (.after (State.recomputeCar_works _ _) (.after (State.resort_works _ _)
    (.after (State.settleCar_works _ _ _) (s.modRace_works _ _))))

theorem State.retire_serves (c : Code) : s.Serves (s.retire c) := by
  unfold State.retire
  split
  · exact s.refuse_serves _
  · refine .ite (s.refuse_serves _) ?_
    split
    · exact s.refuse_serves _
    · exact s.refuse_serves _
    · exact (s.retireCar_works c).serves _

theorem State.setRoster_works (r : Roster) : s.Works { s with roster := r } := .of_frame

/-! ## Penalties (R138, R144 to R149, R158) -/

theorem State.endReview_works (r : Penalty) : s.Works (s.endReview r) :=
  .after (State.finishEvent_works _ _ _ _) (s.decideByMode_works r)

/-- The record a CALL opens (R142, R149). -/
def State.manualRecord (s : State) (c : Code) (o : PenaltyOutcome) (amount : Nat) : Penalty :=
  s.newRecord .manual c none o amount none manualConversion

theorem State.raiseManual_eq (p : PortId) (c : Code) (o : PenaltyOutcome) (amount : Nat) {v : State × Penalty × Bool}
    (h : v = s.confirmRecord (deciderOf p) (s.manualRecord c o amount)) :
    s.raiseManual p c o amount = ok (s.recordBytes v.2.1) (v.1.joinRecord v.2.1 v.2.2) := by
  subst h
  rfl

theorem State.callCar_serves (p : PortId) (c : Code) (o : PenaltyOutcome) (amount : Nat) :
    s.Serves (s.callCar p c o amount) := by
  unfold State.callCar
  refine .ite (s.refuse_serves _) ?_
  split
  · refine .ite ?_ (s.refuse_serves _)
    split
    · rename_i a ha
      rw [State.raiseManual_eq a p c o amount rfl]
      have room := State.makeRoom_works ha
      refine .serves (State.joinRecord_works (room.trans (a.confirmRecord_works _ _)) _ _ (fun hs => ?_)
        (fun hi => ?_)) _
      · have := State.makeRoom_length ha hs.2.2.1
        rw [State.confirmRecord_state]
        simpa using this
      · rw [State.confirmRecord_id]
        exact State.newPenaltyId_range (room.ids hi)
    · exact s.refuse_serves _
  · exact s.refuse_serves _

theorem State.confirmBy_serves (p : PortId) (r : Penalty) : s.Serves (s.confirmBy p r) :=
  State.Works.serves (.after (State.finishEvent_works _ _ _ _) (s.confirmRecord_works _ r)) _

theorem State.confirm_serves (p : PortId) (id : Nat) (o : Option (PenaltyOutcome × Nat)) :
    s.Serves (s.confirm p id o) := by
  unfold State.confirm
  split
  · exact s.refuse_serves _
  · refine .ite (s.confirmBy_serves _ _) ?_
    split <;> exact s.answer_serves _ _

variable {s} in
theorem State.Works.reverse {t : State} (h : s.Works t) (r : Penalty) (b : Bool) : s.Serves (t.reverse r b) :=
  State.Works.serves (.after (State.finishEvent_works _ _ _ _) h) _

theorem State.subTime_works (c : Code) (n : Nat) : s.Works (s.subTime c n) := s.modRace_works _ _

theorem State.subDeduct_works (c : Code) (n : Nat) : s.Works (s.subDeduct c n) := s.modRace_works _ _

theorem State.waiveDecided_serves (r : Penalty) : s.Serves (s.waiveDecided r) := by
  have unchanged := State.Works.refl s
  unfold State.waiveDecided
  split
  · exact unchanged.reverse r _
  · exact State.Works.reverse (.ite _ (s.restartSilence_works _) unchanged) r _
  · split
    exacts [(s.subTime_works _ _).reverse r _, (s.subDeduct_works _ _).reverse r _, unchanged.reverse r _,
      s.answer_serves _ _, s.answer_serves _ _, s.answer_serves _ _]
  · exact (s.subTime_works _ _).reverse r _
  · exact s.answer_serves _ _
  · exact (s.finishEvent_works _ _ _).serves _

theorem State.waive_serves (p : PortId) (id : Nat) : s.Serves (s.waive p id) := by
  unfold State.waive
  split
  · exact s.refuse_serves _
  · refine .ite ((s.finishEvent_works _ _ _).serves _) ?_
    split
    · exact s.refuse_serves _
    · exact s.waiveDecided_serves _

theorem State.setSchedule_works (v : Vector ScheduleRow 6) : s.Works { s with pen.schedule := v } := .of_frame

/-! ## Caution, suspension, silence (R108, R123 to R127) -/

theorem State.caution_serves : s.Serves s.caution := by
  unfold State.caution
  split
  · exact (State.enterCaution_works ‹_› _).serves _
  · exact s.refuse_serves _
  · exact (State.cautionSaved_works ‹_›).serves _
  · exact .ite (s.refuse_serves _)
      (.serves (s.growCaution_works.trans (State.setHeld_works (by simpa using ‹s.race.state = _›) _)) _)
  · exact s.refuse_serves _

theorem State.lift_serves : s.Serves s.lift := by
  unfold State.lift
  split
  · exact (State.liftCaution_works ‹_›).serves _
  · exact (State.liftSaved_works ‹_›).serves _
  · exact .ite ((State.setHeld_works ‹_› _).serves _) (s.refuse_serves _)
  · exact s.refuse_serves _

theorem State.suspend_serves : s.Serves s.suspend := by
  unfold State.suspend
  split
  exacts [(State.suspendRace_works _).serves _, (State.suspendRace_works _).serves _,
    (State.suspendRace_works _).serves _, s.refuse_serves _, s.refuse_serves _]

theorem State.deslot_works (x : Car) : s.Works (s.deslot x) := by
  have offTrack := State.Works.after (State.recomputeCar_works _ x.code)
    (.after (State.append_works _ (.deslot x.code x.number (x.race.last.map LastPassage.point) x.race.lastLane))
      (s.modRace_works x.code (fun r => { r with state := .offTrack, silence := none })))
  unfold State.deslot
  dsimp only
  split
  · rename_i h
    exact offTrack.trans (State.enterCaution_works h.2 _)
  · exact offTrack

/-! ## The power link (R168 to R172) -/

/-- The link's own fields beside rows, link state and track-enable line are in no invariant. -/
theorem State.setPower_works (v : Power) (rows : v.rows = s.power.rows := by rfl)
    (link : v.linkUp = s.power.linkUp := by rfl) (enable : v.trackEnable = s.power.trackEnable := by rfl) :
    s.Works { s with power := v } := .of_frame (rows := rows) (link := link) (enable := enable)

theorem State.badFrame_works : s.Works s.badFrame := s.setPower_works _

theorem State.sendPermits_works (tag : Byte) : s.Works (s.sendPermits tag) := s.setPower_works _

theorem State.placePermits_works (tag : Byte) : s.Works (s.placePermits tag) := by
  unfold State.placePermits
  split
  · exact s.sendPermits_works tag
  · exact s.setPower_works _
  · exact s.setPower_works _

/-- A change of the link with the track-enable line set anew is whole (R173). -/
theorem State.setLink_works (v : Power) (rows : v.rows = s.power.rows := by rfl) :
    s.Works (State.setTrackEnable { s with power := v }) where
  toMoves := .of_frame (by simp [State.attributesRight])
  outputs := fun h => ⟨rfl, h.2⟩
  caps := fun h d => by
    have := h d
    rw [← rows] at this
    exact this

theorem State.pollTaken_works : s.Works s.pollTaken :=
  .ite _ (s.setPower_works _) (s.setLink_works _)

theorem State.baseStatus_works (b : BaseStatus) : s.Works (s.baseStatus b) := by
  have kept := s.setPower_works { s.power with status := some b }
  unfold State.baseStatus
  dsimp only
  split
  · exact kept.trans (State.reportTrouble_works _)
  · exact kept

theorem State.linkLost_works : s.Works s.linkLost :=
  .after (State.reportTrouble_works _) (s.setLink_works _)

end Sys2Proof.Machine
end

section
/-! PROOFS. Every command settles and completes, and with it the queue, the clock, the random source and the invariants of
the part (O2, O3, O5, O56 to O60); the machine right after reset (O1, O4). -/

set_option Elab.async false

namespace Sys2Proof.Machine

open Sys2Proof

variable (s : State)

/-- An event that changes something only in some case. -/
theorem State.Works.runs_ite {t : State} {p : Prop} [Decidable p] (h : s.Works t) :
    s.Runs (.next (if p then t else s)) := (State.Works.ite _ h (.refl s)).runs

/-! ## Requests -/

variable (p : PortId) (tag : Byte) (payload : List Byte)

theorem execOpenPractice_runs : s.Runs (execOpenPractice p tag payload s) :=
  s.serve_runs _ _ _ _ _ _ _ (fun a => by
    split
    · exact (State.openPractice_works ‹_›).serves _
    · exact a.refuse_serves _)

theorem execEndPractice_runs : s.Runs (execEndPractice p tag payload s) :=
  s.serve_runs _ _ _ _ _ _ _ (fun a => by
    split
    · exact (State.closePractice_works ‹_› _).serves _
    · exact a.refuse_serves _)

theorem execFormGrid_runs : s.Runs (execFormGrid p tag payload s) :=
  s.serve_runs _ _ _ _ _ _ _ (fun a => by
    split
    · exact .ite ((State.formGrid_works ‹_›).serves _) (a.refuse_serves _)
    · exact a.refuse_serves _)

theorem execStandDown_runs : s.Runs (execStandDown p tag payload s) :=
  s.serve_runs _ _ _ _ _ _ _ (fun a => by
    split
    · exact (State.standDown_works ‹_›).serves _
    · exact a.refuse_serves _)

theorem execStart_runs : s.Runs (execStart p tag payload s) :=
  s.serve_runs _ _ _ _ _ _ _ (fun a => by
    split
    · exact .ite ((State.startRace_works ‹_›).serves _) (a.refuse_serves _)
    · exact a.refuse_serves _)

theorem execAbortStart_runs : s.Runs (execAbortStart p tag payload s) :=
  s.serve_runs _ _ _ _ _ _ _ (fun a => by
    split
    · exact (State.abortToGrid_works ‹_› _).serves _
    · exact a.refuse_serves _)

theorem execCaution_runs : s.Runs (execCaution p tag payload s) :=
  s.serve_runs _ _ _ _ _ _ _ State.caution_serves

theorem execLift_runs : s.Runs (execLift p tag payload s) := s.serve_runs _ _ _ _ _ _ _ State.lift_serves

theorem execSuspend_runs : s.Runs (execSuspend p tag payload s) := s.serve_runs _ _ _ _ _ _ _ State.suspend_serves

theorem execResume_runs : s.Runs (execResume p tag payload s) :=
  s.serve_runs _ _ _ _ _ _ _ (fun a =>
    .ite (.ite (a.resumeRace_works.serves _) (a.refuse_serves _)) (a.refuse_serves _))

theorem execClose_runs : s.Runs (execClose p tag payload s) :=
  s.serve_runs _ _ _ _ _ _ _ (fun a => .ite ((a.closeRace_works _).serves _) (a.refuse_serves _))

theorem execRelease_runs : s.Runs (execRelease p tag payload s) :=
  s.serve_runs _ _ _ _ _ _ _ (fun a => by
    split
    · exact (State.release_works ‹_›).serves _
    · exact a.refuse_serves _)

theorem execSoftReset_runs : s.Runs (execSoftReset p tag payload s) :=
  s.serve_runs _ _ _ _ _ _ _ (fun a => a.softReset_works.serves _)

theorem execSetStartProgram_runs : s.Runs (execSetStartProgram p tag payload s) :=
  s.serve_runs _ _ _ _ _ _ _ (fun a => by
    split
    · split
      · exact (a.putProgram_works _ ‹_›).serves _
      · exact a.refuse_serves _
    · exact a.refuse_serves _)

theorem execSetRaceSettings_runs : s.Runs (execSetRaceSettings p tag payload s) :=
  s.serve_runs _ _ _ _ _ _ _ (fun a => by
    split
    · exact .ite ((a.putSettings_works _).serves _) (a.refuse_serves _)
    · exact a.refuse_serves _)

theorem execSetPointCount_runs : s.Runs (execSetPointCount p tag payload s) :=
  s.serve_runs _ _ _ _ _ _ _ (fun a =>
    .ite (a.refuse_serves _) (.serves (.ite _ (.refl a) (a.resizeCourse_works _)) _))

theorem execSetCoursePoint_runs : s.Runs (execSetCoursePoint p tag payload s) :=
  s.serve_runs _ _ _ _ _ _ _ (fun a => by
    split
    · exact .ite (a.setPointChecked_serves _ _) (a.refuse_serves _)
    · exact a.refuse_serves _)

theorem execSetSection_runs : s.Runs (execSetSection p tag payload s) :=
  s.serve_runs _ _ _ _ _ _ _ (fun a => by
    split
    · exact .ite (a.writeSector_serves _ _) (a.refuse_serves _)
    · exact a.refuse_serves _)

theorem execSetGate_runs : s.Runs (execSetGate p tag payload s) :=
  s.serve_runs _ _ _ _ _ _ _ (fun a => by
    split
    · exact .ite (a.refuse_serves _) (.ite (a.refuse_serves _) ((a.configureGate_works _ _ _ _).serves _))
    · exact a.refuse_serves _)

theorem execRemoveGate_runs : s.Runs (execRemoveGate p tag payload s) :=
  s.serve_runs _ _ _ _ _ _ _ (fun a => by
    split
    · exact .ite (a.refuse_serves _) (.ite (a.refuse_serves _) ((a.removeGate_works _).serves _))
    · exact a.refuse_serves _)

theorem execGateCheck_runs : s.Runs (execGateCheck p tag payload s) :=
  s.serve_runs _ _ _ _ _ _ _ (fun a => by
    split
    · exact .ite (a.refuse_serves _) (.ite (a.refuse_serves _) (a.startCheck_works _ _))
    · exact a.refuse_serves _)

theorem execSetCounters_runs : s.Runs (execSetCounters p tag payload s) :=
  s.serve_runs _ _ _ _ _ _ _ (fun a => by
    split
    · exact (a.modHead_works _ _).serves _
    · exact a.refuse_serves _)

theorem execClearCounters_runs : s.Runs (execClearCounters p tag payload s) :=
  s.serve_runs _ _ _ _ _ _ _ (fun a => by
    split
    · exact (a.modHead_works _ _).serves _
    · exact a.refuse_serves _)

theorem execClearStuck_runs : s.Runs (execClearStuck p tag payload s) :=
  s.serve_runs _ _ _ _ _ _ _ (fun a => by
    split
    · exact a.clearStuck_serves _ _
    · exact a.refuse_serves _)

theorem execRegisterCar_runs : s.Runs (execRegisterCar p tag payload s) :=
  s.serve_runs _ _ _ _ _ _ _ (fun a => by
    split
    · split
      exacts [a.register_serves _ _ _, a.register_serves _ _ _, a.refuse_serves _]
    · exact a.refuse_serves _)

theorem execRemoveCar_runs : s.Runs (execRemoveCar p tag payload s) :=
  s.serve_runs _ _ _ _ _ _ _ (fun a => by
    split
    · exact a.removeCar_serves _
    · exact a.refuse_serves _)

theorem execSetLearning_runs : s.Runs (execSetLearning p tag payload s) :=
  s.serve_runs _ _ _ _ _ _ _ (fun a => by
    split
    · exact (a.setRoster_works _).serves _
    · exact a.refuse_serves _)

theorem execSetAgeLimit_runs : s.Runs (execSetAgeLimit p tag payload s) :=
  s.serve_runs _ _ _ _ _ _ _ (fun a => (a.setRoster_works _).serves _)

theorem execEnter_runs : s.Runs (execEnter p tag payload s) :=
  s.serve_runs _ _ _ _ _ _ _ (fun a => by
    split
    · exact .ite (a.enter_serves _ _) (a.refuse_serves _)
    · exact a.refuse_serves _)

theorem execWithdraw_runs : s.Runs (execWithdraw p tag payload s) :=
  s.serve_runs _ _ _ _ _ _ _ (fun a => by
    split
    · exact .ite (a.withdraw_serves _) (a.refuse_serves _)
    · exact a.refuse_serves _)

theorem execRetire_runs : s.Runs (execRetire p tag payload s) :=
  s.serve_runs _ _ _ _ _ _ _ (fun a => by
    split
    · exact .ite (a.retire_serves _) (a.refuse_serves _)
    · exact a.refuse_serves _)

theorem execAdjustLaps_runs : s.Runs (execAdjustLaps p tag payload s) :=
  s.serve_runs _ _ _ _ _ _ _ (fun a => by
    split
    · exact .ite (a.adjustLaps_serves _ _) (a.refuse_serves _)
    · exact a.refuse_serves _)

theorem execSetSchedule_runs : s.Runs (execSetSchedule p tag payload s) :=
  s.serve_runs _ _ _ _ _ _ _ (fun a => by
    split
    · exact .ite ((a.setSchedule_works _).serves _) (a.refuse_serves _)
    · exact a.refuse_serves _)

theorem execAssign_runs : s.Runs (execAssign p tag payload s) :=
  s.serve_runs _ _ _ _ _ _ _ (fun a => by
    split
    · exact a.assign_serves _ _
    · exact a.refuse_serves _)

theorem execDiscard_runs : s.Runs (execDiscard p tag payload s) :=
  s.serve_runs _ _ _ _ _ _ _ (fun a => by
    split
    · exact a.discard_serves _
    · exact a.refuse_serves _)

theorem execCall_runs : s.Runs (execCall p tag payload s) :=
  s.serve_runs _ _ _ _ _ _ _ (fun a => by
    split
    · exact a.callCar_serves _ _ _ _
    · exact a.refuse_serves _)

theorem execConfirm_runs : s.Runs (execConfirm p tag payload s) :=
  s.serve_runs _ _ _ _ _ _ _ (fun a => by
    split
    · exact a.confirm_serves _ _ _
    · exact a.refuse_serves _)

theorem execWaive_runs : s.Runs (execWaive p tag payload s) :=
  s.serve_runs _ _ _ _ _ _ _ (fun a => by
    split
    · exact a.waive_serves _ _
    · exact a.refuse_serves _)

theorem execHold_runs : s.Runs (execHold p tag payload s) :=
  s.serve_runs _ _ _ _ _ _ _ (fun a => (a.modPort_works p _ ⟨le_rfl, le_rfl⟩ rfl).serves _)

/-! ## Queries -/

/-- A query changes nothing itself. -/
theorem State.query_runs (kind : Byte) (len : Nat) (body : State → Served) (h : ∀ a, (body a).1 = a) :
    s.Runs (s.serve p kind tag payload false len body) :=
  s.serve_runs _ _ _ _ _ _ _ (fun a => by
    unfold State.Serves
    rw [h]
    exact .refl a)

theorem execQueryGate_runs : s.Runs (execQueryGate p tag payload s) :=
  s.query_runs _ _ _ _ _ _ (fun a => by split <;> rfl)

theorem execQueryUnattributed_runs : s.Runs (execQueryUnattributed p tag payload s) :=
  s.query_runs _ _ _ _ _ _ (fun _ => rfl)

theorem execQueryCar_runs : s.Runs (execQueryCar p tag payload s) :=
  s.query_runs _ _ _ _ _ _ (fun a => by
    split
    · split <;> rfl
    · rfl)

theorem execQueryRoster_runs : s.Runs (execQueryRoster p tag payload s) :=
  s.query_runs _ _ _ _ _ _ (fun a => by split <;> rfl)

theorem execQueryEntries_runs : s.Runs (execQueryEntries p tag payload s) :=
  s.query_runs _ _ _ _ _ _ (fun _ => rfl)

theorem execQueryCourse_runs : s.Runs (execQueryCourse p tag payload s) :=
  s.query_runs _ _ _ _ _ _ (fun _ => rfl)

theorem execQueryRace_runs : s.Runs (execQueryRace p tag payload s) :=
  s.query_runs _ _ _ _ _ _ (fun _ => rfl)

theorem execQueryPenalty_runs : s.Runs (execQueryPenalty p tag payload s) :=
  s.query_runs _ _ _ _ _ _ (fun a => by
    split
    · split <;> rfl
    · rfl)

theorem execQueryPenalties_runs : s.Runs (execQueryPenalties p tag payload s) :=
  s.query_runs _ _ _ _ _ _ (fun a => by split <;> rfl)

theorem execQuerySchedule_runs : s.Runs (execQuerySchedule p tag payload s) :=
  s.query_runs _ _ _ _ _ _ (fun _ => rfl)

theorem execQueryPermits_runs : s.Runs (execQueryPermits p tag payload s) :=
  s.query_runs _ _ _ _ _ _ (fun _ => rfl)

theorem execQueryStandings_runs : s.Runs (execQueryStandings p tag payload s) :=
  s.query_runs _ _ _ _ _ _ (fun a => by split <;> rfl)

theorem execQueryPort_runs : s.Runs (execQueryPort p tag payload s) :=
  s.query_runs _ _ _ _ _ _ (fun a => by split <;> rfl)

/-! ## Events of the gates and the gate bus -/

theorem execStrobeEdge_runs (g : Gate) : s.Runs (execStrobeEdge g s) :=
  State.Works.runs_ite s (.after (State.takeEdge_works _ _) (s.dropEdge_works g))

theorem execGuardReferenceLapse_runs (g : Gate) : s.Runs (execGuardReferenceLapse g s) := by
  unfold execGuardReferenceLapse
  split
  · exact State.Works.runs_ite s (s.modGate_works g _ id)
  · exact (State.Works.refl s).runs

theorem execPairingLimit_runs (g : Gate) : s.Runs (execPairingLimit g s) := by
  unfold execPairingLimit
  split
  · exact State.Works.runs_ite s (.after (State.transmit_works _) (s.releaseBlank_works g _ _ ‹_›))
  · exact (State.Works.refl s).runs

theorem execLastCaptureLapse_runs (g : Gate) : s.Runs (execLastCaptureLapse g s) := by
  unfold execLastCaptureLapse
  split
  · exact State.Works.runs_ite s (s.modGate_works g _ id)
  · exact (State.Works.refl s).runs

theorem execAttemptTimeout_runs : s.Runs (execAttemptTimeout s) := by
  unfold execAttemptTimeout
  split
  · exact State.Works.runs_ite s s.attemptFailed_works
  · exact (State.Works.refl s).runs

theorem execCommandSent_runs : s.Runs (execCommandSent s) := by
  unfold execCommandSent
  split
  · exact State.Works.runs_ite s (s.setLine_works _)
  · exact (State.Works.refl s).runs

theorem execSettleDeadline_runs (g : Gate) : s.Runs (execSettleDeadline g s) :=
  State.Works.runs_ite s (.after (State.busSettled_works _) (s.enterHead_works g _ _))

theorem execStatusPollTimer_runs (g : Gate) : s.Runs (execStatusPollTimer g s) :=
  State.Works.runs_ite s (.after (State.busSettled_works _) (.after (State.joinPeriodic_works _ _ _)
    (s.modHead_works g _)))

theorem execFaultProbeTimer_runs (g : Gate) : s.Runs (execFaultProbeTimer g s) :=
  State.Works.runs_ite s (.after (State.busSettled_works _) (.after (State.joinPeriodic_works _ _ _)
    (s.modHead_works g _)))

theorem execQuietDeadline_runs (g : Gate) (l : Lane) : s.Runs (execQuietDeadline g l s) :=
  State.Works.runs_ite s (s.modLane_works g l _)

theorem execStrayMemoryLapse_runs : s.Runs (execStrayMemoryLapse s) := by
  unfold execStrayMemoryLapse
  split
  · exact State.Works.runs_ite s (s.setStray_works _)
  · exact (State.Works.refl s).runs

theorem execUnattributedExpiry_runs (id : Nat) : s.Runs (execUnattributedExpiry id s) := by
  unfold execUnattributedExpiry
  split
  · exact State.Works.runs_ite s (.after (State.transmit_works _) (.after (State.tallyPassage_works _ _)
      (s.dropUnattr_works _ _ _)))
  · exact (State.Works.refl s).runs

/-! ## Events of the cars, the race and the penalties -/

theorem execAgingCheck_runs : s.Runs (execAgingCheck s) := State.Works.runs_ite s (s.setRoster_works _)

theorem execSilenceDeadline_runs (c : Code) : s.Runs (execSilenceDeadline c s) := by
  unfold execSilenceDeadline
  split
  · exact State.Works.runs_ite s (.after (State.transmit_works _) (s.deslot_works _))
  · exact (State.Works.refl s).runs

theorem execStepDeadline_runs : s.Runs (execStepDeadline s) := by
  unfold execStepDeadline
  split
  · exact State.Works.runs_ite s (.after (State.transmit_works _) (s.stepDone_works _))
  · exact (State.Works.refl s).runs

theorem execPracticeLimit_runs : s.Runs (execPracticeLimit s) := by
  unfold execPracticeLimit
  split
  · rename_i h
    exact (State.Works.after (State.transmit_works _) (State.closePractice_works h.1 _)).runs
  · exact (State.Works.refl s).runs

theorem execRaceLimitDeadline_runs : s.Runs (execRaceLimitDeadline s) := by
  unfold execRaceLimitDeadline
  split
  · rename_i h
    exact (State.Works.after (State.transmit_works _) (State.enterChequered_works h.1)).runs
  · exact (State.Works.refl s).runs

theorem execFinishWindow_runs : s.Runs (execFinishWindow s) :=
  State.Works.runs_ite s (.after (State.transmit_works _) (s.closeRace_works _))

theorem execElapsedLimit_runs : s.Runs (execElapsedLimit s) :=
  State.Works.runs_ite s (.after (State.transmit_works _) (s.closeRace_works _))

theorem execReviewDeadlineExpiry_runs (id : Nat) : s.Runs (execReviewDeadlineExpiry id s) := by
  unfold execReviewDeadlineExpiry
  split
  · exact State.Works.runs_ite s (.after (State.transmit_works _) (s.endReview_works _))
  · exact (State.Works.refl s).runs

theorem execStopGoEnd_runs (id : Nat) : s.Runs (execStopGoEnd id s) := by
  unfold execStopGoEnd
  split
  · exact State.Works.runs_ite s (.after (State.transmit_works _) (.after (State.finishEvent_works _ _ _ _)
      (s.restartSilence_works _)))
  · exact (State.Works.refl s).runs

/-! ## Events of the power link and the ports -/

theorem execPbPoll_runs : s.Runs (execPbPoll tag payload s) := by
  have taken := s.setPower_works { s.power with rx := s.power.rx.taken (ltFrame kindPoll tag payload) }
  unfold execPbPoll
  dsimp only
  split
  · split
    · exact (State.Works.after (State.transmit_works _) (.after (State.placePermits_works _ _)
        (.after (State.baseStatus_works _ _) (.after (State.pollTaken_works _) taken)))).runs
    · exact (State.Works.after (State.badFrame_works _) taken).runs
  · exact (State.Works.refl s).runs

theorem execPowerLinkFrameDrop_runs (bytes : List Byte) : s.Runs (execPowerLinkFrameDrop bytes s) := by
  have dropped (r : Receiver) : s.Runs (.next (State.badFrame { s with power.rx := r })) :=
    (State.Works.after (State.badFrame_works _) (s.setPower_works _)).runs
  unfold execPowerLinkFrameDrop
  dsimp only
  split
  · exact dropped _
  · exact dropped _
  · split
    · exact (State.Works.refl s).runs
    · exact dropped _
  · exact (State.Works.refl s).runs

theorem execPowerLinkGap_runs (bytes : List Byte) (at_ : Time) : s.Runs (execPowerLinkGap bytes at_ s) :=
  State.Works.runs_ite s (.after (State.badFrame_works _) (s.setPower_works _))

theorem execPermits_runs : s.Runs (execPermits s) := by
  unfold execPermits
  split
  · have ended := s.setPower_works { s.power with sending := none }
    dsimp only
    split
    · exact (State.Works.after (State.sendPermits_works _ _) ended).runs
    · exact ended.runs
  · exact (State.Works.refl s).runs

theorem execLinkSilenceDeadline_runs : s.Runs (execLinkSilenceDeadline s) :=
  State.Works.runs_ite s (.after (State.transmit_works _) s.linkLost_works)

theorem execConsoleFrameDrop_runs (bytes : List Byte) : s.Runs (execConsoleFrameDrop p bytes s) := by
  unfold execConsoleFrameDrop
  dsimp only
  split
  · exact (s.modPort_works p _ ⟨le_rfl, le_rfl⟩ rfl).runs
  · exact (s.modPort_works p _ ⟨le_rfl, le_rfl⟩ rfl).runs
  · exact (State.Works.refl s).runs

theorem execConsoleGap_runs (bytes : List Byte) (at_ : Time) : s.Runs (execConsoleGap p bytes at_ s) :=
  State.Works.runs_ite s (s.modPort_works p _ ⟨le_rfl, le_rfl⟩ rfl)

theorem execBusy_runs (kind : Byte) : s.Runs (execBusy p kind tag payload s) := by
  have taken := s.frameTaken_works p (ltFrame kind tag payload)
  have busy := (s.frameTaken p (ltFrame kind tag payload)).answerBusy_runs p tag
  unfold execBusy
  dsimp only
  split
  · exact ⟨fun t h => taken.settles.trans (busy.settles t h), fun ha hb =>
      busy.completes (s.frameTaken_busyList p .A _ ▸ ha) (s.frameTaken_busyList p .B _ ▸ hb)⟩
  · exact (State.Works.refl s).runs

theorem execUnknownKind_runs (kind : Byte) : s.Runs (execUnknownKind p kind tag payload s) := by
  unfold execUnknownKind
  split
  · exact (State.Works.refl s).runs
  · exact s.takeFrame_runs _ _ _ _ _ (fun a => a.refuse_serves _)

theorem execTransmitEnd_runs : s.Runs (execTransmitEnd p s) := by
  unfold execTransmitEnd
  split
  · exact ((s.modPort_settles p _ ⟨le_rfl, le_rfl⟩).trans (State.transmit_works _).settles).runs
  · exact (State.Works.refl s).runs

theorem execHoldDeadline_runs : s.Runs (execHoldDeadline p s) :=
  State.Works.runs_ite s (.after (State.transmit_works _) (s.modPort_works p _ ⟨le_rfl, le_rfl⟩ rfl))

end Sys2Proof.Machine
end

section
/-! PROOFS. The machine as a whole (O1 to O5, O56 to O60): every command runs, every step keeps the invariants, and the
machine right after reset meets them. -/

set_option Elab.async false

namespace Sys2Proof.Machine

open Sys2Proof

/-- Every command but TICK and HARD_RESET settles, and every one completes while neither BUSY list is full. -/
theorem exec_runs (c : Instr) (s : State) (ht : ∀ st, c ≠ .tick st) (hr : ∀ a b, c ≠ .hardReset a b) :
    s.Runs (exec c s) := by
  cases c with
  | hardReset a b => exact absurd rfl (hr a b)
  | strobeEdge g => exact execStrobeEdge_runs s g
  | guardReferenceLapse g => exact execGuardReferenceLapse_runs s g
  | pairingLimit g => exact execPairingLimit_runs s g
  | lastCaptureLapse g => exact execLastCaptureLapse_runs s g
  | attemptTimeout => exact execAttemptTimeout_runs s
  | gateBusUnmatchedFrame tag kind payload => exact (State.Works.refl s).runs
  | probe g payload => exact (s.busReply_works g _ payload _ (State.probeDone_works · g)).runs
  | setLanes g payload =>
    exact (s.busReply_works g _ payload _ (State.writeDone_works · g _ (State.joinQueue_works · g _))).runs
  | setThreshold g payload =>
    exact (s.busReply_works g _ payload _ (State.writeDone_works · g _ (State.joinQueue_works · g _))).runs
  | enable g payload =>
    exact (s.busReply_works g _ payload _ (State.writeDone_works · g _ (State.enterHead_works · g _ _))).runs
  | fetch g payload => exact (s.busReply_works g _ payload _ (State.fetchDone_works · g)).runs
  | status g payload => exact (s.busReply_works g _ payload _ (State.statusDone_works · g)).runs
  | patternOn g payload => exact (s.busReply_works g _ payload _ (State.patternOnDone_works · g)).runs
  | checkFetch g payload => exact (s.busReply_works g _ payload _ (State.checkFetchDone_works · g)).runs
  | patternOff g payload => exact (s.busReply_works g _ payload _ (State.patternOffDone_works · g)).runs
  | settleDeadline g => exact execSettleDeadline_runs s g
  | statusPollTimer g => exact execStatusPollTimer_runs s g
  | faultProbeTimer g => exact execFaultProbeTimer_runs s g
  | quietDeadline g lane => exact execQuietDeadline_runs s g lane
  | strayMemoryLapse => exact execStrayMemoryLapse_runs s
  | unattributedExpiry id => exact execUnattributedExpiry_runs s id
  | agingCheck => exact execAgingCheck_runs s
  | silenceDeadline code => exact execSilenceDeadline_runs s code
  | stepDeadline => exact execStepDeadline_runs s
  | practiceLimit => exact execPracticeLimit_runs s
  | raceLimitDeadline => exact execRaceLimitDeadline_runs s
  | finishWindow => exact execFinishWindow_runs s
  | elapsedLimit => exact execElapsedLimit_runs s
  | reviewDeadlineExpiry id => exact execReviewDeadlineExpiry_runs s id
  | stopGoEnd id => exact execStopGoEnd_runs s id
  | pbPoll tag payload => exact execPbPoll_runs s tag payload
  | powerLinkFrameDrop bytes => exact execPowerLinkFrameDrop_runs s bytes
  | powerLinkGap bytes lastAt => exact execPowerLinkGap_runs s bytes lastAt
  | permits => exact execPermits_runs s
  | linkSilenceDeadline => exact execLinkSilenceDeadline_runs s
  | consoleFrameDrop p bytes => exact execConsoleFrameDrop_runs s p bytes
  | consoleGap p bytes lastAt => exact execConsoleGap_runs s p bytes lastAt
  | busy p kind tag payload => exact execBusy_runs s p tag payload kind
  | unknownKind p kind tag payload => exact execUnknownKind_runs s p tag payload kind
  | transmitEnd p => exact execTransmitEnd_runs s p
  | holdDeadline p => exact execHoldDeadline_runs s p
  | openPractice p tag payload => exact execOpenPractice_runs s p tag payload
  | endPractice p tag payload => exact execEndPractice_runs s p tag payload
  | formGrid p tag payload => exact execFormGrid_runs s p tag payload
  | standDown p tag payload => exact execStandDown_runs s p tag payload
  | start p tag payload => exact execStart_runs s p tag payload
  | abortStart p tag payload => exact execAbortStart_runs s p tag payload
  | caution p tag payload => exact execCaution_runs s p tag payload
  | lift p tag payload => exact execLift_runs s p tag payload
  | suspend p tag payload => exact execSuspend_runs s p tag payload
  | resume p tag payload => exact execResume_runs s p tag payload
  | close p tag payload => exact execClose_runs s p tag payload
  | release p tag payload => exact execRelease_runs s p tag payload
  | softReset p tag payload => exact execSoftReset_runs s p tag payload
  | setStartProgram p tag payload => exact execSetStartProgram_runs s p tag payload
  | setRaceSettings p tag payload => exact execSetRaceSettings_runs s p tag payload
  | setPointCount p tag payload => exact execSetPointCount_runs s p tag payload
  | setCoursePoint p tag payload => exact execSetCoursePoint_runs s p tag payload
  | setSection p tag payload => exact execSetSection_runs s p tag payload
  | setGate p tag payload => exact execSetGate_runs s p tag payload
  | removeGate p tag payload => exact execRemoveGate_runs s p tag payload
  | gateCheck p tag payload => exact execGateCheck_runs s p tag payload
  | setCounters p tag payload => exact execSetCounters_runs s p tag payload
  | clearCounters p tag payload => exact execClearCounters_runs s p tag payload
  | clearStuck p tag payload => exact execClearStuck_runs s p tag payload
  | registerCar p tag payload => exact execRegisterCar_runs s p tag payload
  | removeCar p tag payload => exact execRemoveCar_runs s p tag payload
  | setLearning p tag payload => exact execSetLearning_runs s p tag payload
  | setAgeLimit p tag payload => exact execSetAgeLimit_runs s p tag payload
  | enter p tag payload => exact execEnter_runs s p tag payload
  | withdraw p tag payload => exact execWithdraw_runs s p tag payload
  | retire p tag payload => exact execRetire_runs s p tag payload
  | adjustLaps p tag payload => exact execAdjustLaps_runs s p tag payload
  | setSchedule p tag payload => exact execSetSchedule_runs s p tag payload
  | assign p tag payload => exact execAssign_runs s p tag payload
  | discard p tag payload => exact execDiscard_runs s p tag payload
  | call p tag payload => exact execCall_runs s p tag payload
  | confirm p tag payload => exact execConfirm_runs s p tag payload
  | waive p tag payload => exact execWaive_runs s p tag payload
  | hold p tag payload => exact execHold_runs s p tag payload
  | queryGate p tag payload => exact execQueryGate_runs s p tag payload
  | queryUnattributed p tag payload => exact execQueryUnattributed_runs s p tag payload
  | queryCar p tag payload => exact execQueryCar_runs s p tag payload
  | queryRoster p tag payload => exact execQueryRoster_runs s p tag payload
  | queryEntries p tag payload => exact execQueryEntries_runs s p tag payload
  | queryCourse p tag payload => exact execQueryCourse_runs s p tag payload
  | queryRace p tag payload => exact execQueryRace_runs s p tag payload
  | queryPenalty p tag payload => exact execQueryPenalty_runs s p tag payload
  | queryPenalties p tag payload => exact execQueryPenalties_runs s p tag payload
  | querySchedule p tag payload => exact execQuerySchedule_runs s p tag payload
  | queryPermits p tag payload => exact execQueryPermits_runs s p tag payload
  | queryStandings p tag payload => exact execQueryStandings_runs s p tag payload
  | queryPort p tag payload => exact execQueryPort_runs s p tag payload
  | tick strobes => exact absurd rfl (ht strobes)
  | badSumReply => exact s.attemptFailed_works.runs
  | commandSent => exact execCommandSent_runs s

/-! ## TICK and HARD_RESET -/

theorem exec_tick (strobes : BitVec 12) (s : State) :
    exec (.tick strobes) s = .next { s with
      time.session := s.time.session + 1
      time.rng := lfsrStep s.time.rng
      time.edges := strobes &&& ~~~s.time.strobePrev
      time.strobePrev := strobes } := rfl

theorem exec_hardReset (a b : Bool) (s : State) :
    exec (.hardReset a b) s =
      .next { State.reset with portA := Port.reset a, portB := Port.reset b, pending := s.pending } := rfl

/-- Shifted left by one, a word gains its new bit 0. -/
theorem shiftLeft_one_or_ofBool (v : BitVec 16) (b : Bool) :
    ((v <<< 1) ||| (BitVec.ofBool b).setWidth 16).toNat = v.toNat * 2 % 65536 + b.toNat := by
  have even : v.toNat * 2 % 65536 = (v.toNat % 32768) <<< 1 := by
    rw [Nat.shiftLeft_eq]
    omega
  have bit : b.toNat < 2 ^ 1 := b.toNat_lt
  have small : b.toNat % 2 ^ 16 = b.toNat := Nat.mod_eq_of_lt (by omega)
  rw [BitVec.toNat_or, BitVec.toNat_shiftLeft, Nat.shiftLeft_eq, BitVec.toNat_setWidth, BitVec.toNat_ofBool, small]
  simp only [Nat.pow_one, Nat.reducePow]
  rw [even, Nat.shiftLeft_add_eq_or_of_lt bit]

/-- Four bits added modulo 2 are their exclusive or. -/
theorem xor_four_toNat (a b c d : Bool) : (a ^^ b ^^ c ^^ d).toNat = (a.toNat + b.toNat + c.toNat + d.toNat) % 2 := by
  cases a <;> cases b <;> cases c <;> cases d <;> rfl

/-- The step of the random source in numbers (R16). -/
theorem lfsrStep_toNat (v : BitVec 16) : (lfsrStep v).toNat =
    v.toNat * 2 % 65536 + (v[15].toNat + v[13].toNat + v[12].toNat + v[10].toNat) % 2 := by
  rw [lfsrStep, shiftLeft_one_or_ofBool, xor_four_toNat]

/-! ## The invariants at every step -/

/-- What a step keeps. -/
structure State.KeepsAll (s t : State) : Prop where
  attributes : s.attributesRight → t.attributesRight
  notices : s.noticesRight → t.noticesRight
  sizes : s.sizesRight → t.sizesRight
  ids : s.idsRight → t.idsRight
  outputs : s.outputsRight → t.outputsRight
  caps : s.capsRight → t.capsRight

theorem State.Settles.keepsAll {s t : State} (h : s.Settles t) : s.KeepsAll t :=
  ⟨h.attributes, h.notices, h.sizes, h.ids, h.outputs, h.caps⟩

/-- Right after reset the lines are low, every row is clear and no state is suspended, whatever the straps select. -/
theorem reset_outputsRight : State.reset.outputsRight := ⟨rfl, rfl⟩

theorem reset_capsRight : State.reset.capsRight := fun d => by
  have h : State.reset.power.rows[d] = ⟨0, false, .none⟩ := by simp [State.reset, Power.reset]
  rw [h]
  exact Nat.zero_le _

theorem reset_attributesRight : State.reset.attributesRight := by
  simp [State.attributesRight, State.reset, RaceCtl.reset]

theorem reset_noticesRight : State.reset.noticesRight := by
  simp [State.noticesRight, State.reset, Journal.reset, Port.unsent, Port.reset]

theorem reset_sizesRight : State.reset.sizesRight := by
  simp [State.sizesRight, State.reset, TimeBase.reset, GateCapture.reset, Former.reset, PenaltyUnit.reset, Port.reset]

theorem reset_idsRight : State.reset.idsRight := by
  simp [State.idsRight, State.reset, Former.reset, PenaltyUnit.reset]

theorem exec_hardReset_keepsAll (a b : Bool) (s : State) :
    s.KeepsAll { State.reset with portA := Port.reset a, portB := Port.reset b, pending := s.pending } :=
  ⟨fun _ => reset_attributesRight, fun _ => reset_noticesRight, fun _ => reset_sizesRight, fun _ => reset_idsRight,
    fun _ => reset_outputsRight, fun _ => reset_capsRight⟩

theorem exec_keepsAll {c : Instr} {s t : State} (h : exec c s = .next t) : s.KeepsAll t := by
  by_cases ht : ∃ st, c = .tick st
  · obtain ⟨st, rfl⟩ := ht
    rw [exec_tick] at h
    cases h
    exact ⟨id, id, id, id, id, id⟩
  by_cases hr : ∃ a b, c = .hardReset a b
  · obtain ⟨a, b, rfl⟩ := hr
    rw [exec_hardReset] at h
    cases h
    exact exec_hardReset_keepsAll a b s
  · exact ((exec_runs c s (fun st e => ht ⟨st, e⟩) (fun a b e => hr ⟨a, b, e⟩)).settles t h).keepsAll

theorem step_idle {s : State} (h : s.pending = []) : step s = .next s := by
  unfold step
  rw [h]

theorem step_front {s : State} {c : Instr} {rest : List Instr} (h : s.pending = c :: rest) :
    step s = exec c { s with pending := rest } := by
  unfold step
  rw [h]

/-- Every step keeps all the invariants: no invariant speaks of the queue. -/
theorem step_keepsAll {s t : State} (h : step s = .next t) : s.KeepsAll t := by
  cases hp : s.pending with
  | nil =>
    rw [step_idle hp] at h
    cases h
    exact ⟨id, id, id, id, id, id⟩
  | cons c rest =>
    rw [step_front hp] at h
    obtain ⟨k1, k2, k3, k4, k5, k6⟩ := exec_keepsAll h
    exact ⟨k1, k2, k3, k4, k5, k6⟩

end Sys2Proof.Machine

open Sys2Proof Sys2Proof.Machine

/-- Settles O56, by `step_keepsAll`. -/
theorem outputsKept : Obligations.OutputsKept := fun _ _ hs h => (step_keepsAll h).outputs hs

/-- Settles O57, by `step_keepsAll`. -/
theorem capsKept : Obligations.CapsKept := fun _ _ hs h => (step_keepsAll h).caps hs

/-- Settles O58, by `step_keepsAll`. -/
theorem attributesKept : Obligations.AttributesKept := fun _ _ hs h => (step_keepsAll h).attributes hs

/-- Settles O59, by `step_keepsAll`. -/
theorem listsKept : Obligations.ListsKept := fun _ _ hn hs hi h =>
  ⟨(step_keepsAll h).notices hn, (step_keepsAll h).sizes hs, (step_keepsAll h).ids hi⟩

/-- Settles O2: every command but HARD_RESET settles, and HARD_RESET keeps the queue by its definition. -/
theorem queueDiscipline : Obligations.QueueDiscipline := by
  refine ⟨fun s h => step_idle h, fun c s t h => ?_⟩
  by_cases ht : ∃ st, c = .tick st
  · obtain ⟨st, rfl⟩ := ht
    rw [exec_tick] at h
    cases h
    rfl
  by_cases hr : ∃ a b, c = .hardReset a b
  · obtain ⟨a, b, rfl⟩ := hr
    rw [exec_hardReset] at h
    cases h
    rfl
  · exact ((exec_runs c s (fun st e => ht ⟨st, e⟩) (fun a b e => hr ⟨a, b, e⟩)).settles t h).pending

/-- Settles O3: the one stop of the model is the 51st TAG of a BUSY list. -/
theorem everyCommandCompletes : Obligations.EveryCommandCompletes := by
  intro c s ha hb
  by_cases ht : ∃ st, c = .tick st
  · obtain ⟨st, rfl⟩ := ht
    exact ⟨_, exec_tick st s⟩
  by_cases hr : ∃ a b, c = .hardReset a b
  · obtain ⟨a, b, rfl⟩ := hr
    exact ⟨_, exec_hardReset a b s⟩
  · exact (exec_runs c s (fun st e => ht ⟨st, e⟩) (fun a b e => hr ⟨a, b, e⟩)).completes ha hb

/-- Settles O5: TICK by its definition and `lfsrStep_toNat`, the other commands by `exec_runs`. -/
theorem tickSteps : Obligations.TickSteps := by
  refine ⟨fun strobes s => ⟨_, exec_tick strobes s, ?_, lfsrStep_toNat _, fun g => ?_, rfl, rfl⟩,
    fun c s t h ht hr => ?_⟩
  · simp [BitVec.toNat_add]
  · simp
  · have settled := (exec_runs c s ht hr).settles t h
    exact ⟨settled.session, settled.rng⟩

/-- Settles O60. -/
theorem invariantsAtReset : Obligations.InvariantsAtReset :=
  ⟨reset_outputsRight, reset_capsRight, reset_attributesRight, reset_noticesRight, reset_sizesRight, reset_idsRight⟩

/-- Settles O1. -/
theorem stepRunsFront : Obligations.StepRunsFront := fun _ _ _ h => step_front h

/-- Settles O4: the reset state read off block by block. -/
theorem hardReset : Obligations.HardReset := by
  intro a b s
  have gate (g : Gate) : State.reset.time.gates[g] = GateCapture.reset := by simp [State.reset, TimeBase.reset]
  have strobe (g : Gate) : State.reset.time.strobePrev.getLsbD g.val = true := by revert g; decide
  have head (g : Gate) : State.reset.bus.heads[g] = Head.reset := by simp [State.reset, GateBus.reset]
  have lane (l : Lane) : Head.reset.lanes[l] = ⟨0, false, none⟩ := by simp [Head.reset]
  have slot (i : Slot) : State.reset.roster.slots[i] = none := by simp [State.reset, Roster.reset]
  have row (d : DriveIx) : State.reset.power.rows[d] = ⟨0, false, .none⟩ := by simp [State.reset, Power.reset]
  exact ⟨_, exec_hardReset a b s, rfl,
    -- time base and captures
    rfl, rfl, rfl, rfl, rfl, rfl, rfl, rfl, fun g => ⟨gate g, strobe g⟩,
    -- gate bus
    fun g => by
      dsimp only
      rw [head g]
      exact ⟨rfl, rfl, rfl, rfl, rfl, rfl, rfl, rfl, rfl, rfl, rfl, rfl, rfl, lane⟩,
    rfl, rfl, rfl, rfl, rfl,
    -- passage former, roster, course
    rfl, slot, rfl, rfl, rfl, rfl, rfl, rfl, rfl,
    -- race state controller, penalty unit
    rfl, rfl, rfl, rfl, rfl, rfl, rfl, rfl, rfl, rfl, rfl, rfl, rfl,
    -- permit table and power link
    row, rfl, rfl, rfl, rfl, rfl, rfl, rfl, rfl, rfl, rfl, rfl, rfl, rfl,
    -- standings, journal
    rfl, rfl, rfl, rfl, rfl, rfl,
    -- console ports
    rfl, rfl, fun p => by cases p <;> exact ⟨rfl, rfl, rfl, rfl, rfl, rfl, rfl, rfl, rfl⟩⟩
end

section
/-! PROOFS. How a request that is taken, and an event, show in the statements: the state a request works on is the state
before it with other ports, and so is what is left of its work once the reply is placed. -/

set_option Elab.async false

namespace Sys2Proof.Machine

open Sys2Proof

/-- The same state with these two console ports. -/
abbrev State.withPorts (s : State) (a b : Port) : State := { s with portA := a, portB := b }

theorem State.onlyPorts.withPorts {s t : State} (h : s.onlyPorts t) : ∃ a b, t = s.withPorts a b := ⟨_, _, h⟩

/-- The ports of a state are engaged when its work keeps them so. -/
theorem State.Moves.stillEngaged {s t : State} (h : s.Moves t) {p : PortId} (e : (s.port p).engaged = true) :
    (t.port p).engaged = true := (h.engaged p).trans e

/-- A request of this answer and this work, taken on a port that may send it. The work begins on the state with other
ports, and nothing but the ports changes after it (R185 to R190). -/
theorem State.serve_done {s : State} {p : PortId} {kind tag : Byte} {payload : List Byte} {onlyA : Bool} {len : Nat}
    {body : State → Served} {f : State → State} {st : ReplyStatus} {data : List Byte} (h : s.takes p kind tag payload)
    (hp : onlyA = true → p = .A) (hl : payload.length = len)
    (hb : ∀ a b, body (s.withPorts a b) = (f (s.withPorts a b), some ⟨st, data⟩))
    (hf : ∀ a b, (s.withPorts a b).Moves (f (s.withPorts a b))) :
    ∃ a b c d, s.serve p kind tag payload onlyA len body = .next ((f (s.withPorts a b)).withPorts c d) ∧
      ((f (s.withPorts a b)).withPorts c d).answered p kind tag st data := by
  obtain ⟨a, b, hab⟩ := (s.taken_onlyPorts p (ltFrame kind tag payload)).withPorts
  have engaged := (hf a b).stillEngaged (p := p) (by rw [← hab]; exact State.engage_engaged _ _)
  obtain ⟨t, ht, ha, ho⟩ := State.serve_answered h hp hl (body := body) (by rw [hab]; exact hb a b) engaged
  obtain ⟨c, d, rfl⟩ := ho.withPorts
  exact ⟨a, b, c, d, ht, ha⟩

/-- What holds of the work's state with any ports holds after the request. -/
theorem State.serve_does {s : State} {p : PortId} {kind tag : Byte} {payload : List Byte} {onlyA : Bool} {len : Nat}
    {body : State → Served} {st : ReplyStatus} {data : List Byte} {Q : State → Prop} (f : State → State)
    (h : s.takes p kind tag payload) (hp : onlyA = true → p = .A) (hl : payload.length = len)
    (hb : ∀ a b, body (s.withPorts a b) = (f (s.withPorts a b), some ⟨st, data⟩))
    (hf : ∀ a b, (s.withPorts a b).Moves (f (s.withPorts a b)))
    (hq : ∀ a b c d, Q ((f (s.withPorts a b)).withPorts c d)) :
    ∃ t, s.serve p kind tag payload onlyA len body = .next t ∧ t.answered p kind tag st data ∧ Q t := by
  obtain ⟨a, b, c, d, ht, ha⟩ := State.serve_done h hp hl hb hf
  exact ⟨_, ht, ha, hq a b c d⟩

/-- A request that answers and changes nothing itself. -/
theorem State.serve_unchanged {s : State} {p : PortId} {kind tag : Byte} {payload : List Byte} {onlyA : Bool}
    {len : Nat} {body : State → Served} {st : ReplyStatus} {data : List Byte} (h : s.takes p kind tag payload)
    (hp : onlyA = true → p = .A) (hl : payload.length = len)
    (hb : ∀ a b, body (s.withPorts a b) = (s.withPorts a b, some ⟨st, data⟩)) :
    ∃ t, s.serve p kind tag payload onlyA len body = .next t ∧ t.answered p kind tag st data ∧ s.onlyPorts t := by
  obtain ⟨a, b, c, d, ht, ha⟩ := State.serve_done (f := id) h hp hl hb (fun a b => .refl _)
  exact ⟨_, ht, ha, rfl⟩

/-- The transmitters choose: the state after an event with other ports. -/
theorem State.transmit_withPorts (s : State) : ∃ a b, s.transmit = s.withPorts a b := s.transmit_onlyPorts.withPorts

/-- What holds of a state with any ports holds once the transmitters have chosen. -/
theorem State.transmit_does {s : State} {o : Host.Outcome State Fault Refusal} {Q : State → Prop}
    (ho : o = .next s.transmit) (hq : ∀ c d, Q (s.withPorts c d)) : ∃ t, o = .next t ∧ Q t :=
  ⟨_, ho, hq _ _⟩

/-- Two states are the same when their blocks are. -/
theorem State.ext_blocks {s t : State} (time : s.time = t.time := by simp) (bus : s.bus = t.bus := by simp)
    (former : s.former = t.former := by simp) (roster : s.roster = t.roster := by simp)
    (course : s.course = t.course := by simp) (race : s.race = t.race := by simp) (pen : s.pen = t.pen := by simp)
    (power : s.power = t.power := by simp) (stand : s.stand = t.stand := by simp)
    (portA : s.portA = t.portA := by simp) (portB : s.portB = t.portB := by simp)
    (journal : s.journal = t.journal := by simp) (pending : s.pending = t.pending := by simp) : s = t := by
  cases s
  cases t
  simp_all

/-! ## A change of race state (R111) -/

/-- A change announced: the notice carries the state left, the state entered, its attributes and the reason. -/
theorem State.announce_journal (s : State) (l : RaceState) (r : StateReason) : (s.announce l r).journal =
    s.journal.added s.raceMs
      (.state l s.race.state s.race.held (if s.race.state = .suspended then s.race.saved else none) r) := rfl

@[simp] theorem State.announce_lampPattern (s : State) (l : RaceState) (r : StateReason) :
    (s.announce l r).lampPattern = s.lampPattern := rfl

@[simp] theorem State.mapCars_lampPattern (s : State) (f : Car → Car) : (s.mapCars f).lampPattern = s.lampPattern := rfl

/-- Of the controller, a state shown has its own lamps (R135). -/
theorem State.showState_race_lamps (s : State) : s.showState.race = { s.race with lamps := s.lampPattern } := by
  have lamps : s.recomputeAll.setTrackEnable.lampPattern = s.lampPattern := by simp [State.lampPattern]
  simp [State.showState, lamps]

/-- Of the power link, a state shown has its own rows, epoch and track-enable line. -/
theorem State.showState_powerKept {s x : State} (h : x.power = s.power) (c d : Port) :
    s.powerKept (x.showState.withPorts c d) := by
  have kept : x.recomputeAll.power = { x.power with
      rows := x.recomputeAll.power.rows, epoch := x.recomputeAll.power.epoch } := by
    simp only [State.recomputeAll, State.putRows_rows]
    exact x.putRows_power _
  simp only [State.powerKept, State.showState, State.setLamps_power, State.setTrackEnable_power]
  rw [kept, h]

/-- Rows, line and lamps are right of a state shown, whatever its ports. -/
theorem State.showState_shown_withPorts (x : State) (c d : Port) : (x.showState.withPorts c d).shown :=
  x.showState_shown

/-- Every slot of a mapped roster holds the changed record. -/
theorem State.mapCars_slot (s : State) (f : Car → Car) (i : Slot) :
    (s.mapCars f).roster.slots[i] = s.roster.slots[i].map f :=
  mapVec_getElem _ _ i.val i.isLt

/-- A state whose roster is a mapped one. -/
theorem State.carsMapped_of {s t x : State} {f : Car → Car} (h : t.roster = (x.mapCars f).roster)
    (hx : x.roster = s.roster) : s.carsMapped t f := by
  refine ⟨fun i => ?_, ?_⟩
  · rw [h, State.mapCars_slot, hx]
  · rw [h, State.mapCars_roster, hx]

end Sys2Proof.Machine
end

section
/-! PROOFS. The practice session (O28). -/

set_option Elab.async false

namespace Sys2Proof.Machine

open Sys2Proof

/-! ## OPEN_PRACTICE (R113) -/

theorem State.openPractice_race (s : State) : s.openPractice.race = { s.race with
    state := .practice, practiceLimit := some 3600000000, reason := .request, lamps := 0x20 } := by
  rw [State.openPractice, State.showState_race_lamps]
  simp [State.initCars, State.lampPattern, longLimitTicks]

theorem State.openPractice_time (s : State) : s.openPractice.time = { s.time with
    green := s.time.session, nClosed := 0, s0 := 0, latched := none } := by
  simp [State.openPractice]

/-- The green origin is now, and so the race clock stands at 0 when the change is announced. -/
theorem State.openPractice_journal {s : State} (h : s.race.state = .idle) : s.openPractice.journal =
    s.journal.added 0 (.state .idle .practice s.race.held none .request) := by
  simp [State.openPractice, State.announce_journal, State.raceMs, State.raceClock, State.neutral, h]

/-! ## The end of practice (R114) -/

theorem State.closePractice_race (s : State) (r : StateReason) : (s.closePractice r).race = { s.race with
    state := .idle, practiceLimit := none, reason := r, lamps := 0 } := by
  rw [State.closePractice, State.showState_race_lamps]
  simp [State.lampPattern]

theorem State.closePractice_time (s : State) (r : StateReason) : (s.closePractice r).time = { s.time with
    green := 0, nClosed := 0, s0 := 0, latched := none } := by
  simp [State.closePractice]

theorem State.closePractice_journal {s : State} (h : s.race.state = .practice) (r : StateReason) :
    (s.closePractice r).journal = s.journal.added 0 (.state .practice .idle s.race.held none r) := by
  simp [State.closePractice, State.announce_journal, State.raceMs, State.raceClock, h]

/-- Practice has ended, whatever the ports before and after. -/
theorem State.closePractice_ended {s : State} (h : s.race.state = .practice) (r : StateReason) (a b c d : Port) :
    s.practiceEnded (((s.withPorts a b).closePractice r).withPorts c d) r := by
  refine ⟨State.closePractice_race _ r, State.closePractice_time _ r, ?_, State.showState_shown_withPorts _ c d,
    State.showState_powerKept (by simp) c d, State.closePractice_journal (s := s.withPorts a b) h r, ?_⟩
  · exact State.carsMapped_of (State.showState_roster _) (by simp)
  · exact State.ext_blocks (bus := by simp [State.closePractice]) (former := by simp [State.closePractice])
      (course := by simp [State.closePractice]) (pen := by simp [State.closePractice])
      (stand := by simp [State.closePractice]) (pending := by simp [State.closePractice])

end Sys2Proof.Machine

open Sys2Proof Sys2Proof.Machine

/-- Settles O28: the two changes by their equations, each a request or a deadline. -/
theorem practiceSession : Obligations.PracticeSession := by
  refine ⟨fun s tag h hs => ?_, fun s tag h hs => ?_, fun s d hs hd hle => ?_⟩
  · refine State.serve_does State.openPractice h (fun _ => rfl) rfl (fun _ _ => if_pos hs)
      (fun a b => (State.openPractice_works (s := s.withPorts a b) hs).toMoves) (fun a b c d => ?_)
    refine ⟨State.openPractice_race _, State.openPractice_time _, ?_, State.showState_shown_withPorts _ c d,
      State.showState_powerKept (by simp) c d, State.openPractice_journal (s := s.withPorts a b) hs, ?_⟩
    · exact State.carsMapped_of (State.showState_roster _) (by simp)
    · exact State.ext_blocks (bus := by simp [State.openPractice]) (former := by simp [State.openPractice])
        (course := by simp [State.openPractice]) (pen := by simp [State.openPractice])
        (stand := by simp [State.openPractice]) (pending := by simp [State.openPractice])
  · exact State.serve_does (State.closePractice · .request) h (fun _ => rfl) rfl (fun _ _ => if_pos hs)
      (fun a b => (State.closePractice_works (s := s.withPorts a b) hs _).toMoves)
      (State.closePractice_ended hs .request)
  · have due : s.raceDue s.race.practiceLimit = true := by simp [State.raceDue, hd, hs, RaceState.clockRuns, hle]
    exact State.transmit_does (congrArg Host.Outcome.next (if_pos ⟨hs, due⟩))
      (State.closePractice_ended hs .limit s.portA s.portB)
end

section
/-! PROOFS. Grid, start program and countdown (O29, O30). -/

set_option Elab.async false

namespace Sys2Proof.Machine

open Sys2Proof

/-! ## Cars mapped -/

/-- The cars of a mapped roster are the changed cars, in slot order. -/
theorem State.mapCars_cars (s : State) (f : Car → Car) : (s.mapCars f).cars = s.cars.map f := by
  simp only [State.cars, State.mapCars_roster, mapVec, Vector.toList_mk, List.map_filterMap, List.filterMap_map]
  rfl

theorem mem_sortBy {α : Type} (lt : α → α → Bool) (l : List α) (a : α) : a ∈ sortBy lt l ↔ a ∈ l :=
  (sortBy_perm lt l).mem_iff

/-! ## A step begins (R118, R119) -/

/-- The timer of a step begun now. -/
def State.stepTimer (s : State) (i : Fin 16) : StepTimer :=
  ⟨i, ⟨s.time.session, s.race.program.steps[i].units s.time.rng * 1000⟩⟩

/-- In GRID a step sets its timer and its lamps. -/
theorem State.beginStep_race_grid {s : State} (h : s.race.state = .grid) (i : Fin 16) :
    (s.beginStep i).race = { s.race with
      step := some (s.stepTimer i), lamps := s.race.program.steps[i].pattern.setWidth 8 } := by
  simp [State.beginStep, State.setLamps, State.lampPattern, State.stepTimer, State.timer, centiTicks, h]

/-- In COUNTDOWN a step with JUMP_WATCH turns the watch on if it is off. -/
theorem State.beginStep_race_countdown {s : State} (h : s.race.state = .countdown) (i : Fin 16) :
    (s.beginStep i).race = { s.race with
      step := some (s.stepTimer i)
      jumpWatch := s.race.jumpWatch || s.race.program.steps[i].jumpWatch
      watchStart := if s.race.jumpWatch = false ∧ s.race.program.steps[i].jumpWatch = true then some s.time.session
        else s.race.watchStart
      lamps := s.race.program.steps[i].pattern.setWidth 8 } := by
  cases hj : s.race.jumpWatch <;> cases hw : s.race.program.steps[i].jumpWatch <;>
    simp_all [State.beginStep, State.setLamps, State.lampPattern, State.stepTimer, State.timer, centiTicks]

/-- The lamps of the step playing are what GRID and COUNTDOWN show. -/
theorem State.beginStep_lampPattern {s : State} (h : s.race.state = .grid ∨ s.race.state = .countdown) (i : Fin 16) :
    (s.beginStep i).lampPattern = s.race.program.steps[i].pattern.setWidth 8 := by
  rcases h with h | h
  · simp [State.lampPattern, State.beginStep_race_grid h, State.stepTimer, h]
  · simp [State.lampPattern, State.beginStep_race_countdown h, State.stepTimer, h]

/-! ## FORM_GRID, STAND_DOWN, START (R115, R116, R119) -/

theorem State.mapCars_mapCars (s : State) (f g : Car → Car) : (s.mapCars f).mapCars g = s.mapCars (g ∘ f) := by
  simp [State.mapCars, mapVec, Function.comp_def]

theorem State.gridReady_of {s : State} (he : ∃ x ∈ s.cars, x.entered = true) (h2 : 2 ≤ s.course.points.length)
    (h12 : s.course.points.length ≤ 12)
    (hp : ∀ q ∈ s.course.points, ∃ g, q.gate = some g ∧ s.bus.heads[g].state = .ready) : s.gridReady = true := by
  have entered : s.cars.any Car.entered = true := List.any_eq_true.mpr he
  have valid : s.validMap = true := by
    simp only [State.validMap, State.pointCount, h2, h12, Bool.and_eq_true, List.all_eq_true]
    refine ⟨by simp, fun q hq => ?_⟩
    obtain ⟨g, hg, -⟩ := hp q hq
    simp [hg]
  have heads : s.headsReady = true := by
    refine List.all_eq_true.mpr (fun q hq => ?_)
    obtain ⟨g, hg, hr⟩ := hp q hq
    simp only [hg, hr, decide_true]
  simp only [State.gridReady, entered, valid, heads, Bool.and_self]

theorem State.formGrid_race {s : State} : s.formGrid.race = { s.race with
    state := .grid, reason := .request, step := some (s.stepTimer s.race.program.g0)
    lamps := s.race.program.steps[s.race.program.g0].pattern.setWidth 8 } := by
  rw [State.formGrid, State.showState_race_lamps, State.beginStep_lampPattern (.inl (by
    simp [State.formStandings, State.initCars])), State.beginStep_race_grid (by
    simp [State.formStandings, State.initCars])]
  simp [State.formStandings, State.initCars, State.stepTimer]

/-- A record at FORM_GRID: an entered car stands on the grid, every other is idle, and the reference lap is kept. -/
def Car.onGrid (x : Car) : Car :=
  { x with race := {
    RacePart.initial with refTicks := x.race.refTicks, state := if x.entered then .grid else .idle } }

theorem State.formGrid_roster (s : State) : s.formGrid.roster = (s.mapCars Car.onGrid).roster := by
  have hf : (gridCar ∘ fun x => { x with race := { RacePart.initial with refTicks := x.race.refTicks } })
      = Car.onGrid := by
    funext x
    simp only [Function.comp, gridCar, Car.onGrid]
    split <;> simp_all [RacePart.initial]
  simp only [State.formGrid, State.showState_roster, State.beginStep_roster, State.formStandings,
    State.clearPenalties_roster, State.initCars, State.mapCars_mapCars, if_true, hf]
  simp

theorem State.cars_congr {s t : State} (h : s.roster = t.roster) : s.cars = t.cars := by
  rw [State.cars, State.cars, h]

theorem State.mem_entries (s : State) (x : Car) : x ∈ s.entries ↔ x ∈ s.cars ∧ x.entered = true := by
  rw [State.entries, mem_sortBy, List.mem_filter]

/-- The standings as formed: a zero key for every entered car (R176). -/
theorem State.formGrid_stand (s : State) :
    s.formGrid.stand = ⟨sortBy StandEntry.ahead (s.formGrid.entries.map Car.standKey), true, false, 0⟩ := by
  have h : (s.formGrid).entries = State.entries (((State.announce { s with race.state := .grid } s.race.state
      .request).initCars true).mapCars gridCar).clearPenalties := by
    rw [State.entries, State.entries, State.cars_congr]
    simp only [State.formGrid, State.showState_roster, State.beginStep_roster, State.formStandings]
  rw [h]
  simp only [State.formGrid, State.showState_stand, State.beginStep_stand, State.formStandings]

theorem State.mem_formGrid_entries (s : State) (x : Car) :
    x ∈ s.formGrid.entries ↔ ∃ y ∈ s.cars, y.entered = true ∧ x = y.onGrid := by
  rw [State.mem_entries, State.cars_congr s.formGrid_roster, State.mapCars_cars, List.mem_map]
  constructor
  · rintro ⟨⟨y, hy, rfl⟩, he⟩
    exact ⟨y, hy, he, rfl⟩
  · rintro ⟨y, hy, he, rfl⟩
    exact ⟨⟨y, hy, rfl⟩, he⟩

/-- The codes of the standings formed are those of the entered cars. -/
theorem State.formGrid_stand_code (s : State) (c : Code) :
    (∃ e ∈ s.formGrid.stand.list, e.code = c) ↔ ∃ x ∈ s.cars, x.entered = true ∧ x.code = c := by
  simp only [State.formGrid_stand, mem_sortBy, List.mem_map, State.mem_formGrid_entries]
  constructor
  · rintro ⟨e, ⟨x, ⟨y, hy, he, rfl⟩, rfl⟩, hc⟩
    exact ⟨y, hy, he, hc⟩
  · rintro ⟨y, hy, he, hc⟩
    exact ⟨_, ⟨_, ⟨y, hy, he, rfl⟩, rfl⟩, hc⟩

/-- Every key of the standings formed is zero: no lap is counted. -/
theorem State.formGrid_stand_zero (s : State) : ∀ e ∈ s.formGrid.stand.list, e.laps = 0 ∧ e.time = 0 := by
  simp only [State.formGrid_stand, mem_sortBy, List.mem_map, State.mem_formGrid_entries]
  rintro e ⟨x, ⟨y, -, -, rfl⟩, rfl⟩
  exact ⟨rfl, rfl⟩

theorem State.formGrid_journal (s : State) : s.formGrid.journal =
    s.journal.added 0 (.state s.race.state .grid s.race.held none .request) := by
  simp [State.formGrid, State.formStandings, State.initCars, State.announce_journal, State.raceMs, State.raceClock]

theorem State.standDown_race (s : State) : s.standDown.race = { s.race with
    state := .idle, step := none, reason := .request, lamps := 0 } := by
  rw [State.standDown, State.showState_race_lamps]
  simp [State.lampPattern]

theorem State.startRace_race {s : State} : s.startRace.race = { s.race with
    state := .countdown, reason := .request, step := some (s.stepTimer s.race.program.c0)
    jumpWatch := s.race.program.steps[s.race.program.c0].jumpWatch
    watchStart := if s.race.program.steps[s.race.program.c0].jumpWatch then some s.time.session else none
    lamps := s.race.program.steps[s.race.program.c0].pattern.setWidth 8 } := by
  rw [State.startRace, State.showState_race_lamps, State.beginStep_lampPattern (.inr (by simp)),
    State.beginStep_race_countdown (by simp)]
  simp [State.stepTimer]

theorem State.standDown_time (s : State) : s.standDown.time = { s.time with
    green := 0, nClosed := 0, s0 := 0, latched := none } := by
  simp [State.standDown]

theorem State.standDown_journal (s : State) : s.standDown.journal =
    s.journal.added 0 (.state s.race.state .idle s.race.held none .request) := by
  simp [State.standDown, State.announce_journal, State.raceMs, State.raceClock]

theorem State.startRace_journal (s : State) : s.startRace.journal =
    s.journal.added 0 (.state s.race.state .countdown s.race.held none .request) := by
  simp [State.startRace, State.announce_journal, State.raceMs, State.raceClock]

/-! ## The return to GRID (R122) -/

theorem State.abortToGrid_race (s : State) (r : StateReason) : (s.abortToGrid r).race = { s.race with
    state := .grid, jumpWatch := false, watchStart := none, reason := r
    step := some (s.stepTimer s.race.program.g0)
    lamps := s.race.program.steps[s.race.program.g0].pattern.setWidth 8 } := by
  rw [State.abortToGrid, State.showState_race_lamps, State.beginStep_lampPattern (.inl (by simp)),
    State.beginStep_race_grid (by simp)]
  simp [State.stepTimer]

theorem State.abortToGrid_journal (s : State) (r : StateReason) : (s.abortToGrid r).journal =
    s.journal.added 0 (.state s.race.state .grid s.race.held none r) := by
  simp [State.abortToGrid, State.announce_journal, State.raceMs, State.raceClock]

/-- A countdown has been aborted, whatever the ports before and after. -/
theorem State.abortToGrid_aborted {s : State} (h : s.race.state = .countdown) (r : StateReason) (a b c d : Port) :
    s.abortedWith (((s.withPorts a b).abortToGrid r).withPorts c d) r := by
  have race := State.abortToGrid_race (s.withPorts a b) r
  refine ⟨?_, ?_, State.showState_shown_withPorts _ c d, ?_, ?_⟩
  · simp [race]
  · simp [race, State.stepTimer]
  · simp [State.abortToGrid_journal, h]
  · exact State.ext_blocks (time := by simp [State.abortToGrid]) (bus := by simp [State.abortToGrid])
      (former := by simp [State.abortToGrid]) (roster := by simp [State.abortToGrid])
      (course := by simp [State.abortToGrid]) (pen := by simp [State.abortToGrid])
      (stand := by simp [State.abortToGrid]) (pending := by simp [State.abortToGrid])

/-! ## The step deadline (R118 to R120) -/

theorem Timer.due_of_reached {s : State} {w : Timer} (h : s.reached w) : w.due s.time.session = true := decide_eq_true h

theorem exec_stepDeadline_due {s : State} {w : StepTimer} (hw : s.race.step = some w) (hd : s.reached w.deadline) :
    exec .stepDeadline s = .next (s.stepDone w.index).transmit := by
  simp [exec, execStepDeadline, hw, Timer.due_of_reached hd]

/-- A step begun touches the controller alone. -/
theorem State.beginStep_frame (s : State) (i : Fin 16) (c d : Port) : (s.beginStep i).withPorts c d =
    { s with race := (s.beginStep i).race, portA := c, portB := d } :=
  State.ext_blocks

/-! ## The green moment (R106, R120, R128) -/

theorem State.greenMoment_race (s : State) : s.greenMoment.race = { s.race with
    state := .green, jumpWatch := false, step := none, reason := .countdownEnd, lamps := 0x20
    raceLimit := some (if s.course.settings.mode = .time then s.course.settings.limit * 100000 else 3600000000) } := by
  rw [State.greenMoment, State.showState_race_lamps]
  cases hm : s.course.settings.mode <;>
    simp [State.raceLimitTicks, State.lampPattern, secondTicks, longLimitTicks, hm]

theorem State.greenMoment_time (s : State) : s.greenMoment.time = { s.time with
    green := s.time.session, nClosed := 0, s0 := 0, latched := none } := by
  simp [State.greenMoment]

theorem State.greenMoment_journal (s : State) : s.greenMoment.journal =
    s.journal.added 0 (.state s.race.state .green s.race.held none .countdownEnd) := by
  simp [State.greenMoment, State.announce_journal, State.raceMs, State.raceClock, State.neutral]

/-- A record at the green moment (R106): an entered car runs, and its lap opens where the line opens it. -/
def Car.started (t : Settings) (l : LapStart) (x : Car) : Car :=
  if x.entered then
    { x with race := { x.race with
      state := .running
      silence := some (t.silenceLimit * 10000)
      lapState := if t.gridPosition = .atLine ∨ x.race.crossedEarly = true then .openTimed else x.race.lapState
      lapStart := if t.gridPosition = .atLine ∨ x.race.crossedEarly = true then some l else x.race.lapStart } }
  else x

theorem State.greenCar_eq (s : State) : s.greenCar = Car.started s.course.settings s.lineLap := by
  funext x
  simp only [State.greenCar, Car.started, State.silenceTicks, tenthTicks]
  split
  · split <;> simp_all
  · rfl

theorem State.greenMoment_roster (s : State) : s.greenMoment.roster = (s.mapCars (Car.started s.course.settings
    ⟨s.time.session, 0, ⟨.green, false, s.time.cautionEpoch, s.time.suspensionEpoch⟩⟩)).roster := by
  simp [State.greenMoment, State.greenCar_eq, State.lineLap]

end Sys2Proof.Machine

open Sys2Proof Sys2Proof.Machine

/-- Settles O29. -/
theorem gridAndCountdown : Obligations.GridAndCountdown := by
  refine ⟨fun s tag h hs he h2 h12 hp => ?_, fun s tag h hs => ?_, fun s tag h hs hl hn => ?_,
    fun s tag h hs hn => ?_, fun s tag h hs => ?_⟩
  · have ready (a b : Port) : (s.withPorts a b).gridReady = true := State.gridReady_of he h2 h12 hp
    refine State.serve_does State.formGrid h (fun _ => rfl) rfl (fun a b => (if_pos hs).trans (if_pos (ready a b)))
      (fun a b => (State.formGrid_works (s := s.withPorts a b) hs).toMoves) (fun a b c d => ?_)
    refine ⟨State.formGrid_race, State.carsMapped_of (State.formGrid_roster _) rfl, ?_, ?_, ?_, ?_,
      State.formGrid_stand_code _, State.formGrid_stand_zero _, State.showState_shown_withPorts _ c d,
      State.showState_powerKept (by simp [State.formStandings, State.initCars]) c d, ?_, ?_⟩
    · simp [State.formGrid, State.formStandings, State.initCars]
    · simp [State.formGrid_stand]
    · simp [State.formGrid_stand]
    · simp [State.formGrid_stand]
    · simp [State.formGrid_journal, hs]
    · exact State.ext_blocks (time := by simp [State.formGrid, State.formStandings, State.initCars])
        (bus := by simp [State.formGrid, State.formStandings, State.initCars])
        (former := by simp [State.formGrid, State.formStandings, State.initCars])
        (course := by simp [State.formGrid, State.formStandings, State.initCars])
        (pending := by simp [State.formGrid, State.formStandings, State.initCars])
  · refine State.serve_does State.standDown h (fun _ => rfl) rfl (fun _ _ => if_pos hs)
      (fun a b => (State.standDown_works (s := s.withPorts a b) hs).toMoves) (fun a b c d => ?_)
    refine ⟨State.standDown_race _, State.standDown_time _, State.carsMapped_of (x := s) ?_ rfl, ?_,
      State.showState_shown_withPorts _ c d, State.showState_powerKept (by simp) c d, ?_, ?_⟩
    · simp [State.standDown]
    · simp [State.standDown]
    · simp [State.standDown_journal, hs]
    · exact State.ext_blocks (bus := by simp [State.standDown]) (former := by simp [State.standDown])
        (course := by simp [State.standDown]) (stand := by simp [State.standDown])
        (pending := by simp [State.standDown])
  · have ready (a b : Port) : (s.withPorts a b).powerReady = true := by simp [State.powerReady, hl, hn]
    refine State.serve_does State.startRace h (fun _ => rfl) rfl (fun a b => (if_pos hs).trans (if_pos (ready a b)))
      (fun a b => (State.startRace_works (s := s.withPorts a b) hs).toMoves) (fun a b c d => ?_)
    refine ⟨State.startRace_race, State.carsMapped_of (x := s) (f := startCar) ?_ rfl,
      State.showState_shown_withPorts _ c d, State.showState_powerKept (by simp) c d, ?_, ?_⟩
    · simp [State.startRace]
    · simp [State.startRace_journal, hs]
    · exact State.ext_blocks (time := by simp [State.startRace]) (bus := by simp [State.startRace])
        (former := by simp [State.startRace]) (course := by simp [State.startRace]) (pen := by simp [State.startRace])
        (stand := by simp [State.startRace]) (pending := by simp [State.startRace])
  · have unready (a b : Port) : ¬ (s.withPorts a b).powerReady = true := by
      simp only [State.powerReady, Bool.and_eq_true, decide_eq_true_eq]
      rcases hn with hn | hn <;> simp [hn]
    exact State.serve_unchanged h (fun _ => rfl) rfl (fun a b => (if_pos hs).trans (if_neg (unready a b)))
  · exact State.serve_does (State.abortToGrid · .request) h (fun _ => rfl) rfl (fun _ _ => if_pos hs)
      (fun a b => (State.abortToGrid_works (s := s.withPorts a b) hs _).toMoves)
      (State.abortToGrid_aborted hs .request)

/-- Settles O30. -/
theorem startSteps : Obligations.StartSteps := by
  refine ⟨fun s w i hs hw hd hi => ?_, fun s w i hs hw hd hc hi => ?_, fun s w hs hw hd hc => ?_⟩
  · have next : s.stepDone w.index = s.beginStep i := by simp only [State.stepDone, hs, hi, nextStep]
    refine State.transmit_does (next ▸ exec_stepDeadline_due hw hd) (fun c d => ⟨?_, s.beginStep_frame i c d⟩)
    exact s.beginStep_race_grid hs i
  · have next : s.stepDone w.index = s.beginStep i := by simp only [State.stepDone, hs, hi, nextStep, if_neg hc]
    refine State.transmit_does (next ▸ exec_stepDeadline_due hw hd) (fun c d => ⟨?_, s.beginStep_frame i c d⟩)
    exact s.beginStep_race_countdown hs i
  · have green : s.stepDone w.index = s.greenMoment := by simp only [State.stepDone, hs, if_pos hc]
    refine State.transmit_does (green ▸ exec_stepDeadline_due hw hd) (fun c d => ?_)
    refine ⟨State.greenMoment_race _, State.greenMoment_time _, State.carsMapped_of (State.greenMoment_roster s) rfl,
      State.showState_shown_withPorts _ c d, State.showState_powerKept (by simp) c d, ?_, ?_⟩
    · simp [State.greenMoment_journal, hs]
    · exact State.ext_blocks (bus := by simp [State.greenMoment]) (former := by simp [State.greenMoment])
        (course := by simp [State.greenMoment]) (pen := by simp [State.greenMoment])
        (stand := by simp [State.greenMoment]) (pending := by simp [State.greenMoment])
end

section
/-! PROOFS. The records of cars: what a lookup finds after a change, and what the penalty unit leaves of the machine. -/

set_option Elab.async false

namespace Sys2Proof.Machine

open Sys2Proof

/-! ## Lookup (R60) -/

/-- Rosters with the same codes in their slots find the same slots. -/
theorem Roster.find_congr {r q : Roster} (h : ∀ i, r.codeAt i = q.codeAt i) (c : Code) : r.find c = q.find c := by
  simp only [Roster.find, h]

/-- The slot found holds the code. -/
theorem Roster.codeAt_of_find {r : Roster} {c : Code} {i : Slot} (h : r.find c = some i) : r.codeAt i = some c := by
  unfold Roster.find at h
  split at h
  · cases h
    assumption
  · simpa using List.find?_some h

theorem State.car_congr {s t : State} (h : s.roster = t.roster) (c : Code) : s.car c = t.car c := by
  simp only [State.car, h]

theorem State.numberOf_congr {s t : State} (h : s.roster = t.roster) (c : Code) : s.numberOf c = t.numberOf c := by
  rw [State.numberOf, State.numberOf, State.car_congr h]

/-- A car looked up carries the code. -/
theorem State.car_code {s : State} {c : Code} {x : Car} (h : s.car c = some x) : x.code = c := by
  simp only [State.car, Option.bind_eq_some_iff] at h
  obtain ⟨i, hi, hx⟩ := h
  simpa [Roster.codeAt, hx] using Roster.codeAt_of_find hi

theorem State.find_of_car {s : State} {c : Code} {x : Car} (h : s.car c = some x) :
    ∃ i, s.roster.find c = some i ∧ s.roster.slots[i] = some x := by
  simpa only [State.car, Option.bind_eq_some_iff] using h

/-- A car looked up is one of the roster's. -/
theorem State.mem_cars_of_car {s : State} {c : Code} {x : Car} (h : s.car c = some x) : x ∈ s.cars := by
  obtain ⟨i, -, hx⟩ := State.find_of_car h
  simp only [State.cars, List.mem_filterMap, id]
  exact ⟨_, Vector.mem_toList_iff.mpr (Vector.getElem_mem i.isLt), hx⟩

/-! ## One record changed -/

section
variable {f : Car → Car} (hf : ∀ x, (f x).code = x.code)
include hf

theorem State.modCar_codeAt (s : State) (c : Code) (i : Slot) :
    (s.modCar c f).roster.codeAt i = s.roster.codeAt i := by
  unfold State.modCar
  split
  · rename_i j _
    by_cases hij : i = j
    · subst hij
      cases hx : s.roster.slots[i] <;> simp_all [Roster.codeAt]
    · have hv : j.val ≠ i.val := fun e => hij (Fin.ext e.symm)
      simp [Roster.codeAt, hv]
  · rfl

theorem State.modCar_find (s : State) (c d : Code) : (s.modCar c f).roster.find d = s.roster.find d :=
  Roster.find_congr (s.modCar_codeAt hf c) d

theorem State.modCar_car_self (s : State) (c : Code) : (s.modCar c f).car c = (s.car c).map f := by
  rw [State.car, State.modCar_find hf]
  unfold State.car State.modCar
  cases h : s.roster.find c <;> simp

theorem State.modCar_car_other (s : State) {c d : Code} (h : d ≠ c) : (s.modCar c f).car d = s.car d := by
  rw [State.car, State.modCar_find hf, State.car]
  cases hd : s.roster.find d with
  | none => rfl
  | some i =>
    unfold State.modCar
    split
    · rename_i j hj
      have hv : j.val ≠ i.val := fun e => h (by
        have := (Roster.codeAt_of_find hd).symm.trans ((Fin.ext e : j = i) ▸ Roster.codeAt_of_find hj)
        exact Option.some.inj this)
      simp [hv]
    · rfl

/-- The record of one code changed, every other code's stands. -/
theorem State.modCar_carSet {s : State} {c : Code} {x : Car} (h : s.car c = some x) :
    s.carSet (s.modCar c f) c (f x) :=
  ⟨by rw [State.modCar_car_self hf, h]; rfl, fun _ hd => State.modCar_car_other hf s hd⟩

/-- A lookup in a mapped roster finds the changed record. -/
theorem State.mapCars_car (s : State) (c : Code) : (s.mapCars f).car c = (s.car c).map f := by
  have codes (i : Slot) : (s.mapCars f).roster.codeAt i = s.roster.codeAt i := by
    rw [Roster.codeAt, State.mapCars_slot, Roster.codeAt]
    cases s.roster.slots[i] <;> simp [hf]
  rw [State.car, Roster.find_congr codes, State.car]
  cases s.roster.find c with
  | none => rfl
  | some i => exact s.mapCars_slot f i

end

theorem State.modRace_car_self (s : State) (c : Code) (f : RacePart → RacePart) :
    (s.modRace c f).car c = (s.car c).map (fun x => { x with race := f x.race }) :=
  State.modCar_car_self (f := fun x => { x with race := f x.race }) (fun _ => rfl) s c

theorem State.modRace_car_other (s : State) {c d : Code} (f : RacePart → RacePart) (h : d ≠ c) :
    (s.modRace c f).car d = s.car d := 
  State.modCar_car_other (f := fun x => { x with race := f x.race }) (fun _ => rfl) s h

/-- A change of the race part of a car, seen from every slot. -/
theorem State.modCar_mapCars (s : State) (c : Code) (f g : Car → Car) (h : ∀ x, g (f x) = g x) :
    ((s.modCar c f).mapCars g).roster = (s.mapCars g).roster := by
  unfold State.modCar
  split
  · rename_i i _
    simp only [State.mapCars_roster, Roster.mk.injEq, and_self, and_true]
    refine Vector.ext (fun k hk => ?_)
    rw [mapVec_getElem, mapVec_getElem]
    by_cases hik : i.val = k
    · subst hik
      simp [Function.comp_def, h]
    · simp [hik]
  · rfl

/-! ## What the penalty unit leaves alone -/

/-- A car but for what it is charged. -/
def Car.uncharged (x : Car) : Car := { x with race := { x.race with timePenalty := 0, deductions := 0 } }

/-- The penalty unit and the standings at work: of the machine, the totals a car is charged, the penalty records, the
standings, rows and epoch, the journal and the ports may change. -/
structure State.Charges (s t : State) : Prop where
  time : t.time = s.time
  bus : t.bus = s.bus
  former : t.former = s.former
  course : t.course = s.course
  race : t.race = s.race
  pending : t.pending = s.pending
  schedule : t.pen.schedule = s.pen.schedule
  cars : (t.mapCars Car.uncharged).roster = (s.mapCars Car.uncharged).roster
  power : s.powerKept t
  formed : t.stand.formed = s.stand.formed
  fixed : t.stand.fixed = s.stand.fixed

variable {s t u : State}

theorem State.Charges.refl (s : State) : s.Charges s := ⟨rfl, rfl, rfl, rfl, rfl, rfl, rfl, rfl, rfl, rfl, rfl⟩

theorem State.Charges.trans (h : s.Charges t) (k : t.Charges u) : s.Charges u where
  time := k.time.trans h.time
  bus := k.bus.trans h.bus
  former := k.former.trans h.former
  course := k.course.trans h.course
  race := k.race.trans h.race
  pending := k.pending.trans h.pending
  schedule := k.schedule.trans h.schedule
  cars := k.cars.trans h.cars
  power := by
    have hk := k.power
    have hh := h.power
    simp only [State.powerKept] at hk hh ⊢
    rw [hk, hh]
  formed := k.formed.trans h.formed
  fixed := k.fixed.trans h.fixed

theorem State.Charges.after (k : t.Charges u) (h : s.Charges t) : s.Charges u := h.trans k

theorem State.Charges.foldl {β : Type} {f : State → β → State} (h : ∀ a b, State.Charges a (f a b)) (l : List β)
    (s : State) : s.Charges (l.foldl f s) := by
  induction l generalizing s with
  | nil => exact .refl s
  | cons b l ih => exact (h s b).trans (ih (f s b))

theorem State.Charges.ite {p : Prop} [Decidable p] (h : s.Charges t) (k : s.Charges u) :
    s.Charges (if p then t else u) := by
  split
  · exact h
  · exact k

/-- The cars of the two states differ in what they are charged, slot by slot. -/
theorem State.Charges.cars_map (h : s.Charges t) : t.cars.map Car.uncharged = s.cars.map Car.uncharged := by
  rw [← State.mapCars_cars, ← State.mapCars_cars, State.cars_congr h.cars]

theorem State.Charges.car_map (h : s.Charges t) (c : Code) :
    (t.car c).map Car.uncharged = (s.car c).map Car.uncharged := by
  have hf (x : Car) : x.uncharged.code = x.code := rfl
  rw [← State.mapCars_car hf, ← State.mapCars_car hf, State.car_congr h.cars]

/-- A car is still there, and differs in what it is charged. -/
theorem State.Charges.car_some (h : s.Charges t) {c : Code} {x : Car} (hx : s.car c = some x) :
    ∃ y, t.car c = some y ∧ y.uncharged = x.uncharged := by
  have := h.car_map c
  rw [hx] at this
  simpa using this

/-- A change of what a car is charged. -/
theorem State.modRace_charges (s : State) (c : Code) (f : RacePart → RacePart)
    (hf : ∀ r, { f r with timePenalty := 0, deductions := 0 } = { r with timePenalty := 0, deductions := 0 }) :
    s.Charges (s.modRace c f) where
  time := by simp
  bus := by simp
  former := by simp
  course := by simp
  race := by simp
  pending := by simp
  schedule := by simp
  cars := State.modCar_mapCars s c _ _ (fun x => by
    simp only [Car.uncharged]
    rw [hf])
  power := by simp [State.powerKept]
  formed := by simp
  fixed := by simp

theorem State.addTime_charges (s : State) (c : Code) (n : Nat) : s.Charges (s.addTime c n) :=
  s.modRace_charges c _ (fun _ => rfl)

theorem State.subTime_charges (s : State) (c : Code) (n : Nat) : s.Charges (s.subTime c n) :=
  s.modRace_charges c _ (fun _ => rfl)

theorem State.addDeduct_charges (s : State) (c : Code) (n : Nat) : s.Charges (s.addDeduct c n) :=
  s.modRace_charges c _ (fun _ => rfl)

theorem State.subDeduct_charges (s : State) (c : Code) (n : Nat) : s.Charges (s.subDeduct c n) :=
  s.modRace_charges c _ (fun _ => rfl)

theorem State.append_charges (s : State) (n : Notice) : s.Charges (s.append n) :=
  ⟨rfl, rfl, rfl, rfl, rfl, rfl, rfl, rfl, rfl, rfl, rfl⟩

theorem State.putPenalty_charges (s : State) (r : Penalty) : s.Charges (s.putPenalty r) :=
  ⟨rfl, rfl, rfl, rfl, rfl, rfl, rfl, rfl, rfl, rfl, rfl⟩

theorem State.putRows_charges (s : State) (rows : Vector PermitRow 32) : s.Charges (s.putRows rows) where
  time := by simp
  bus := by simp
  former := by simp
  course := by simp
  race := by simp
  pending := by simp
  schedule := by simp
  cars := by simp
  power := by
    simp only [State.powerKept, State.putRows_rows]
    rw [s.putRows_power rows]
  formed := by simp
  fixed := by simp

theorem State.recomputeCar_charges (s : State) (c : Code) : s.Charges (s.recomputeCar c) := by
  unfold State.recomputeCar State.recomputeDrive
  repeat' split
  · exact s.putRows_charges _
  all_goals exact .refl s

theorem State.noticeLeader_charges (s : State) (b : Option StandEntry) (k : LeaderCause) :
    s.Charges (s.noticeLeader b k) := by
  unfold State.noticeLeader
  repeat' split
  · exact .refl s
  · exact s.append_charges _
  · exact .refl s

theorem State.resort_charges (s : State) (k : LeaderCause) : s.Charges (s.resort k) := by
  unfold State.resort
  split
  · exact .after (State.noticeLeader_charges _ _ _) ⟨rfl, rfl, rfl, rfl, rfl, rfl, rfl, rfl, rfl, rfl, rfl⟩
  · exact .refl s

theorem State.handOn_charges (s : State) (k : PenaltyCause) (c : Code) (b : Bool) : s.Charges (s.handOn k c b) :=
  .ite (.after (State.resort_charges _ _) (s.recomputeCar_charges c)) (s.recomputeCar_charges c)

theorem State.finishEvent_charges (s : State) (k : PenaltyCause) (r : Penalty) (b : Bool) :
    s.Charges (s.finishEvent k r b) :=
  .after (State.handOn_charges _ _ _ _) (.after (State.append_charges _ _) (s.putPenalty_charges r))

theorem State.modCar_paid_charges (s : State) (r : Penalty) (c : Code) : s.Charges (s.modCar c (s.paid r)) where
  time := by simp
  bus := by simp
  former := by simp
  course := by simp
  race := by simp
  pending := by simp
  schedule := by simp
  cars := State.modCar_mapCars s c _ _ (fun _ => rfl)
  power := by simp [State.powerKept]
  formed := by simp
  fixed := by simp

theorem State.confirmRecord_charges (s : State) (d : Decider) (r : Penalty) : s.Charges (s.confirmRecord d r).1 := by
  rw [State.confirmRecord_state]
  exact s.modCar_paid_charges r _

theorem State.decideByMode_charges (s : State) (r : Penalty) : s.Charges (s.decideByMode r).1 := by
  unfold State.decideByMode
  split
  · exact .refl s
  · exact s.confirmRecord_charges _ _

theorem State.reviewStep_charges (s : State) (w : Nat) (r : Penalty) : s.Charges (s.reviewStep w r).1 := by
  rcases s.reviewStep_state w r with h | ⟨d, h⟩
  · rw [h]; exact .refl s
  · rw [h]; exact s.confirmRecord_charges d r

theorem State.makeRoom_charges {s t : State} (h : s.makeRoom = some t) : s.Charges t := by
  unfold State.makeRoom at h
  split at h
  · cases h; exact .refl s
  · split at h
    · cases h
      exact ⟨rfl, rfl, rfl, rfl, rfl, rfl, rfl, rfl, rfl, rfl, rfl⟩
    · cases h

theorem State.joinRecord_charges (s : State) (r : Penalty) (b : Bool) : s.Charges (s.joinRecord r b) :=
  .after (State.handOn_charges _ _ _ _) (.after (State.append_charges _ _)
    ⟨rfl, rfl, rfl, rfl, rfl, rfl, rfl, rfl, rfl, rfl, rfl⟩)

theorem State.raiseCall_charges (s : State) (k : Fin 6) (c : Code) (q : Nat) (l : Option Lane) :
    s.Charges (s.raiseCall k c q l) := by
  cases ha : s.makeRoom with
  | none =>
    simp only [State.raiseCall, ha]
    exact (s.append_charges (.listFull (kindOfRow k) c (s.numberOf c) q l)).trans
      ⟨rfl, rfl, rfl, rfl, rfl, rfl, rfl, rfl, rfl, rfl, rfl⟩
  | some a =>
    rw [State.raiseCall_of_room ha k c q l rfl]
    exact .after (State.joinRecord_charges _ _ _) (.after (State.reviewStep_charges _ _ _)
      (State.makeRoom_charges ha))

theorem State.raiseAll_charges (s : State) (l : List (Fin 6)) (x : Passage) : s.Charges (s.raiseAll l x) :=
  .foldl (fun a k => a.raiseCall_charges k _ _ _) l s

theorem State.serveProgress_charges (s : State) (c : Code) : s.Charges (s.serveProgress c) := by
  unfold State.serveProgress
  split
  · split
    · exact s.finishEvent_charges _ _ _
    · exact .ite (s.finishEvent_charges _ _ _) (s.putPenalty_charges _)
    · exact .refl s
  · exact .refl s

theorem State.serveBegin_charges (s : State) (c : Code) : s.Charges (s.serveBegin c) := by
  unfold State.serveBegin
  split
  · split
    · split
      exacts [s.finishEvent_charges _ _ _, s.finishEvent_charges _ _ _, .refl s]
    · exact .refl s
  · exact .refl s

theorem State.serveCount_charges (s : State) (c : Code) : s.Charges (s.serveCount c) := by
  unfold State.serveCount
  split
  · exact .ite (.ite (.after (State.finishEvent_charges _ _ _ _) (s.addTime_charges _ _)) (s.putPenalty_charges _))
      (.refl s)
  · exact .refl s

theorem State.serveTriggers_charges (s : State) (c : Code) : s.Charges (s.serveTriggers c) :=
  .after (State.serveCount_charges _ _) (.after (State.serveBegin_charges _ _) (s.serveProgress_charges c))

theorem State.settleQueued_charges {k : PenaltyCause} {r : Penalty} {v : State × Bool}
    (h : s.settleQueued k r = some v) : s.Charges v.1 := by
  unfold State.settleQueued at h
  split at h
  · split at h
    · cases h
      exact .after (State.append_charges _ _) (.after (State.putPenalty_charges _ _) (s.addTime_charges _ _))
    · cases h
      exact .after (State.append_charges _ _) (s.putPenalty_charges _)
  · cases h

theorem State.settleAtClose_charges {r : Penalty} {v : State × Bool} (h : s.settleAtClose r = some v) :
    s.Charges v.1 := by
  unfold State.settleAtClose at h
  split at h
  · cases h
    exact .after (State.append_charges _ _) (.after (State.putPenalty_charges _ _) (s.decideByMode_charges r))
  · exact State.settleQueued_charges h
  · cases h
    exact .after (State.append_charges _ _) (s.putPenalty_charges _)
  · cases h

theorem State.handOnClose_charges (s : State) (l : List (Code × Bool)) (c : Code) : s.Charges (s.handOnClose l c) :=
  .ite (s.handOn_charges _ _ _) (.refl s)

theorem State.settleRecords_charges (s : State) (cars : List Code) (touched : List (Code × Bool)) (l : List Penalty) :
    s.Charges (s.settleRecords cars touched l) := by
  induction l generalizing s cars touched with
  | nil => exact .refl s
  | cons r l ih =>
    unfold State.settleRecords
    cases h : s.settleAtClose r with
    | none => exact .after (ih _ _ _) (.foldl (fun a c => a.handOnClose_charges _ c) _ s)
    | some v =>
      exact .after (ih _ _ _) (.after (.foldl (fun a c => a.handOnClose_charges _ c) _ _)
        (State.settleAtClose_charges h))

theorem State.settleClose_charges (s : State) : s.Charges s.settleClose := s.settleRecords_charges _ _ _

/-- A fold that carries a flag along. -/
theorem State.Charges.foldl_fst {β : Type} {f : State × Bool → β → State × Bool}
    (h : ∀ a b, State.Charges a.1 (f a b).1) (l : List β) (a : State × Bool) : a.1.Charges (l.foldl f a).1 := by
  induction l generalizing a with
  | nil => exact .refl _
  | cons b l ih => exact (h a b).trans (ih (f a b))

theorem State.settleCar_charges (s : State) (c : Code) (k : PenaltyCause) : s.Charges (s.settleCar c k) := by
  unfold State.settleCar
  dsimp only
  split
  · exact .refl s
  · refine .after (State.handOn_charges _ _ _ _) (State.Charges.foldl_fst (fun a r => ?_) _ (s, false))
    cases h : a.1.settleQueued k r with
    | some v => exact (State.settleQueued_charges h : a.1.Charges v.1)
    | none => exact .refl a.1

end Sys2Proof.Machine
end

section
/-! PROOFS. Caution, lift, suspension and resumption (O31, O32). -/

set_option Elab.async false

namespace Sys2Proof.Machine

open Sys2Proof

/-! ## Caution (R123, R124, R126) -/

theorem State.enterCaution_race (s : State) (r : StateReason) : (s.enterCaution r).race = { s.race with
    state := .caution, reason := r, lamps := 0x40 } := by
  rw [State.enterCaution, State.showState_race_lamps]
  simp [State.lampPattern]

theorem State.enterCaution_time (s : State) (r : StateReason) : (s.enterCaution r).time = { s.time with
    cautionEpoch := s.time.cautionEpoch + 1 } := by
  simp [State.enterCaution]

theorem State.enterCaution_journal {s : State} (h : s.race.state = .green) (r : StateReason) :
    (s.enterCaution r).journal = s.journal.added s.raceMs (.state .green .caution s.race.held none r) := by
  simp [State.enterCaution, State.announce_journal, State.raceMs, State.raceClock, State.neutral, h]

theorem State.liftCaution_race (s : State) : s.liftCaution.race = { s.race with
    state := .green, reason := .request, lamps := 0x20 } := by
  rw [State.liftCaution, State.showState_race_lamps]
  simp [State.lampPattern]

theorem State.liftCaution_time (s : State) : s.liftCaution.time = s.time := by simp [State.liftCaution]

theorem State.liftCaution_journal {s : State} (h : s.race.state = .caution) :
    s.liftCaution.journal = s.journal.added s.raceMs (.state .caution .green s.race.held none .request) := by
  simp [State.liftCaution, State.announce_journal, State.raceMs, State.raceClock, State.neutral, h]

theorem State.setHeld_race {s : State} (h : s.race.state = .chequered) (b : Bool) : (s.setHeld b).race = { s.race with
    held := b, reason := .request, lamps := if b then 0x60 else 0x20 } := by
  rw [State.setHeld, State.showState_race_lamps]
  cases b <;> simp [State.lampPattern, h]

theorem State.setHeld_time (s : State) (b : Bool) : (s.setHeld b).time = s.time := by simp [State.setHeld]

theorem State.setHeld_journal {s : State} (h : s.race.state = .chequered) (b : Bool) :
    (s.setHeld b).journal = s.journal.added s.raceMs (.state .chequered .chequered b none .request) := by
  simp [State.setHeld, State.announce_journal, State.raceMs, State.raceClock, State.neutral, h]

theorem State.setSaved_race {s : State} (h : s.race.state = .suspended) (v : SavedState) :
    (s.setSaved v).race = { s.race with saved := some v, reason := .request, lamps := 0x80 } := by
  rw [State.setSaved, State.showState_race_lamps]
  simp [State.lampPattern, h]

theorem State.setSaved_time (s : State) (v : SavedState) : (s.setSaved v).time = s.time := by simp [State.setSaved]

theorem State.setSaved_journal {s : State} (h : s.race.state = .suspended) (v : SavedState) :
    (s.setSaved v).journal =
      s.journal.added s.raceMs (.state .suspended .suspended s.race.held (some v) .request) := by
  simp [State.setSaved, State.announce_journal, State.raceMs, State.raceClock, State.neutral, h]

/-- The race clock does not read the caution epoch. -/
@[simp] theorem State.growCaution_raceMs (s : State) : s.growCaution.raceMs = s.raceMs := rfl

/-- CAUTION taken in SUSPENDED (R126). -/
theorem State.cautionSaved_of {s : State} {v w : SavedState} (hv : s.race.saved = some v)
    (h : (v, w) ∈ [(SavedState.green, SavedState.caution), (.chequered false, .chequered true)]) :
    s.cautionSaved = s.growCaution.setSaved w := by
  simp only [List.mem_cons, Prod.mk.injEq, List.not_mem_nil, or_false] at h
  rcases h with ⟨rfl, rfl⟩ | ⟨rfl, rfl⟩ <;> simp [State.cautionSaved, hv]

/-- LIFT taken in SUSPENDED (R126). -/
theorem State.liftSaved_of {s : State} {v w : SavedState} (hv : s.race.saved = some v)
    (h : (v, w) ∈ [(SavedState.caution, SavedState.green), (.chequered true, .chequered false)]) :
    s.liftSaved = s.setSaved w := by
  simp only [List.mem_cons, Prod.mk.injEq, List.not_mem_nil, or_false] at h
  rcases h with ⟨rfl, rfl⟩ | ⟨rfl, rfl⟩ <;> simp [State.liftSaved, hv]

/-! ## Suspension (R125) -/

theorem State.suspendRace_race (s : State) (r : StateReason) : (s.suspendRace r).race = { s.race with
    state := .suspended, held := false, saved := some s.returnState, reason := r, lamps := 0x80 } := by
  rw [State.suspendRace, State.showState_race_lamps]
  simp [State.lampPattern]

theorem State.suspendRace_time (s : State) (r : StateReason) : (s.suspendRace r).time = { s.time with
    s0 := s.time.session, suspensionEpoch := s.time.suspensionEpoch + 1 } := by
  simp [State.suspendRace]

/-- The suspension starts now, and so the race clock stands where it was. -/
theorem State.suspendRace_journal {s : State} (h : s.race.state = .green ∨ s.race.state = .caution ∨
    s.race.state = .chequered) (r : StateReason) : (s.suspendRace r).journal =
    s.journal.added s.raceMs (.state s.race.state .suspended false (some s.returnState) r) := by
  rcases h with h | h | h <;>
    simp [State.suspendRace, State.announce_journal, State.raceMs, State.raceClock, State.neutral, State.returnState, h]

/-- A race has been suspended, whatever the ports before and after. -/
theorem State.suspendRace_suspended {s : State} (h : s.race.state = .green ∨ s.race.state = .caution ∨
    s.race.state = .chequered) (r : StateReason) (a b c d : Port) :
    s.suspendedWith (((s.withPorts a b).suspendRace r).withPorts c d) r s.returnState :=
  ⟨State.suspendRace_race _ r, State.suspendRace_time _ r, State.showState_shown_withPorts _ c d,
    State.suspendRace_journal (s := s.withPorts a b) h r, State.ext_blocks⟩

theorem State.suspendRace_powerKept (s : State) (r : StateReason) (a b c d : Port) :
    s.powerKept (((s.withPorts a b).suspendRace r).withPorts c d) :=
  State.showState_powerKept (by simp) c d

/-! ## Resumption (R127) -/

/-- A pending shadow map is applied, and none is pending then (R85). -/
theorem State.applyShadow_course (s : State) : s.applyShadow.course = { s.course with
    sectors := s.course.shadow.getD s.course.sectors, shadow := none } := by
  unfold State.applyShadow
  split <;> rename_i h
  · simp [h]
  · rw [h, Option.getD_none, ← h]

/-- Notices appended one after the other: the sequence number grows by their count, and nothing else changes. -/
theorem State.foldl_append_frame {α : Type} (f : α → Notice) (l : List α) (s : State) :
    (l.foldl (fun a r => a.append (f r)) s).journal.next = s.journal.next + BitVec.ofNat 16 l.length ∧
      l.foldl (fun a r => a.append (f r)) s =
        { s with
          journal := (l.foldl (fun a r => a.append (f r)) s).journal
          portA := (l.foldl (fun a r => a.append (f r)) s).portA
          portB := (l.foldl (fun a r => a.append (f r)) s).portB } := by
  induction l generalizing s with
  | nil => simp
  | cons r l ih =>
    obtain ⟨next, frame⟩ := ih (s.append (f r))
    rw [List.foldl_cons]
    refine ⟨?_, frame⟩
    rw [next, List.length_cons]
    simp only [State.append, State.appendAt]
    bv_omega

theorem State.resumeUnattributed_journal_next (s : State) :
    s.resumeUnattributed.journal.next = s.journal.next + BitVec.ofNat 16 s.former.list.length :=
  (State.foldl_append_frame _ s.former.list s).1

/-- The list is emptied, and each of its records counted (R56). -/
theorem State.resumeUnattributed_former (s : State) : s.resumeUnattributed.former = { s.former with
    list := []
    tallies := { s.former.tallies with
      resumed := s.former.tallies.resumed + BitVec.ofNat 32 s.former.list.length } } := by
  simp only [State.resumeUnattributed]
  rw [(State.foldl_append_frame _ s.former.list s).2]

@[simp] theorem State.resumeUnattributed_race (s : State) : s.resumeUnattributed.race = s.race := by
  simp only [State.resumeUnattributed]
  rw [(State.foldl_append_frame _ s.former.list s).2]

/-- The notices and the list aside, the state stands. -/
theorem State.resumeUnattributed_frame (s : State) : s.resumeUnattributed =
    { s with
      former := s.resumeUnattributed.former, journal := s.resumeUnattributed.journal
      portA := s.resumeUnattributed.portA, portB := s.resumeUnattributed.portB } := by
  simp only [State.resumeUnattributed]
  rw [(State.foldl_append_frame _ s.former.list s).2]

/-- A car still runs: the race is not done. -/
theorem State.raceDone_of_running {s : State} (h : ∃ x ∈ s.cars, x.entered = true ∧ x.race.state ≠ .finished ∧
    x.race.state ≠ .retired) : s.raceDone = false := by
  obtain ⟨x, hx, he, hf, hr⟩ := h
  exact List.all_eq_false.mpr ⟨x, hx, by simp [he, hf, hr]⟩

/-- With a car still running the test of R130 closes nothing. -/
theorem State.doneTest_of_running {s : State} (h : ∃ x ∈ s.cars, x.entered = true ∧ x.race.state ≠ .finished ∧
    x.race.state ≠ .retired) : s.doneTest = s := by
  simp [State.doneTest, State.raceDone_of_running h]

/-- The race as it is live again, before it is shown (R127). -/
def State.revived (s : State) (live : RaceState) (held : Bool) : State :=
  let s1 : State := { s.endSuspension with race.state := live, race.held := held, race.saved := none }
  ((s1.announce .suspended .request).applyShadow).resumeUnattributed

/-- A resumption into a race with a car still running. -/
theorem State.resumeRace_of {s : State} {v : SavedState} (hs : s.race.state = .suspended)
    (hv : s.race.saved = some v) (hr : ∃ x ∈ s.cars, x.entered = true ∧ x.race.state ≠ .finished ∧
      x.race.state ≠ .retired) : s.resumeRace = (s.revived v.live.1 v.live.2).showState := by
  have h : s.resumeRace = (s.revived v.live.1 v.live.2).showState.doneTest := by
    simp [State.resumeRace, State.revived, hs, hv]
  have cars : (s.revived v.live.1 v.live.2).showState.cars = s.cars := State.cars_congr (by
    rw [State.revived, State.showState_roster, State.resumeUnattributed_frame]
    simp)
  rw [h, State.doneTest_of_running (by rwa [cars])]

/-- What the resumption does to the blocks, the announcement aside (R4, R56, R85, R127). -/
theorem State.revived_frame (s : State) (live : RaceState) (held : Bool) : s.revived live held = { s with
    time := { s.time with nClosed := s.time.nClosed + (s.time.session - s.time.s0) }
    course := { s.course with sectors := s.course.shadow.getD s.course.sectors, shadow := none }
    former := { s.former with
      list := []
      tallies := { s.former.tallies with
        resumed := s.former.tallies.resumed + BitVec.ofNat 32 s.former.list.length } }
    race := { s.race with state := live, held := held, saved := none, reason := .request }
    journal := (s.revived live held).journal
    portA := (s.revived live held).portA
    portB := (s.revived live held).portB } := by
  rw [State.revived, State.resumeUnattributed_frame, State.resumeUnattributed_former]
  refine State.ext_blocks (course := ?_)
  simp [State.applyShadow_course]

@[simp] theorem State.revived_bus (s : State) (live : RaceState) (held : Bool) :
    (s.revived live held).bus = s.bus := by rw [State.revived_frame]
@[simp] theorem State.revived_roster (s : State) (live : RaceState) (held : Bool) :
    (s.revived live held).roster = s.roster := by rw [State.revived_frame]
@[simp] theorem State.revived_pen (s : State) (live : RaceState) (held : Bool) :
    (s.revived live held).pen = s.pen := by rw [State.revived_frame]
@[simp] theorem State.revived_stand (s : State) (live : RaceState) (held : Bool) :
    (s.revived live held).stand = s.stand := by rw [State.revived_frame]
@[simp] theorem State.revived_pending (s : State) (live : RaceState) (held : Bool) :
    (s.revived live held).pending = s.pending := by rw [State.revived_frame]

theorem State.revived_journal_next (s : State) (live : RaceState) (held : Bool) :
    (s.revived live held).journal.next = s.journal.next + 1 + BitVec.ofNat 16 s.former.list.length := by
  rw [State.revived, State.resumeUnattributed_journal_next]
  simp [State.announce_journal, Journal.added]

theorem State.revived_race (s : State) (live : RaceState) (held : Bool) : (s.revived live held).race = { s.race with
    state := live, held := held, saved := none, reason := .request } := by
  simp [State.revived]

end Sys2Proof.Machine

open Sys2Proof Sys2Proof.Machine

/-- Settles O31, by race state. -/
theorem cautionAndLift : Obligations.CautionAndLift := by
  refine ⟨fun p s tag h hs => ?_, fun p s tag h hs hh => ?_, fun p s tag h hs => ?_, fun p s tag v w h hs hv hw => ?_,
    fun p s tag h hs => ?_, fun p s tag h hs hh => ?_, fun p s tag h hs hh => ?_, fun p s tag v w h hs hv hw => ?_,
    fun p s tag h hs hv => ?_, fun p s tag h hs hv => ?_, fun p s tag h hs => ?_, fun p s tag h hs => ?_⟩
  · refine State.serve_does (State.enterCaution · .request) h (by simp) rfl (fun _ _ => by simp [State.caution, hs, ok])
      (fun a b => (State.enterCaution_works (s := s.withPorts a b) hs _).toMoves) (fun a b c d => ?_)
    exact ⟨State.enterCaution_race _ _, State.enterCaution_time _ _, State.showState_shown_withPorts _ c d,
      State.showState_powerKept (by simp) c d, State.enterCaution_journal (s := s.withPorts a b) hs _,
      State.ext_blocks⟩
  · refine State.serve_does (fun s => s.growCaution.setHeld true) h (by simp) rfl
      (fun _ _ => by simp [State.caution, hs, hh, ok])
      (fun a b => ((State.growCaution_works _).trans (State.setHeld_works (by simpa using hs) _)).toMoves)
      (fun a b c d => ?_)
    exact ⟨State.setHeld_race (s := (s.withPorts a b).growCaution) hs true, by simp [State.setHeld_time],
      State.showState_shown_withPorts _ c d, State.showState_powerKept (by simp) c d,
      State.setHeld_journal (s := (s.withPorts a b).growCaution) hs true,
      State.ext_blocks (bus := by simp [State.setHeld]) (former := by simp [State.setHeld])
        (roster := by simp [State.setHeld]) (course := by simp [State.setHeld]) (pen := by simp [State.setHeld])
        (stand := by simp [State.setHeld]) (pending := by simp [State.setHeld])⟩
  · refine State.serve_unchanged h (by simp) rfl (fun a b => ?_)
    rcases hs with hs | ⟨hs, hh⟩
    · simp [State.caution, hs, refuse]
    · simp [State.caution, hs, hh, refuse]
  · refine State.serve_does (fun s => s.growCaution.setSaved w) h (by simp) rfl
      (fun a b => by simp [State.caution, hs, State.cautionSaved_of (s := s.withPorts a b) hv hw, ok])
      (fun a b => ((State.growCaution_works _).trans (State.setSaved_works (by simpa using hs) _)).toMoves)
      (fun a b c d => ?_)
    exact ⟨State.setSaved_race (s := (s.withPorts a b).growCaution) hs w, by simp [State.setSaved_time],
      State.setSaved_journal (s := (s.withPorts a b).growCaution) hs w⟩
  · refine State.serve_does State.liftCaution h (by simp) rfl (fun _ _ => by simp [State.lift, hs, ok])
      (fun a b => (State.liftCaution_works (s := s.withPorts a b) hs).toMoves) (fun a b c d => ?_)
    exact ⟨State.liftCaution_race _, State.liftCaution_time _, State.showState_shown_withPorts _ c d,
      State.showState_powerKept (by simp) c d, State.liftCaution_journal (s := s.withPorts a b) hs,
      State.ext_blocks (time := State.liftCaution_time _) (bus := by simp [State.liftCaution])
        (former := by simp [State.liftCaution]) (roster := by simp [State.liftCaution])
        (course := by simp [State.liftCaution]) (pen := by simp [State.liftCaution])
        (stand := by simp [State.liftCaution]) (pending := by simp [State.liftCaution])⟩
  · refine State.serve_does (State.setHeld · false) h (by simp) rfl (fun _ _ => by simp [State.lift, hs, hh, ok])
      (fun a b => (State.setHeld_works (s := s.withPorts a b) hs _).toMoves) (fun a b c d => ?_)
    exact ⟨State.setHeld_race (s := s.withPorts a b) hs false, State.setHeld_time _ _,
      State.showState_shown_withPorts _ c d, State.setHeld_journal (s := s.withPorts a b) hs false⟩
  · exact State.serve_unchanged h (by simp) rfl (fun a b => by simp [State.lift, hs, hh, refuse])
  · refine State.serve_does (State.setSaved · w) h (by simp) rfl
      (fun a b => by simp [State.lift, hs, State.liftSaved_of (s := s.withPorts a b) hv hw, ok])
      (fun a b => (State.setSaved_works (s := s.withPorts a b) hs _).toMoves) (fun a b c d => ?_)
    exact ⟨State.setSaved_race (s := s.withPorts a b) hs w, State.setSaved_time _ _,
      State.setSaved_journal (s := s.withPorts a b) hs w⟩
  · refine State.serve_unchanged h (by simp) rfl (fun a b => ?_)
    rcases hv with hv | hv <;> simp [State.caution, State.cautionSaved, hs, hv, ok]
  · refine State.serve_unchanged h (by simp) rfl (fun a b => ?_)
    rcases hv with hv | hv <;> simp [State.lift, State.liftSaved, hs, hv, ok]
  · refine State.serve_unchanged h (by simp) rfl (fun a b => ?_)
    rcases hs with hs | hs | hs | hs | hs <;> simp [State.caution, hs, refuse]
  · refine State.serve_unchanged h (by simp) rfl (fun a b => ?_)
    rcases hs with hs | hs | hs | hs | hs | hs <;> simp [State.lift, hs, refuse]

/-- Settles O32. -/
theorem suspendAndResume : Obligations.SuspendAndResume := by
  refine ⟨fun p s tag v h hs => ?_, fun p s tag h hs => ?_, fun s tag v live held h hs hl hn hv hw hr => ?_⟩
  · have state : s.race.state = .green ∨ s.race.state = .caution ∨ s.race.state = .chequered := by
      rcases hs with ⟨h, -⟩ | ⟨h, -⟩ | ⟨h, -⟩ <;> simp [h]
    obtain rfl : s.returnState = v := by
      rcases hs with ⟨h, rfl⟩ | ⟨h, rfl⟩ | ⟨h, rfl⟩ <;> simp [State.returnState, h]
    refine State.serve_does (State.suspendRace · .request) h (by simp) rfl (fun _ _ => ?_)
      (fun a b => (State.suspendRace_works _).toMoves) (fun a b c d => ⟨State.suspendRace_suspended state _ a b c d,
        s.suspendRace_powerKept _ a b c d⟩)
    rcases state with hs | hs | hs <;> simp [State.suspend, hs, ok]
  · exact State.serve_unchanged h (by simp) rfl (fun a b => by simp [State.suspend, hs, refuse])
  · have hv' : v.live = (live, held) := by
      rcases hw with ⟨rfl, rfl, rfl⟩ | ⟨rfl, rfl, rfl⟩ | ⟨rfl, rfl⟩ <;> rfl
    have ready (a b : Port) : (s.withPorts a b).powerReady = true := by simp [State.powerReady, hl, hn]
    refine State.serve_does State.resumeRace h (fun _ => rfl) rfl
      (fun a b => (if_pos hs).trans (if_pos (ready a b)))
      (fun a b => (State.resumeRace_works (s := s.withPorts a b)).toMoves) (fun a b c d => ?_)
    rw [State.resumeRace_of (s := s.withPorts a b) hs hv hr, hv']
    refine ⟨?_, ?_, ?_, ?_, ?_, State.showState_shown_withPorts _ c d, State.showState_powerKept ?_ c d, ?_⟩
    · simp [State.showState_race_lamps, State.revived_race]
    · rw [State.showState_time, State.revived_frame]
    · rw [State.showState_course, State.revived_frame]
    · rw [State.showState_former, State.revived_frame]
    · simp only [State.showState_journal, State.revived_journal_next]
    · rw [State.revived_frame]
    · exact State.ext_blocks
end

section
/-! PROOFS. The end of a race, the return to IDLE, and the silence deadline (O33, O34, O35). -/

set_option Elab.async false

namespace Sys2Proof.Machine

open Sys2Proof

/-! ## The settlement of the penalty list (R157) -/

/-- A record a close leaves alone: decided, with nothing left to serve. -/
def Penalty.settled (r : Penalty) : Prop := r.state ≠ .review ∧ r.state ≠ .serving ∧ r.queued = false

theorem Penalty.settled_of_final {r : Penalty} (h : r.state.isFinal = true) : r.settled := by
  cases hs : r.state <;> simp_all [Penalty.settled, Penalty.queued, PenaltyState.isFinal]

/-- In CLOSED a confirmation is final: what is not served at once is converted (R147). -/
theorem State.confirmedAs_closed {s : State} (h : s.race.state = .closed) (d : Decider) (r : Penalty) :
    (s.confirmedAs d r).state.isFinal = true := by
  unfold State.confirmedAs
  split
  · rfl
  · rw [if_pos (.inl h)]
    rfl

theorem State.decideByMode_closed {s : State} (h : s.race.state = .closed) (r : Penalty) :
    (s.decideByMode r).2.1.state.isFinal = true ∧ (s.decideByMode r).2.1.id = r.id := by
  unfold State.decideByMode
  split
  · exact ⟨rfl, rfl⟩
  · rw [State.confirmRecord_record]
    exact ⟨State.confirmedAs_closed h _ r, State.confirmedAs_id _ _ _⟩

theorem State.decideByMode_pen (s : State) (r : Penalty) : (s.decideByMode r).1.pen = s.pen := by
  unfold State.decideByMode
  split
  · rfl
  · rw [State.confirmRecord_state, State.modCar_pen]

/-- A list in which every record of one id has been replaced. -/
def withRecord (l : List Penalty) (r : Penalty) : List Penalty := l.map (fun x => if x.id = r.id then r else x)

theorem withRecord_ids (l : List Penalty) (r : Penalty) : (withRecord l r).map Penalty.id = l.map Penalty.id := by
  simp only [withRecord, List.map_map]
  refine List.map_congr_left (fun x _ => ?_)
  simp only [Function.comp]
  split
  · rename_i h
    exact h.symm
  · rfl

theorem mem_withRecord {l : List Penalty} {r x : Penalty} (h : x ∈ withRecord l r) : x = r ∨ x ∈ l ∧ x.id ≠ r.id := by
  obtain ⟨y, hy, rfl⟩ := List.mem_map.mp h
  split
  · exact .inl rfl
  · rename_i hne
    exact .inr ⟨hy, hne⟩

theorem State.settleAtClose_review {r : Penalty} (h : r.state = .review) (s : State) :
    s.settleAtClose r = some (((s.decideByMode r).1.putPenalty (s.decideByMode r).2.1).noticePenalty .close
      (s.decideByMode r).2.1, (s.decideByMode r).2.2) := by
  rw [State.settleAtClose, h]

theorem State.settleAtClose_confirmed {r : Penalty} (h : r.state = .confirmed) (s : State) :
    s.settleAtClose r = if r.queued then
      some (((s.addTime r.code r.conversion).putPenalty r.converted).noticePenalty .close r.converted, true)
      else none := by
  simp only [State.settleAtClose, State.settleQueued, h, if_true]

theorem State.settleAtClose_serving {r : Penalty} (h : r.state = .serving) (s : State) :
    s.settleAtClose r = some ((s.putPenalty { r.servedNow with lapsAsHead := none }).noticePenalty .close
      { r.servedNow with lapsAsHead := none }, false) := by
  rw [State.settleAtClose, h]

theorem State.settleAtClose_final {r : Penalty} (h : r.state.isFinal = true) (s : State) :
    s.settleAtClose r = none := by
  cases hs : r.state <;> simp_all [State.settleAtClose, PenaltyState.isFinal]

/-- A record the close decides or ends is settled in its place. -/
theorem State.settleAtClose_some {s : State} (h : s.race.state = .closed) {r : Penalty} {v : State × Bool}
    (hv : s.settleAtClose r = some v) :
    ∃ q : Penalty, q.id = r.id ∧ q.settled ∧ v.1.pen.list = withRecord s.pen.list q := by
  cases hs : r.state
  case review =>
    rw [State.settleAtClose_review hs] at hv
    cases hv
    obtain ⟨final, id⟩ := State.decideByMode_closed h r
    exact ⟨_, id, Penalty.settled_of_final final, by
      simp [State.noticePenalty, State.decideByMode_pen, withRecord]⟩
  case confirmed =>
    rw [State.settleAtClose_confirmed hs] at hv
    split at hv
    · cases hv
      exact ⟨r.converted, rfl, Penalty.settled_of_final rfl, by
        simp [State.noticePenalty, State.addTime, withRecord]⟩
    · cases hv
  case serving =>
    rw [State.settleAtClose_serving hs] at hv
    cases hv
    exact ⟨{ r.servedNow with lapsAsHead := none }, rfl, Penalty.settled_of_final rfl, by
      simp [State.noticePenalty, withRecord]⟩
  all_goals
    rw [State.settleAtClose_final (by rw [hs]; rfl)] at hv
    cases hv

/-- A record the close leaves alone is settled. -/
theorem State.settleAtClose_none {s : State} {r : Penalty} (h : s.settleAtClose r = none) : r.settled := by
  cases hs : r.state
  case review => rw [State.settleAtClose_review hs] at h; cases h
  case serving => rw [State.settleAtClose_serving hs] at h; cases h
  case confirmed =>
    rw [State.settleAtClose_confirmed hs] at h
    split at h
    · cases h
    · rename_i hq
      exact ⟨by simp [hs], by simp [hs], by simpa using hq⟩
  all_goals exact Penalty.settled_of_final (by rw [hs]; rfl)

theorem State.handOnClose_pen (s : State) (l : List (Code × Bool)) (c : Code) : (s.handOnClose l c).pen = s.pen := by
  unfold State.handOnClose
  split
  · exact s.handOn_pen _ _ _
  · rfl

theorem State.foldl_handOnClose_pen (l : List (Code × Bool)) (cs : List Code) (s : State) :
    (cs.foldl (fun a c => a.handOnClose l c) s).pen = s.pen := by
  induction cs generalizing s with
  | nil => rfl
  | cons c cs ih => exact (ih _).trans (s.handOnClose_pen l c)

theorem State.foldl_handOnClose_race (l : List (Code × Bool)) (cs : List Code) (s : State) :
    (cs.foldl (fun a c => a.handOnClose l c) s).race = s.race :=
  (State.Charges.foldl (fun a c => a.handOnClose_charges l c) cs s).race

/-- The settlement keeps the identifiers in their places, and once it is done nothing is open: what is not settled yet
is still to come. -/
theorem State.settleRecords_list {s : State} (h : s.race.state = .closed) (cars : List Code)
    (touched : List (Code × Bool)) (rest : List Penalty) (hl : ∀ x ∈ s.pen.list, x.settled ∨ x ∈ rest) :
    (s.settleRecords cars touched rest).pen.list.map Penalty.id = s.pen.list.map Penalty.id ∧
      ∀ x ∈ (s.settleRecords cars touched rest).pen.list, x.settled := by
  induction rest generalizing s cars touched with
  | nil => exact ⟨rfl, fun x hx => by simpa using hl x hx⟩
  | cons r rest ih =>
    unfold State.settleRecords
    cases hr : s.settleAtClose r with
    | none =>
      dsimp only
      refine (ih ?_ _ _ (fun x hx => ?_)).imp_left (·.trans ?_)
      · rw [State.foldl_handOnClose_race, h]
      · rw [State.foldl_handOnClose_pen] at hx
        rcases hl x hx with hs | hs
        · exact .inl hs
        · rcases List.mem_cons.mp hs with rfl | hs
          · exact .inl (State.settleAtClose_none hr)
          · exact .inr hs
      · rw [State.foldl_handOnClose_pen]
    | some v =>
      obtain ⟨q, hid, hq, hlist⟩ := State.settleAtClose_some h hr
      dsimp only
      refine (ih ?_ _ _ (fun x hx => ?_)).imp_left (·.trans ?_)
      · rw [State.foldl_handOnClose_race, (State.settleAtClose_charges hr).race, h]
      · rw [State.foldl_handOnClose_pen, hlist] at hx
        rcases mem_withRecord hx with rfl | ⟨hx, hne⟩
        · exact .inl hq
        · rcases hl x hx with hs | hs
          · exact .inl hs
          · rcases List.mem_cons.mp hs with rfl | hs
            · exact absurd hid.symm hne
            · exact .inr hs
      · rw [State.foldl_handOnClose_pen, hlist, withRecord_ids]

/-! ## Closing (R132) -/

theorem State.closedClocks_race (s : State) : s.closedClocks.race = { s.race with
    state := .closed, held := false, saved := none, raceLimit := none, finishWindow := none } := by
  unfold State.closedClocks
  dsimp only
  split <;> rfl

theorem State.closedClocks_time (s : State) : s.closedClocks.time = { s.time with
    latched := some s.raceClock
    nClosed := if s.race.state = .suspended then s.time.nClosed + (s.time.session - s.time.s0)
      else s.time.nClosed } := by
  unfold State.closedClocks
  dsimp only
  split <;> rfl

/-- The closing clocks touch clocks and controller alone. -/
theorem State.closedClocks_frame (s : State) : s.closedClocks =
    { s with time := s.closedClocks.time, race := s.closedClocks.race } := by
  unfold State.closedClocks
  dsimp only
  split <;> rfl

theorem State.closing_race (s : State) (r : StateReason) : (s.closing r).race = { s.race with
    state := .closed, held := false, saved := none, raceLimit := none, finishWindow := none, reason := r } := by
  simp [State.closing, State.closedClocks_race]

theorem State.closing_time (s : State) (r : StateReason) : (s.closing r).time = { s.time with
    latched := some s.raceClock
    nClosed := if s.race.state = .suspended then s.time.nClosed + (s.time.session - s.time.s0)
      else s.time.nClosed } := by
  simp [State.closing, State.closedClocks_time]

theorem State.closing_course (s : State) (r : StateReason) : (s.closing r).course = { s.course with
    sectors := s.course.shadow.getD s.course.sectors, shadow := none } := by
  rw [State.closing, State.mapCars_course, State.applyShadow_course, State.announce_course, s.closedClocks_frame]

theorem State.closing_pen (s : State) (r : StateReason) : (s.closing r).pen = s.pen := by
  rw [State.closing, State.mapCars_pen, State.applyShadow_pen, State.announce_pen, s.closedClocks_frame]

theorem State.closing_power (s : State) (r : StateReason) : (s.closing r).power = s.power := by
  rw [State.closing, State.mapCars_power, State.applyShadow_power, State.announce_power, s.closedClocks_frame]

/-- No car of a closing race has a silence deadline. -/
theorem State.closing_silence (s : State) (r : StateReason) : ∀ x ∈ (s.closing r).cars, x.race.silence = none := by
  rw [State.closing, State.mapCars_cars]
  intro x hx
  obtain ⟨y, -, rfl⟩ := List.mem_map.mp hx
  rfl

/-- A car's silence deadline is nothing it is charged. -/
theorem State.Charges.silence {s t : State} (h : s.Charges t) (hs : ∀ x ∈ s.cars, x.race.silence = none) :
    ∀ x ∈ t.cars, x.race.silence = none := by
  intro x hx
  have hmem : x.uncharged ∈ s.cars.map Car.uncharged := h.cars_map ▸ List.mem_map_of_mem hx
  obtain ⟨y, hy, e⟩ := List.mem_map.mp hmem
  have : y.race.silence = x.race.silence := congrArg (fun z => z.race.silence) e
  rw [← this, hs y hy]

/-- A closed race as it stands before it is shown. -/
def State.closedOff (s : State) (r : StateReason) : State :=
  { ((s.closing r).settleClose.resort .close) with stand.fixed := true }

/-- Closing but for the fixed mark of the standings is the penalty unit's work. -/
theorem State.closedOff_charges (s : State) (r : StateReason) :
    (s.closing r).Charges ((s.closing r).settleClose.resort .close) :=
  (s.closing r).settleClose_charges.trans (State.resort_charges _ _)

/-- The race has been closed, whatever the ports before and after. -/
theorem State.closeRace_closed (s : State) (r : StateReason) (a b c d : Port) :
    s.closedWith (((s.withPorts a b).closeRace r).withPorts c d) r := by
  have charges := (s.withPorts a b).closedOff_charges r
  have cars : ((s.withPorts a b).closeRace r).cars = ((s.withPorts a b).closing r).settleClose.cars :=
    State.cars_congr (by rw [State.closeRace_eq, State.showState_roster, State.resort_roster])
  have pen : ((s.withPorts a b).closeRace r).pen = ((s.withPorts a b).closing r).settleClose.pen := by
    rw [State.closeRace_eq, State.showState_pen]
    exact State.resort_pen _ _
  have settled := State.settleRecords_list (s := (s.withPorts a b).closing r) (by rw [State.closing_race])
    (((s.withPorts a b).closing r).pen.list.map Penalty.code).eraseDups [] ((s.withPorts a b).closing r).pen.list
    (fun x hx => .inr hx)
  have shown : (((s.withPorts a b).closeRace r).withPorts c d).shown := State.showState_shown_withPorts _ c d
  have race : ((s.withPorts a b).closeRace r).race = { s.race with
      state := .closed, held := false, saved := none, raceLimit := none, finishWindow := none, reason := r
      lamps := 0x80 } := by
    rw [State.closeRace_eq, State.showState_race_lamps]
    simp [State.lampPattern, (State.settleClose_charges _).race, State.closing_race]
  refine ⟨race, ?_, ?_, ?_, ?_, ?_, ?_, shown, ?_, ?_⟩
  · simp only [State.closeRace_eq, State.showState_time]
    exact charges.time.trans (State.closing_time _ r)
  · simp only [State.closeRace_eq, State.showState_course]
    exact charges.course.trans (State.closing_course _ r)
  · intro x hx
    exact (State.settleClose_charges _).silence (State.closing_silence _ r) x (cars ▸ hx)
  · exact (congrArg (fun p => p.list.map Penalty.id) pen).trans (settled.1.trans (by rw [State.closing_pen]))
  · intro x hx
    exact settled.2 x (by rw [← State.settleClose, ← pen]; exact hx)
  · rw [State.closeRace_eq, State.showState_stand]
  · intro d'
    rw [shown.1 d']
    have := State.rowOf_cap_le (((s.withPorts a b).closeRace r).withPorts c d) d'
    simpa [State.stateCap, race] using this
  · exact State.ext_blocks

/-! ## The chequered flag (R129) -/

/-- The chequered flag is out, before it is shown. -/
def State.flagged (s : State) : State :=
  let s1 : State := { s with
    race.state := .chequered
    race.held := decide (s.race.state = .caution)
    race.raceLimit := none
    race.finishWindow := some (s.raceClock + s.finishWindowTicks) }
  s1.announce s.race.state .limit

/-- With a car still running the flag closes nothing. -/
theorem State.enterChequered_of_running {s : State} (h : ∃ x ∈ s.cars, x.entered = true ∧
    x.race.state ≠ .finished ∧ x.race.state ≠ .retired) : s.enterChequered = s.flagged.showState := by
  have cars : s.flagged.showState.cars = s.cars := State.cars_congr (by simp [State.flagged])
  exact State.doneTest_of_running (s := s.flagged.showState) (by rwa [cars])

theorem State.flagged_race (s : State) : s.flagged.race = { s.race with
    state := .chequered, held := decide (s.race.state = .caution), raceLimit := none
    finishWindow := some (s.raceClock + s.course.settings.finishWindow * 100000), reason := .limit } := by
  simp [State.flagged, State.finishWindowTicks, secondTicks]

theorem State.flagged_journal {s : State} (h : s.race.state = .green ∨ s.race.state = .caution) :
    s.flagged.journal = s.journal.added s.raceMs
      (.state s.race.state .chequered (decide (s.race.state = .caution)) none .limit) := by
  rcases h with h | h <;>
    simp [State.flagged, State.announce_journal, State.raceMs, State.raceClock, State.neutral, h]

/-! ## RELEASE and SOFT_RESET (R133, R134) -/

theorem State.release_race (s : State) : s.release.race = { s.race with
    state := .idle, watchStart := none, reason := .request, lamps := 0 } := by
  rw [State.release, State.showState_race_lamps]
  simp [State.lampPattern, State.initCars, State.clearUnattributed, State.clearStandings]

theorem State.softReset_race (s : State) : s.softReset.race = { s.race with
    state := .idle, held := false, saved := none, step := none, jumpWatch := false, watchStart := none
    raceLimit := none, finishWindow := none, practiceLimit := none, reason := .softReset, lamps := 0 } := by
  rw [State.softReset, State.showState_race_lamps]
  simp [State.lampPattern, State.initCars, State.clearUnattributed, State.clearStandings, RaceCtl.softReset]

theorem State.release_time (s : State) : s.release.time = { s.time with
    green := 0, nClosed := 0, s0 := 0, latched := none
    gates := mapVec (fun q => { q with stack := [], last := none }) s.time.gates } := by
  simp [State.release, State.initCars, State.clearUnattributed, State.clearStandings]

theorem State.softReset_time (s : State) : s.softReset.time = { s.time with
    green := 0, nClosed := 0, s0 := 0, latched := none
    gates := mapVec (fun q => { q with stack := [], last := none }) s.time.gates } := by
  simp [State.softReset, State.initCars, State.clearUnattributed, State.clearStandings]

theorem State.release_roster (s : State) :
    s.release.roster = (s.mapCars (fun x => { x with race := RacePart.initial })).roster := by
  simp only [State.release, State.showState_roster, State.clearStandings, State.clearCaptures_roster,
    State.clearUnattributed, State.clearPenalties_roster, State.initCars, State.mapCars_roster, State.announce_roster]
  rfl

theorem State.softReset_roster (s : State) : s.softReset.roster =
    (s.mapCars (fun x => { x with race := RacePart.initial, entered := false, gridSlot := none })).roster := by
  simp only [State.softReset, State.showState_roster, State.clearStandings, State.clearCaptures_roster,
    State.clearUnattributed, State.clearPenalties_roster, State.initCars, State.mapCars_mapCars,
    State.mapCars_roster, State.announce_roster]
  rfl

theorem State.release_journal (s : State) : s.release.journal =
    s.journal.added 0 (.state s.race.state .idle s.race.held none .request) := by
  simp [State.release, State.initCars, State.clearUnattributed, State.clearStandings, State.announce_journal,
    State.raceMs, State.raceClock]

theorem State.softReset_journal (s : State) : s.softReset.journal =
    s.journal.added 0 (.state s.race.state .idle false none .softReset) := by
  simp [State.softReset, State.initCars, State.clearUnattributed, State.clearStandings, State.announce_journal,
    State.raceMs, State.raceClock, RaceCtl.softReset]

/-! ## The silence deadline (R108) -/

/-- A car off the track, before the de-slot action. -/
def State.slotLost (s : State) (x : Car) : State :=
  ((s.modRace x.code (fun r => { r with state := .offTrack, silence := none })).append
    (.deslot x.code x.number (x.race.last.map LastPassage.point) x.race.lastLane)).recomputeCar x.code

theorem State.deslot_eq (s : State) (x : Car) : s.deslot x =
    if s.course.settings.deslot = .caution ∧ s.race.state = .green then (s.slotLost x).enterCaution .deslot
    else s.slotLost x := by
  have settings : (s.slotLost x).course = s.course := by simp [State.slotLost]
  have race : (s.slotLost x).race = s.race := by simp [State.slotLost]
  rw [← settings, ← race]
  rfl

/-- Of the machine, a lost slot touches the car, its row and the journal. -/
theorem State.slotLost_frame (s : State) (x : Car) : s.slotLost x = { s with
    roster := (s.slotLost x).roster, power := (s.slotLost x).power, journal := (s.slotLost x).journal
    portA := (s.slotLost x).portA, portB := (s.slotLost x).portB } := by
  simp only [State.slotLost]
  exact State.ext_blocks

theorem State.slotLost_journal (s : State) (x : Car) : (s.slotLost x).journal =
    s.journal.added s.raceMs (.deslot x.code x.number (x.race.last.map LastPassage.point)
      (x.race.last.bind LastPassage.lane)) := by
  simp [State.slotLost, Journal.added, State.raceMs, State.raceClock, State.neutral, RacePart.lastLane]

theorem State.slotLost_carSet {s : State} {c : Code} {x : Car} (h : s.car c = some x) :
    s.carSet (s.slotLost x) c { x with race := { x.race with state := .offTrack, silence := none } } := by
  obtain rfl := State.car_code h
  have roster : (s.slotLost x).roster =
      (s.modRace x.code (fun r => { r with state := .offTrack, silence := none })).roster := by
    simp [State.slotLost]
  refine ⟨?_, fun d hd => ?_⟩
  · rw [State.car_congr roster, State.modRace_car_self, h]
    rfl
  · rw [State.car_congr roster, State.modRace_car_other _ _ hd]

theorem State.carSet_congr {s t u : State} {c : Code} {y : Car} (h : t.roster = u.roster) (k : s.carSet u c y) :
    s.carSet t c y :=
  ⟨(State.car_congr h c).trans k.1, fun d hd => (State.car_congr h d).trans (k.2 d hd)⟩

end Sys2Proof.Machine

open Sys2Proof Sys2Proof.Machine

/-- Settles O33. -/
theorem raceEnds : Obligations.RaceEnds := by
  refine ⟨fun s d hs hd hle hr => ?_, fun s d hs hd hle => ?_, fun s hs hle => ?_, fun s tag h hs => ?_⟩
  · have due : s.raceDue s.race.raceLimit = true := by
      rcases hs with hs | hs <;> simp [State.raceDue, hd, hs, RaceState.clockRuns, hle]
    refine State.transmit_does (congrArg Host.Outcome.next (if_pos ⟨hs, due⟩)) (fun c d => ?_)
    rw [State.enterChequered_of_running hr]
    refine ⟨?_, State.showState_shown_withPorts _ c d, State.showState_powerKept (by simp [State.flagged]) c d,
      ?_, ?_⟩
    · simp [State.showState_race_lamps, State.flagged_race]
    · simp only [State.showState_journal, State.flagged_journal hs]
    · exact State.ext_blocks (time := by simp [State.flagged]) (bus := by simp [State.flagged])
        (former := by simp [State.flagged]) (roster := by simp [State.flagged]) (course := by simp [State.flagged])
        (pen := by simp [State.flagged]) (stand := by simp [State.flagged]) (pending := by simp [State.flagged])
  · have due : s.raceDue s.race.finishWindow = true := by simp [State.raceDue, hd, hs, RaceState.clockRuns, hle]
    exact State.transmit_does (congrArg Host.Outcome.next (if_pos ⟨hs, due⟩))
      (s.closeRace_closed .window s.portA s.portB)
  · exact State.transmit_does (congrArg Host.Outcome.next (if_pos ⟨hs, hle⟩))
      (s.closeRace_closed .limit s.portA s.portB)
  · exact State.serve_does (State.closeRace · .request) h (fun _ => rfl) rfl (fun _ _ => if_pos hs)
      (fun a b => (State.closeRace_works _ _).toMoves) (s.closeRace_closed .request)

/-- Settles O34. -/
theorem releaseAndSoftReset : Obligations.ReleaseAndSoftReset := by
  refine ⟨fun s tag h hs => ?_, fun s tag h => ?_⟩
  · refine State.serve_does State.release h (fun _ => rfl) rfl (fun _ _ => if_pos hs)
      (fun a b => (State.release_works (s := s.withPorts a b) hs).toMoves) (fun a b c d => ?_)
    refine ⟨State.release_race _, ?_, fun g => ?_, State.carsMapped_of (x := s) ?_ rfl, ?_, ?_, ?_,
      State.showState_shown_withPorts _ c d, State.showState_powerKept ?_ c d, ?_, ?_⟩
    · simp [State.release_time]
    · simp [State.release_time, mapVec_getElem]
    · exact State.release_roster _
    · simp [State.release, State.initCars, State.clearUnattributed, State.clearStandings]
    · simp [State.release, State.initCars, State.clearUnattributed, State.clearStandings]
    · simp [State.release, State.initCars, State.clearUnattributed, State.clearStandings, Standings.reset]
    · simp [State.initCars, State.clearUnattributed, State.clearStandings]
    · simp [State.release_journal, hs]
    · exact State.ext_blocks
        (bus := by simp [State.release, State.initCars, State.clearUnattributed, State.clearStandings])
        (course := by simp [State.release, State.initCars, State.clearUnattributed, State.clearStandings])
        (pending := by simp [State.release, State.initCars, State.clearUnattributed, State.clearStandings])
  · refine State.serve_does State.softReset h (fun _ => rfl) rfl (fun _ _ => rfl)
      (fun a b => (State.softReset_works _).toMoves) (fun a b c d => ?_)
    refine ⟨State.softReset_race _, ?_, fun g => ?_, State.carsMapped_of (x := s) ?_ rfl, ?_, ?_, ?_, ?_,
      State.showState_shown_withPorts _ c d, State.showState_powerKept ?_ c d, ?_, ?_⟩
    · simp [State.softReset_time]
    · simp [State.softReset_time, mapVec_getElem]
    · exact State.softReset_roster _
    · simp [State.softReset, State.initCars, State.clearUnattributed, State.clearStandings]
    · simp [State.softReset, State.initCars, State.clearUnattributed, State.clearStandings]
    · simp [State.softReset, State.initCars, State.clearUnattributed, State.clearStandings]
    · simp [State.softReset, State.initCars, State.clearUnattributed, State.clearStandings, Standings.reset]
    · simp [State.initCars, State.clearUnattributed, State.clearStandings]
    · simp [State.softReset_journal]
    · exact State.ext_blocks
        (bus := by simp [State.softReset, State.initCars, State.clearUnattributed, State.clearStandings])
        (pending := by simp [State.softReset, State.initCars, State.clearUnattributed, State.clearStandings])

/-- Settles O35. -/
theorem deslotDeadline : Obligations.DeslotDeadline := by
  intro s c x d hx hd hs hle
  have due : s.raceDue x.race.silence = true := by simp [State.raceDue, hd, hs, hle]
  have code := State.car_code hx
  have ho : exec (.silenceDeadline c) s = .next (s.deslot x).transmit := by
    simp only [exec, execSilenceDeadline, hx, due, if_true]
  refine State.transmit_does ho (fun a b => ?_)
  have race : (s.slotLost x).race = s.race := by rw [s.slotLost_frame]
  have time : (s.slotLost x).time = s.time := by rw [s.slotLost_frame]
  have ms : (s.slotLost x).raceMs = s.raceMs := by simp only [State.raceMs, State.raceClock, State.neutral, race, time]
  rw [State.deslot_eq]
  by_cases hc : s.course.settings.deslot = .caution ∧ s.race.state = .green
  · rw [if_pos hc, if_pos hc]
    refine ⟨State.carSet_congr (by simp) (State.slotLost_carSet hx), ⟨?_, ?_,
      State.showState_shown_withPorts _ a b, ?_⟩, ?_⟩
    · simp [State.enterCaution_race, race]
    · simp [State.enterCaution_time, time]
    · simp only [State.enterCaution_journal (race ▸ hc.2), State.slotLost_journal, ms, race, code]
    · exact State.ext_blocks (bus := by simp [State.slotLost]) (former := by simp [State.slotLost])
        (course := by simp [State.slotLost]) (pen := by simp [State.slotLost]) (stand := by simp [State.slotLost])
        (pending := by simp [State.slotLost])
  · rw [if_neg hc, if_neg hc]
    refine ⟨State.carSet_congr rfl (State.slotLost_carSet hx), ⟨race, time, ?_⟩, ?_⟩
    · simp only [State.slotLost_journal, code]
    · exact State.ext_blocks (bus := by simp [State.slotLost]) (former := by simp [State.slotLost])
        (course := by simp [State.slotLost]) (pen := by simp [State.slotLost]) (stand := by simp [State.slotLost])
        (pending := by simp [State.slotLost])
end

section
/-! PROOFS. Heads, counters, the service queue and the arbiter: what each operation of the gate bus does and what it
leaves alone. -/

set_option Elab.async false

namespace Sys2Proof.Machine

open Sys2Proof

variable {s t u : State}

/-! ## Frames -/

theorem State.onlyBus.trans (h : s.onlyBus t) (k : t.onlyBus u) : s.onlyBus u := by
  rw [State.onlyBus] at *
  rw [k, h]

theorem State.onlyBus.after (k : t.onlyBus u) (h : s.onlyBus t) : s.onlyBus u := h.trans k

theorem State.onlyBus.ite {p : Prop} [Decidable p] (h : s.onlyBus t) (k : s.onlyBus u) :
    s.onlyBus (if p then t else u) := by
  split
  · exact h
  · exact k

theorem State.modHead_onlyBus (s : State) (g : Gate) (f : Head → Head) : s.onlyBus (s.modHead g f) := rfl

theorem State.joinQueue_onlyBus (s : State) (g : Gate) (k : BusKind) : s.onlyBus (s.joinQueue g k) := rfl

theorem State.append_onlyBus (s : State) (n : Notice) : s.onlyBus (s.append n) := rfl

theorem State.freeLine_onlyBus (s : State) : s.onlyBus s.freeLine := rfl

theorem State.discardLine_onlyBus (s : State) (g : Gate) (b : Bool) : s.onlyBus (s.discardLine g b) := by
  unfold State.discardLine
  repeat' split
  all_goals rfl

theorem State.arbitrate_onlyBus (s : State) : s.onlyBus s.arbitrate := State.ext_blocks

theorem State.busSettled_onlyBus (s : State) : s.onlyBus s.busSettled := s.arbitrate_onlyBus.trans rfl

theorem State.modCheck_onlyBus (s : State) (g : Gate) (f : GateCheck → GateCheck) : s.onlyBus (s.modCheck g f) := rfl

theorem State.joinNextCheck_onlyBus (s : State) (g : Gate) : s.onlyBus (s.joinNextCheck g) := by
  unfold State.joinNextCheck
  repeat' split
  all_goals rfl

theorem State.requeue_onlyBus (s : State) (g : Gate) (k : BusKind) : s.onlyBus (s.requeue g k) := by
  unfold State.requeue
  split
  exacts [rfl, rfl, rfl, rfl, rfl, rfl, s.joinNextCheck_onlyBus g, rfl]

theorem State.endCheck_onlyBus (s : State) (g : Gate) : s.onlyBus (s.endCheck g) := by
  unfold State.endCheck
  repeat' split
  all_goals rfl

theorem State.clearLanes_frame (s : State) (g : Gate) : s.clearLanes g = { s with
    bus := (s.modHead g (fun h => { h with lanes := Vector.replicate 7 LaneSensor.cleared })).bus
    journal := (s.clearLanes g).journal, portA := (s.clearLanes g).portA, portB := (s.clearLanes g).portB } := by
  simp only [State.clearLanes]
  rw [(State.foldl_append_frame _ _ _).2]
  rfl

theorem State.clearLanes_onlyBus (s : State) (g : Gate) : s.onlyBus (s.clearLanes g) := by
  rw [State.onlyBus, s.clearLanes_frame g]

@[simp] theorem State.clearLanes_bus (s : State) (g : Gate) : (s.clearLanes g).bus =
    { s.bus with heads := s.bus.heads.set g { s.bus.heads[g] with
      lanes := Vector.replicate 7 LaneSensor.cleared } } := by
  rw [s.clearLanes_frame g]
  rfl

/-! ## Counters (R35) -/

/-- A counter of the head gains `n` exactly when it selects the object. -/
theorem State.countBy_counter (s : State) (g : Gate) (o : CounterObject) (n : Nat) (i : Fin 3) :
    (s.countBy g o n).bus.heads[g].counters[i] = ⟨s.bus.heads[g].counters[i].select,
      s.bus.heads[g].counters[i].count + (if s.bus.heads[g].counters[i].select = o then BitVec.ofNat 32 n else 0)⟩ := by
  have h := mapVec_getElem (HeadCounter.gain o n) s.bus.heads[g].counters i.val i.isLt
  rw [State.countBy, State.modHead_self]
  refine h.trans ?_
  show HeadCounter.gain o n s.bus.heads[g].counters[i] = _
  unfold HeadCounter.gain
  split <;> simp

theorem State.countObj_counter (s : State) (g : Gate) (o : CounterObject) (i : Fin 3) :
    (s.countObj g o).bus.heads[g].counters[i] = ⟨s.bus.heads[g].counters[i].select,
      s.bus.heads[g].counters[i].count + (if s.bus.heads[g].counters[i].select = o then 1 else 0)⟩ :=
  s.countBy_counter g o 1 i

/-- Counting changes the counters of its head, and nothing else. -/
theorem State.countBy_frame (s : State) (g : Gate) (o : CounterObject) (n : Nat) : s.countBy g o n =
    { s with bus.heads := s.bus.heads.set g { s.bus.heads[g] with
      counters := (s.countBy g o n).bus.heads[g].counters } } := by
  have h : (s.countBy g o n).bus.heads[g].counters = mapVec (HeadCounter.gain o n) s.bus.heads[g].counters := by
    rw [State.countBy, State.modHead_self]
  rw [h]
  rfl

theorem State.countObj_frame (s : State) (g : Gate) (o : CounterObject) : s.countObj g o =
    { s with bus.heads := s.bus.heads.set g { s.bus.heads[g] with
      counters := (s.countObj g o).bus.heads[g].counters } } := s.countBy_frame g o 1

/-- A counted head, its counters aside. -/
theorem State.countBy_head (s : State) (g : Gate) (o : CounterObject) (n : Nat) :
    (s.countBy g o n).bus.heads[g] = { s.bus.heads[g] with
      counters := (s.countBy g o n).bus.heads[g].counters } := by
  rw [State.countBy, State.modHead_self]

theorem State.countBy_other (s : State) {g k : Gate} (o : CounterObject) (n : Nat) (h : k ≠ g) :
    (s.countBy g o n).bus.heads[k] = s.bus.heads[k] := s.modHead_other g k _ h

/-! ## The queue and the line -/

theorem State.busHas_of_mem {g : Gate} {k : BusKind} (h : ⟨g, k⟩ ∈ s.bus.queue) : s.busHas g k = true := by
  rw [State.busHas, List.contains_iff_mem.mpr h, Bool.true_or]

theorem State.busHas_of_line {g : Gate} {k : BusKind} {x : Transaction} (h : s.bus.line = some x) (hg : x.gate = g)
    (hk : x.kind = k) : s.busHas g k = true := by
  simp [State.busHas, h, hg, hk]

theorem State.busHas_iff {g : Gate} {k : BusKind} : s.busHas g k = true ↔
    ⟨g, k⟩ ∈ s.bus.queue ∨ ∃ x, s.bus.line = some x ∧ x.gate = g ∧ x.kind = k := by
  cases h : s.bus.line <;> simp [State.busHas, h]

theorem State.joinQueue_busHas (s : State) (g : Gate) (k : BusKind) : (s.joinQueue g k).busHas g k = true :=
  State.busHas_of_mem (by simp)

theorem State.joinPeriodic_busHas (s : State) (g : Gate) (k : BusKind) : (s.joinPeriodic g k).busHas g k = true := by
  unfold State.joinPeriodic
  split
  · assumption
  · exact s.joinQueue_busHas g k

theorem State.joinPeriodic_onlyBus (s : State) (g : Gate) (k : BusKind) : s.onlyBus (s.joinPeriodic g k) := .ite rfl rfl

@[simp] theorem State.joinPeriodic_heads (s : State) (g : Gate) (k : BusKind) :
    (s.joinPeriodic g k).bus.heads = s.bus.heads := by
  unfold State.joinPeriodic
  split <;> rfl

@[simp] theorem State.joinPeriodic_journal (s : State) (g : Gate) (k : BusKind) :
    (s.joinPeriodic g k).journal = s.journal := by
  unfold State.joinPeriodic
  split <;> rfl

/-! ## The arbiter (R32) -/

/-- What waits or is on the line is still so once the arbiter has chosen: the choice moves it to the line. -/
theorem State.arbitrate_busHas {g : Gate} {k : BusKind} (h : s.busHas g k = true) : s.arbitrate.busHas g k = true := by
  unfold State.arbitrate
  split
  · exact h
  · rename_i hl
    have hm : ⟨g, k⟩ ∈ s.bus.queue := by simpa [State.busHas_iff, hl] using h
    have fetch (j : Gate) : (s.placeFetch j).busHas g k = true := State.busHas_of_mem hm
    have service (e : ServiceEntry) (rest : List ServiceEntry) (hq : s.bus.queue = e :: rest) :
        (s.placeService e rest).busHas g k = true := by
      rcases List.mem_cons.mp (hq ▸ hm) with rfl | hr
      · exact State.busHas_of_line (x := ⟨g, k, commandFrame g k s.bus.heads[g], false, none, false⟩) rfl rfl rfl
      · exact State.busHas_of_mem hr
    split
    · exact fetch _
    · rename_i hq
      split
      · exact fetch _
      · exact service _ _ hq
    · rename_i hq
      exact service _ _ hq
    · exact h

/-- The arbiter takes entries from the queue only. -/
theorem State.arbitrate_queue (s : State) : ∀ e ∈ s.arbitrate.bus.queue, e ∈ s.bus.queue := by
  intro e
  unfold State.arbitrate
  split
  · exact id
  · split
    · exact id
    · rename_i hq
      split
      · exact id
      · rw [hq]
        exact List.mem_cons_of_mem _
    · rename_i hq
      rw [hq]
      exact List.mem_cons_of_mem _
    · exact id

@[simp] theorem State.busSettled_heads (s : State) : s.busSettled.bus.heads = s.bus.heads := s.arbitrate_heads

@[simp] theorem State.busSettled_check (s : State) : s.busSettled.bus.check = s.bus.check := s.arbitrate_check

@[simp] theorem State.busSettled_time (s : State) : s.busSettled.time = s.time := s.arbitrate_time

@[simp] theorem State.busSettled_journal (s : State) : s.busSettled.journal = s.journal := s.arbitrate_journal

theorem State.busSettled_busHas {g : Gate} {k : BusKind} (h : s.busHas g k = true) : s.busSettled.busHas g k = true :=
  State.arbitrate_busHas h

/-- An event of the gate bus that settles: the state before the arbiter, and what the arbiter leaves alone. -/
theorem State.busSettled_frame (s : State) : s.busSettled = { s with
    bus := s.busSettled.bus, portA := s.busSettled.portA, portB := s.busSettled.portB } := by
  rw [State.busSettled]
  exact State.ext_blocks

/-! ## A change of head state (R20 to R29, R31) -/

/-- A head in a new state, its lanes cleared at an entry to SETUP. -/
def Head.inState (h : Head) (st : HeadState) (r : GateReason) (now : Time) : Head :=
  { h.entered st r now with lanes := if st = .setup then Vector.replicate 7 LaneSensor.cleared else h.lanes }

theorem Head.inState_of_ne {st : HeadState} (hs : st ≠ .setup) (h : Head) (r : GateReason) (now : Time) :
    h.inState st r now = h.entered st r now := by
  rw [Head.inState, if_neg hs]
  rfl

/-- A change of head state before its first entry joins: the record changed, its notice appended. -/
def State.headChanged (s : State) (g : Gate) (st : HeadState) (r : GateReason) : State :=
  (((s.dropEntries g).discardLine g false).modHead g (fun h => h.entered st r s.time.session)).append (.gate g st r)

theorem State.enterHead_eq (s : State) (g : Gate) (st : HeadState) (r : GateReason) : s.enterHead g st r =
    match st.firstEntry with
    | some k => (if st = .setup then (s.headChanged g st r).clearLanes g else s.headChanged g st r).joinQueue g k
    | none => if st = .setup then (s.headChanged g st r).clearLanes g else s.headChanged g st r := rfl

theorem State.discardLine_bus (s : State) (g : Gate) (b : Bool) :
    (s.discardLine g b).bus = { s.bus with line := (s.discardLine g b).bus.line } := by
  unfold State.discardLine
  repeat' split
  all_goals rfl

theorem State.headChanged_bus (s : State) (g : Gate) (st : HeadState) (r : GateReason) : (s.headChanged g st r).bus =
    { s.bus with
      heads := s.bus.heads.set g (s.bus.heads[g].entered st r s.time.session)
      queue := s.bus.queue.filter (fun e => e.gate != g)
      line := ((s.dropEntries g).discardLine g false).bus.line } := by
  rw [State.headChanged, State.append_bus, State.modHead_bus, State.discardLine_bus]
  rfl

/-- Of the bus, a change of head state touches the head, its entries and the mark of its open transaction. -/
theorem State.enterHead_bus (s : State) (g : Gate) (st : HeadState) (r : GateReason) : (s.enterHead g st r).bus =
    { s.bus with
      heads := s.bus.heads.set g (s.bus.heads[g].inState st r s.time.session)
      queue := s.bus.queue.filter (fun e => e.gate != g) ++ (st.firstEntry.map (ServiceEntry.mk g)).toList
      line := ((s.dropEntries g).discardLine g false).bus.line } := by
  have cleared : (if st = .setup then (s.headChanged g st r).clearLanes g else s.headChanged g st r).bus =
      { (s.headChanged g st r).bus with
        heads := s.bus.heads.set g (s.bus.heads[g].inState st r s.time.session) } := by
    by_cases h : st = .setup
    · rw [if_pos h, State.clearLanes_bus, State.headChanged_bus, Head.inState, if_pos h]
      simp
    · rw [if_neg h, State.headChanged_bus, Head.inState_of_ne h]
  rw [State.enterHead_eq]
  cases st.firstEntry with
  | none =>
    dsimp only
    rw [cleared, State.headChanged_bus]
    simp
  | some k =>
    dsimp only
    rw [State.joinQueue_bus, cleared, State.headChanged_bus]
    rfl

theorem State.headChanged_onlyBus (s : State) (g : Gate) (st : HeadState) (r : GateReason) :
    s.onlyBus (s.headChanged g st r) :=
  .trans (s := s) (t := s.dropEntries g) rfl (.trans (State.discardLine_onlyBus _ g false) rfl)

theorem State.enterHead_onlyBus (s : State) (g : Gate) (st : HeadState) (r : GateReason) :
    s.onlyBus (s.enterHead g st r) := by
  have cleared : s.onlyBus (if st = .setup then (s.headChanged g st r).clearLanes g else s.headChanged g st r) :=
    .ite ((s.headChanged_onlyBus g st r).trans (State.clearLanes_onlyBus _ g)) (s.headChanged_onlyBus g st r)
  rw [State.enterHead_eq]
  cases st.firstEntry with
  | none => exact cleared
  | some k => exact cleared.trans rfl

/-- The GATE notice is the one notice of a change to any state but SETUP. -/
theorem State.enterHead_journal {g : Gate} {st : HeadState} (h : st ≠ .setup) (s : State) (r : GateReason) :
    (s.enterHead g st r).journal = s.journal.added s.raceMs (.gate g st r) := by
  unfold State.enterHead
  cases st <;>
    simp_all [HeadState.firstEntry, Journal.added, State.raceMs, State.raceClock, State.neutral]

@[simp] theorem State.enterHead_head (s : State) (g : Gate) (st : HeadState) (r : GateReason) :
    (s.enterHead g st r).bus.heads[g] = s.bus.heads[g].inState st r s.time.session := by
  simp [State.enterHead_bus]

theorem State.enterHead_other (s : State) {g k : Gate} (st : HeadState) (r : GateReason) (h : k ≠ g) :
    (s.enterHead g st r).bus.heads[k] = s.bus.heads[k] := by
  have hv : g.val ≠ k.val := fun e => h (Fin.ext e.symm)
  simp [State.enterHead_bus, hv]

/-- The first entry of a head state waits after the change. -/
theorem State.enterHead_busHas {g : Gate} {st : HeadState} {k : BusKind} (h : st.firstEntry = some k) (s : State)
    (r : GateReason) : (s.enterHead g st r).busHas g k = true :=
  State.busHas_of_mem (by simp [State.enterHead_bus, h])

/-- A head state without an entry leaves none of its head waiting. -/
theorem State.enterHead_no_entry {g : Gate} {st : HeadState} (h : st.firstEntry = none) (s : State) (r : GateReason) :
    ∀ e ∈ (s.enterHead g st r).bus.queue, e.gate ≠ g := by
  simp [State.enterHead_bus, h]

/-! ## Replies (R17 to R19, R30) -/

/-- The transaction of a head is done: the line is free and the failure count 0. -/
def State.replyTaken (s : State) (g : Gate) : State := s.freeLine.modHead g (fun h => { h with failures := 0 })

theorem State.busReply_taken {g : Gate} {k : BusKind} (h : s.onLine g k) {payload : List Byte} {r : BusReply}
    (hr : busReplyOf k payload = some r) (f : State → BusReply → State) :
    s.busReply g k payload f = (f (s.replyTaken g) r).busSettled := by
  obtain ⟨x, hx, hg, hk, hd⟩ := h
  simp only [State.busReply, hx, hg, hk, and_self, if_true, hr, hd, Bool.false_eq_true, if_false]
  rfl

@[simp] theorem State.replyTaken_bus (s : State) (g : Gate) : (s.replyTaken g).bus = { s.bus with
    line := none, heads := s.bus.heads.set g { s.bus.heads[g] with failures := 0 } } := rfl

@[simp] theorem State.replyTaken_head (s : State) (g : Gate) : (s.replyTaken g).bus.heads[g] =
    { s.bus.heads[g] with failures := 0 } := by simp

theorem State.replyTaken_other (s : State) {g k : Gate} (h : k ≠ g) :
    (s.replyTaken g).bus.heads[k] = s.bus.heads[k] := State.modHead_other _ g k _ h

@[simp] theorem State.replyTaken_time (s : State) (g : Gate) : (s.replyTaken g).time = s.time := rfl

@[simp] theorem State.replyTaken_journal (s : State) (g : Gate) : (s.replyTaken g).journal = s.journal := rfl

@[simp] theorem State.replyTaken_former (s : State) (g : Gate) : (s.replyTaken g).former = s.former := rfl
@[simp] theorem State.replyTaken_roster (s : State) (g : Gate) : (s.replyTaken g).roster = s.roster := rfl
@[simp] theorem State.replyTaken_course (s : State) (g : Gate) : (s.replyTaken g).course = s.course := rfl
@[simp] theorem State.replyTaken_race (s : State) (g : Gate) : (s.replyTaken g).race = s.race := rfl
@[simp] theorem State.replyTaken_pen (s : State) (g : Gate) : (s.replyTaken g).pen = s.pen := rfl
@[simp] theorem State.replyTaken_power (s : State) (g : Gate) : (s.replyTaken g).power = s.power := rfl
@[simp] theorem State.replyTaken_stand (s : State) (g : Gate) : (s.replyTaken g).stand = s.stand := rfl
@[simp] theorem State.replyTaken_portA (s : State) (g : Gate) : (s.replyTaken g).portA = s.portA := rfl
@[simp] theorem State.replyTaken_portB (s : State) (g : Gate) : (s.replyTaken g).portB = s.portB := rfl
@[simp] theorem State.replyTaken_pending (s : State) (g : Gate) : (s.replyTaken g).pending = s.pending := rfl

@[simp] theorem State.replyTaken_raceMs (s : State) (g : Gate) : (s.replyTaken g).raceMs = s.raceMs := rfl

theorem State.replyTaken_onlyBus (s : State) (g : Gate) : s.onlyBus (s.replyTaken g) := rfl

end Sys2Proof.Machine
end

section
/-! PROOFS. Captures: strobe edges, lapses and BLANKs (O6, O7, O8), and what the Passage Former's work leaves alone of
heads and gates. -/

set_option Elab.async false

namespace Sys2Proof.Machine

open Sys2Proof

variable {s t u : State}

/-! ## The Passage Former's work on a head (R35, R38, R39) -/

/-- The counter objects a passage counts (R35). -/
def CounterObject.ofPassage (o : CounterObject) : Bool :=
  o == .anon || o == .suppressed || o == .strays || o == .orphans

/-- Detections of a gate taken: of the bus, the lanes and counters of the head change, and a counter of an object no
passage counts stands. -/
structure State.Senses (g : Gate) (s t : State) : Prop where
  bus : t.bus = { s.bus with heads := t.bus.heads }
  others : ∀ k : Gate, k ≠ g → t.bus.heads[k] = s.bus.heads[k]
  head : t.bus.heads[g] = { s.bus.heads[g] with
    lanes := t.bus.heads[g].lanes, counters := t.bus.heads[g].counters }
  selects : ∀ i : Fin 3, t.bus.heads[g].counters[i].select = s.bus.heads[g].counters[i].select
  counts : ∀ i : Fin 3, s.bus.heads[g].counters[i].select.ofPassage = false →
    t.bus.heads[g].counters[i].count = s.bus.heads[g].counters[i].count

/-- A passage of a gate carried: the captures of every gate stand too. -/
structure State.Carries (g : Gate) (s t : State) : Prop extends State.Senses g s t where
  gates : t.time.gates = s.time.gates

namespace State.Senses

variable {g : Gate}

theorem of_bus (h : t.bus = s.bus) : State.Senses g s t := by
  constructor <;> simp [h]

theorem trans (h : State.Senses g s t) (k : State.Senses g t u) : State.Senses g s u where
  bus := by rw [k.bus, h.bus]
  others := fun j hj => (k.others j hj).trans (h.others j hj)
  head := by rw [k.head, h.head]
  selects := fun i => (k.selects i).trans (h.selects i)
  counts := fun i hi => (k.counts i (by rw [h.selects i]; exact hi)).trans (h.counts i hi)

theorem foldl {β : Type} {f : State → β → State} (h : ∀ a b, State.Senses g a (f a b)) (l : List β) (s : State) :
    State.Senses g s (l.foldl f s) := by
  induction l generalizing s with
  | nil => exact of_bus rfl
  | cons b l ih => exact (h s b).trans (ih _)

end State.Senses

namespace State.Carries

variable {g : Gate}

theorem of_bus (h : t.bus = s.bus) (hg : t.time.gates = s.time.gates := by rfl) : State.Carries g s t :=
  ⟨.of_bus h, hg⟩

theorem refl (s : State) : State.Carries g s s := of_bus rfl

theorem trans (h : State.Carries g s t) (k : State.Carries g t u) : State.Carries g s u :=
  ⟨h.toSenses.trans k.toSenses, k.gates.trans h.gates⟩

theorem after (k : State.Carries g t u) (h : State.Carries g s t) : State.Carries g s u := h.trans k

theorem ite {p : Prop} [Decidable p] (h : State.Carries g s t) (k : State.Carries g s u) :
    State.Carries g s (if p then t else u) := by
  split
  · exact h
  · exact k

theorem countObj (s : State) {o : CounterObject} (ho : o.ofPassage = true) : State.Carries g s (s.countObj g o) where
  bus := rfl
  others := fun k hk => s.countBy_other o 1 hk
  head := by
    rw [State.countObj, State.countBy_head]
  gates := rfl
  selects := fun i => by rw [s.countObj_counter]
  counts := fun i hi => by
    rw [s.countObj_counter]
    have : s.bus.heads[g].counters[i].select ≠ o := fun e => by rw [e, ho] at hi; cases hi
    rw [if_neg this]
    exact BitVec.add_zero _

theorem modLane (s : State) (l : Lane) (f : LaneSensor → LaneSensor) : State.Carries g s (s.modLane g l f) where
  bus := rfl
  others := fun k hk => s.modHead_other g k _ hk
  head := by
    rw [State.modLane, State.modHead_self]
  selects := fun i => by rw [State.modLane, State.modHead_self]
  counts := fun i _ => by rw [State.modLane, State.modHead_self]
  gates := rfl

theorem senseLane (s : State) (d : Detection) : State.Carries g s (s.senseLane g d) := by
  have lane (f : LaneSensor → LaneSensor) : State.Carries g s (s.modLane g d.lane f) := modLane s d.lane f
  have noticed (f : LaneSensor → LaneSensor) (n : Notice) := (lane f).trans (of_bus (State.append_bus _ n))
  exact .ite (.ite (noticed _ _) (lane _)) (.ite (.ite (noticed _ _) (lane _)) (lane _))

theorem tallyPassage (s : State) (f : PassageTallies → PassageTallies) : State.Carries g s (s.tallyPassage f) :=
  of_bus rfl

theorem strayRead (s : State) (c : Code) (l : Option Lane) (r : StrayReason) :
    State.Carries g s (s.strayRead g c l r) := by
  have counted : State.Carries g s (s.countObj g .strays) := countObj s rfl
  exact .ite counted (counted.trans (of_bus rfl))

theorem checkLane (s : State) (l : Lane) : State.Carries g s (s.checkLane g l).1 := by
  unfold State.checkLane
  split
  · exact of_bus rfl
  · exact refl s

theorem handOver (s : State) (x : Car) (p : Passage) : State.Carries g s (s.handOver g x p) :=
  .ite ((countObj s rfl).trans (of_bus rfl)) (of_bus (s.processPassage_bus p) (s.processPassage_gates p))

theorem codedOf (s : State) (x : Car) (l : Option Lane) (c : Capture) (b : Bool) :
    State.Carries g s (s.codedOf g x l c b) := by
  unfold State.codedOf
  split
  · exact handOver s x _
  · exact of_bus (by simp [State.tallyNoPoint]) (by simp [State.tallyNoPoint])

theorem knownCar (s : State) (x : Car) (l : Option Lane) (c : Capture) (b : Bool) :
    State.Carries g s (s.knownCar g x l c b) := by
  have quiet : State.Carries g s (s.setLastSeen x.code c.time).tallyQuiet := of_bus (by simp [State.tallyQuiet])
    (by simp [State.tallyQuiet])
  have raced : State.Carries g s (if s.mayTake x then s.codedOf g x l c b else
      ((s.setLastSeen x.code c.time).tallyPassage (fun t => { t with unentered := t.unentered + 1 })).strayRead g
        x.code l .unentered) :=
    .ite (codedOf s x l c b) ((of_bus (by simp) (by simp)).trans (strayRead _ _ _ _))
  unfold State.knownCar
  split
  exacts [quiet, quiet, quiet, raced]

theorem learn (s : State) (c : Code) (w : Time) : State.Carries g s (s.learn c w).1 := by
  unfold State.learn
  split <;> exact of_bus rfl

theorem codedPassage (s : State) (c : Code) (l : Option Lane) (q : Capture) (b : Bool) :
    State.Carries g s (s.codedPassage g c l q b) := by
  unfold State.codedPassage
  split
  · exact knownCar s _ _ _ _
  · split
    · have learned : State.Carries g s (s.learn c q.time).1 := learn s c q.time
      split <;> rename_i a h <;> rw [h] at learned
      · exact learned.trans (codedOf _ _ _ _ _)
      · exact learned.trans (strayRead _ _ _ _)
    · exact strayRead s _ _ _

theorem makeUnattrRoom (s : State) : State.Carries g s s.makeUnattrRoom := by
  unfold State.makeUnattrRoom
  repeat' split
  all_goals exact of_bus rfl

theorem joinUnattr (s : State) (q : Nat) (l : Option Lane) (c : Capture) (o : UnattrOrigin) :
    State.Carries g s (s.joinUnattr g q l c o) :=
  (makeUnattrRoom s).trans (of_bus rfl)

theorem anonPassage (s : State) (l : Option Lane) (c : Capture) (o : UnattrOrigin) :
    State.Carries g s (s.anonPassage g l c o) := by
  have predicted (q : Nat) : State.Carries g s (s.predict g q l c o) := by
    unfold State.predict
    split
    · exact .after (handOver _ _ _) (tallyPassage s _)
    · exact joinUnattr s q l c o
  unfold State.anonPassage
  split
  · exact tallyPassage s _
  · rename_i q _
    have quiet : State.Carries g s s.tallyQuiet := tallyPassage s _
    split
    exacts [quiet, quiet, quiet, quiet, predicted q, predicted q, predicted q, predicted q, predicted q]

theorem anonDetection (s : State) (d : Detection) (c : Capture) (b : Bool) :
    State.Carries g s (s.anonDetection g d c b) := by
  have counted : State.Carries g s (s.countObj g .anon) := countObj s rfl
  have suppressed (f : PassageTallies → PassageTallies) :
      State.Carries g s (((s.countObj g .anon).countObj g .suppressed).tallyPassage f) :=
    counted.trans ((countObj _ rfl).trans (tallyPassage _ f))
  exact .ite (suppressed _) (.ite (suppressed _) (counted.trans ((checkLane _ _).trans (anonPassage _ _ _ _))))

theorem classify (s : State) (d : Detection) (c : Capture) (b : Bool) : State.Carries g s (s.classify g d c b) :=
  .ite (anonDetection s d c b)
    (.ite ((checkLane s d.lane).trans (codedPassage _ _ _ _ _)) (strayRead s _ _ _))

end State.Carries

/-! ## Claims (R13) -/

theorem State.claim_bus (s : State) (g : Gate) : (s.claim g).1.bus = s.bus := by
  unfold State.claim
  dsimp only
  repeat' split
  all_goals rfl

/-- A claim takes the oldest capture of the stack. -/
theorem State.claim_stack (s : State) (g : Gate) :
    (s.claim g).1.time.gates[g].stack = s.time.gates[g].stack.tail := by
  unfold State.claim
  dsimp only
  split
  · rename_i h
    rw [State.modGate_self, h]
    rfl
  · rename_i h
    repeat' split
    all_goals rw [h]; rfl

theorem State.claim_other (s : State) {g k : Gate} (h : k ≠ g) : (s.claim g).1.time.gates[k] = s.time.gates[k] := by
  unfold State.claim
  dsimp only
  split
  · exact s.modGate_other _ h
  · repeat' split
    all_goals rfl

/-- A detection, once it has its capture or none, is carried: what is left of the bus and the captures. -/
theorem State.takeDetection_carries (s : State) (g : Gate) (d : Detection) :
    State.Carries g ((s.senseLane g d).claim g).1 (s.takeDetection g d) := by
  unfold State.takeDetection
  dsimp only
  split <;> rename_i h <;> rw [h]
  · exact .classify _ _ _ _
  · exact (State.Carries.countObj _ rfl).trans (.tallyPassage _ _)

theorem State.Senses.takeDetection (s : State) (g : Gate) (d : Detection) : State.Senses g s (s.takeDetection g d) :=
  (State.Carries.senseLane s d).toSenses.trans
    ((State.Senses.of_bus (State.claim_bus _ g)).trans (s.takeDetection_carries g d).toSenses)

theorem State.takeDetection_stack (s : State) (g : Gate) (d : Detection) :
    (s.takeDetection g d).time.gates[g].stack = s.time.gates[g].stack.tail := by
  rw [(s.takeDetection_carries g d).gates, State.claim_stack,
    (State.Carries.senseLane (g := g) s d).gates]

theorem State.takeDetection_other (s : State) {g k : Gate} (d : Detection) (h : k ≠ g) :
    (s.takeDetection g d).time.gates[k] = s.time.gates[k] := by
  rw [(s.takeDetection_carries g d).gates, State.claim_other _ h, (State.Carries.senseLane (g := g) s d).gates]

/-- Detections one after the other claim captures one after the other. -/
theorem State.takeDetections_stack (g : Gate) (l : List Detection) (s : State) :
    (l.foldl (fun a d => a.takeDetection g d) s).time.gates[g].stack = s.time.gates[g].stack.drop l.length := by
  induction l generalizing s with
  | nil => simp
  | cons d l ih => rw [List.foldl_cons, ih, s.takeDetection_stack, List.length_cons, List.drop_tail]

theorem State.takeDetections_other {g k : Gate} (h : k ≠ g) (l : List Detection) (s : State) :
    (l.foldl (fun a d => a.takeDetection g d) s).time.gates[k] = s.time.gates[k] := by
  induction l generalizing s with
  | nil => rfl
  | cons d l ih => rw [List.foldl_cons, ih, s.takeDetection_other d h]

/-! ## The guard interval (R11) -/

theorem mergeNewest_dropLast (l : List Capture) : (mergeNewest l).dropLast = l.dropLast := by
  induction l with
  | nil => rfl
  | cons c l ih =>
    cases l with
    | nil => rfl
    | cons d l =>
      have hne : mergeNewest (d :: l) ≠ [] := by cases l <;> simp [mergeNewest]
      rw [mergeNewest, List.dropLast_cons_of_ne_nil hne, ih]
      rfl

theorem mergeNewest_getLast? (l : List Capture) : (mergeNewest l).getLast? = l.getLast?.map Capture.merged1 := by
  induction l with
  | nil => rfl
  | cons c l ih =>
    cases l with
    | nil => rfl
    | cons d l =>
      have hne : mergeNewest (d :: l) ≠ [] := by cases l <;> simp [mergeNewest]
      rw [mergeNewest, List.getLast?_cons_of_ne_nil hne, ih, List.getLast?_cons_cons]

theorem GateCapture.mergeEdge_stack (q : GateCapture) : q.mergeEdge.stack = mergeNewest q.stack := by
  unfold GateCapture.mergeEdge
  split <;> rename_i h
  · simp [h, mergeNewest]
  · simp [h]

theorem GateCapture.mergeEdge_last (q : GateCapture) :
    q.mergeEdge.last = if q.stack = [] then q.last.map Capture.merged1 else q.last := by
  unfold GateCapture.mergeEdge
  split <;> rename_i h <;> simp [h]

theorem GateCapture.mergeEdge_guardRef (q : GateCapture) : q.mergeEdge.guardRef = q.guardRef := by
  unfold GateCapture.mergeEdge
  split <;> rfl

/-- An edge with no reference, or one the guard interval after it has passed, is not merged. -/
theorem GateCapture.guarded_of_passed {q : GateCapture} {now : Time}
    (h : ∀ r, q.guardRef = some r → q.guardUnits * 10 ≤ (now - r).toNat) : q.guarded now = false := by
  unfold GateCapture.guarded
  split
  · rename_i r hr
    exact decide_eq_false (Nat.not_lt.mpr (h r hr))
  · rfl

theorem GateCapture.guarded_of_within {q : GateCapture} {now r : Time} (hr : q.guardRef = some r)
    (h : (now - r).toNat < q.guardUnits * 10) : q.guarded now = true := by
  simp only [GateCapture.guarded, hr, GateCapture.guardLen, guardTicks, h, decide_true]

/-! ## Edges by what the guard interval and the stack make of them (R10 to R12) -/

theorem State.offerEdge_merged {g : Gate} (h : s.time.gates[g].guarded s.time.session = true) :
    s.offerEdge g = (((s.countObj g .strobes).modGate g GateCapture.mergeEdge).countObj g .merged) := by
  simp only [State.offerEdge]
  exact if_pos h

theorem State.offerEdge_accepted {g : Gate} (h : s.time.gates[g].guarded s.time.session = false)
    (hl : s.time.gates[g].stack.length < 4) : s.offerEdge g =
    (((s.countObj g .strobes).modGate g (fun q => { q with
      stack := q.stack ++ [⟨s.time.session, s.neutral, s.phaseTag, 0⟩], guardRef := some s.time.session })).modHead g
        (fun h => { h with fetchPending := true })) := by
  simp only [State.offerEdge]
  exact (if_neg (Bool.eq_false_iff.mp h)).trans (if_pos hl)

theorem State.offerEdge_lost {g : Gate} (h : s.time.gates[g].guarded s.time.session = false)
    (hl : 4 ≤ s.time.gates[g].stack.length) :
    s.offerEdge g = (s.countObj g .strobes).countObj g .overflows := by
  simp only [State.offerEdge]
  exact (if_neg (Bool.eq_false_iff.mp h)).trans (if_neg (Nat.not_lt.mpr hl))

/-- A counter selects one object: it gains 1 for either of two. -/
theorem gain_of_either {a o p : CounterObject} (h : o ≠ p) :
    ((if a = o then 1 else 0 : BitVec 32) + (if a = p then 1 else 0)) = if a = o ∨ a = p then 1 else 0 := by
  by_cases ho : a = o
  · subst ho
    simp [h]
  · simp [ho]

/-- An edge that is taken at a READY head. -/
theorem exec_strobeEdge_ready {g : Gate} (he : s.time.edges.getLsbD g.val = true)
    (hs : s.bus.heads[g].state = .ready) (hu : s.usesGate g = true ∨ s.race.state = .practice) :
    exec (.strobeEdge g) s = .next ((s.dropEdge g).offerEdge g).busSettled := by
  have used : ((s.dropEdge g).usesGate g || decide ((s.dropEdge g).race.state = .practice)) = true := by
    rcases hu with hu | hu
    · exact Bool.or_eq_true_iff.mpr (.inl hu)
    · exact Bool.or_eq_true_iff.mpr (.inr (decide_eq_true hu))
  have state : (s.dropEdge g).bus.heads[g].state = .ready := hs
  simp only [exec, execStrobeEdge, he, if_true, State.takeEdge, state, used]

end Sys2Proof.Machine

open Sys2Proof Sys2Proof.Machine

/-- Settles O6. -/
theorem strobeEdges : Obligations.StrobeEdges := by
  refine ⟨fun g s he hs hu hg hl => ?_, fun g s r he hs hu hr hl => ?_, fun g s he hs hu hg hl => ?_,
    fun g s he hs => ?_, fun g s he hs => ?_⟩
  · refine ⟨_, exec_strobeEdge_ready he hs hu, ?_⟩
    rw [State.offerEdge_accepted (s := s.dropEdge g) (GateCapture.guarded_of_passed hg) hl]
    refine ⟨?_, ?_, fun i => ?_, fun k hk => ⟨?_, ?_⟩, ?_⟩
    · rw [State.busSettled_time, State.modHead_time, State.modGate_self]
      rfl
    · rw [State.busSettled_heads, State.modHead_self]
    · rw [State.busSettled_heads, State.modHead_self, State.modGate_bus]
      exact congrArg HeadCounter.count (State.countObj_counter (s.dropEdge g) g .strobes i)
    · rw [State.busSettled_time, State.modHead_time, State.modGate_other _ _ hk]
      rfl
    · rw [State.busSettled_heads, State.modHead_other _ g k _ hk, State.modGate_bus]
      exact State.countBy_other _ _ _ hk
    · rw [State.busSettled_frame]
      rfl
  · refine ⟨_, exec_strobeEdge_ready he hs hu, ?_⟩
    rw [State.offerEdge_merged (s := s.dropEdge g) (GateCapture.guarded_of_within hr hl)]
    have gate : ((((s.dropEdge g).countObj g .strobes).modGate g GateCapture.mergeEdge).countObj g
        .merged).busSettled.time.gates[g] = s.time.gates[g].mergeEdge := by
      rw [State.busSettled_time]
      exact State.modGate_self ((s.dropEdge g).countObj g .strobes) g _
    refine ⟨?_, ?_, ?_, ?_, fun k hk => ⟨?_, ?_⟩, ?_, fun i => ?_⟩
    · rw [gate, GateCapture.mergeEdge_guardRef, hr]
    · rw [gate, GateCapture.mergeEdge_stack, mergeNewest_dropLast]
    · rw [gate, GateCapture.mergeEdge_stack, mergeNewest_getLast?]
      rfl
    · rw [gate, GateCapture.mergeEdge_last]
      rfl
    · rw [State.busSettled_time]
      exact State.modGate_other ((s.dropEdge g).countObj g .strobes) _ hk
    · rw [State.busSettled_heads]
      exact (State.countBy_other _ _ _ hk).trans (State.countBy_other (s.dropEdge g) _ _ hk)
    · rw [State.busSettled_heads, State.countObj, State.countBy_head, State.modGate_bus, State.countObj,
        State.countBy_head]
      rfl
    · rw [State.busSettled_heads, State.countObj_counter, State.modGate_bus, State.countObj_counter,
        BitVec.add_assoc, gain_of_either (by decide)]
      rfl
  · refine ⟨_, exec_strobeEdge_ready he hs hu, ?_⟩
    rw [State.offerEdge_lost (s := s.dropEdge g) (GateCapture.guarded_of_passed hg) hl]
    refine ⟨?_, ?_, fun i => ?_⟩
    · rw [State.busSettled_time]
      rfl
    · rw [State.busSettled_heads, State.countObj, State.countBy_head, State.countObj, State.countBy_head]
      rfl
    · rw [State.busSettled_heads, State.countObj_counter, State.countObj_counter,
        BitVec.add_assoc, gain_of_either (by decide)]
      rfl
  · have taken : exec (.strobeEdge g) s = .next ((s.dropEdge g).countObj g .strobes) := by
      have state : (s.dropEdge g).bus.heads[g].state = .settling ∨ (s.dropEdge g).bus.heads[g].state = .pattern := hs
      rcases state with state | state <;> simp only [exec, execStrobeEdge, he, if_true, State.takeEdge, state]
    refine ⟨_, taken, fun i => (s.dropEdge g).countObj_counter g .strobes i, ?_⟩
    exact State.countObj_frame (s.dropEdge g) g .strobes
  · refine ⟨s.dropEdge g, ?_, rfl⟩
    have drop : (s.dropEdge g).bus = s.bus ∧ (s.dropEdge g).race = s.race ∧
        (s.dropEdge g).usesGate g = s.usesGate g := ⟨rfl, rfl, rfl⟩
    rcases hs with hs | hs | hs | hs | ⟨hs, hu, hp⟩ <;>
      simp only [exec, execStrobeEdge, he, if_true, State.takeEdge, drop, hs]
    simp [hu, hp]

/-- Settles O7. -/
theorem lapses : Obligations.Lapses := by
  refine ⟨fun g s r hr hl => ?_, fun g s c hc hl => ?_, fun g l s w hw hl => ?_, fun s m hm hl => ?_,
    fun s id r hr hl => ?_⟩
  · simp only [exec, execGuardReferenceLapse, hr, GateCapture.guardLen, guardTicks, hl, if_true]
    rfl
  · have aged : s.aged c = true := decide_eq_true hl
    simp only [exec, execLastCaptureLapse, hc, aged, if_true]
    rfl
  · have due : timerDue s.bus.heads[g].lanes[l].quiet s.time.session = true := by
      rw [hw]
      exact Timer.due_of_reached hl
    simp only [exec, execQuietDeadline, due, if_true]
    rfl
  · simp only [exec, execStrayMemoryLapse, hm, Timer.due_of_reached hl, if_true]
  · obtain rfl := State.unattr_id hr
    have ho : exec (.unattributedExpiry r.id) s = .next ((s.dropUnattr r .expired 0).tallyPassage
        (fun t => { t with expired := t.expired + 1 })).transmit := by
      simp only [exec, execUnattributedExpiry, hr, Timer.due_of_reached hl, if_true]
    exact ⟨_, ho, rfl, rfl, rfl⟩

/-- Settles O8. -/
theorem blankReleased : Obligations.BlankReleased := by
  intro g s c rest hs hl
  have aged : s.aged c = true := decide_eq_true hl
  have ho : exec (.pairingLimit g) s = .next (s.releaseBlank g c rest).transmit := by
    simp only [exec, execPairingLimit, hs, aged, if_true]
  have blank := (s.modGate g (fun q => { q with stack := rest, last := none })).countObj_counter g .blanks
  have carried := State.Carries.anonPassage (g := g)
    ((s.modGate g (fun q => { q with stack := rest, last := none })).countObj g .blanks) none c .blank
  refine ⟨_, _, ho, ?_, blank, rfl, fun i hi => ?_, ?_, fun k hk => ?_, ?_⟩
  · exact State.countObj_frame (s.modGate g (fun q => { q with stack := rest, last := none })) g .blanks
  · have select := congrArg HeadCounter.select (blank i)
    have count := congrArg HeadCounter.count (blank i)
    rw [State.transmit_bus]
    refine (carried.counts i ?_).trans (count.trans ?_)
    · rw [select, State.modGate_bus, hi]
      rfl
    · rw [State.modGate_bus, if_pos hi]
  · rw [State.transmit_time]
    refine (congrArg (fun v : Vector GateCapture 12 => v[g]) carried.gates).trans ?_
    exact State.modGate_self s g (fun q => { q with stack := rest, last := none })
  · rw [State.transmit_time]
    refine (congrArg (fun v : Vector GateCapture 12 => v[k]) carried.gates).trans ?_
    exact State.modGate_other s (fun q => { q with stack := rest, last := none }) hk
  · rw [State.transmit_bus]
    refine (congrArg Head.fetchPending carried.head).trans ?_
    rw [State.countObj, State.countBy_head]
    rfl
end

section
/-! PROOFS. The gate bus: the arbiter, the replies of a head and its timers (O10, O11, O12, O14). -/

set_option Elab.async false

namespace Sys2Proof.Machine

open Sys2Proof

variable {s t u : State}

/-! ## The arbiter's search (R32) -/

/-- The place of a gate in the search that starts after the pointer. -/
theorem gatesAfter_getElem (p g : Gate) : ∃ h : (g.val + 11 - p.val) % 12 < (gatesAfter p).length,
    (gatesAfter p)[(g.val + 11 - p.val) % 12] = g := by
  revert p g
  decide

/-- A gate's place in the search is where it stands. -/
theorem gatesAfter_place (p : Gate) (i : Nat) (h : i < (gatesAfter p).length) :
    ((gatesAfter p)[i].val + 11 - p.val) % 12 = i := by
  simp only [gatesAfter, List.length_map, List.length_range] at h
  simp only [gatesAfter, List.getElem_map, List.getElem_range]
  omega

/-- The next fetch gate is the first one of the fetch class in that order. -/
theorem State.nextFetch_eq_some {g : Gate} (hg : s.inFetchClass g = true)
    (hj : ∀ j : Gate, (j.val + 11 - s.bus.pointer.val) % 12 < (g.val + 11 - s.bus.pointer.val) % 12 →
      s.inFetchClass j = false) : s.nextFetch = some g := by
  obtain ⟨hlt, hget⟩ := gatesAfter_getElem s.bus.pointer g
  refine List.find?_eq_some_iff_getElem.mpr ⟨hg, _, hlt, hget, fun j hlt' => ?_⟩
  rw [hj _ (by rw [gatesAfter_place]; exact hlt')]
  rfl

theorem State.nextFetch_eq_none (h : ∀ j : Gate, s.inFetchClass j = false) : s.nextFetch = none :=
  List.find?_eq_none.mpr (fun j _ => by simp [h j])

/-! ## A PROBE reply (R22, R28) -/

/-- The lanes of a mask, counted. -/
theorem laneCountOf_eq (mask : BitVec 7) : laneCountOf mask = (List.range 7).countP (fun i => mask.getLsbD i) := rfl

/-- A valid PROBE reply. -/
theorem busReplyOf_probe {n : Nat} (h2 : 2 ≤ n) (h7 : n ≤ 7) :
    busReplyOf .probe [0, BitVec.ofNat 8 n] = some (.sensors n) := by
  have hn : (BitVec.ofNat 8 n).toNat = n := by
    rw [BitVec.toNat_ofNat]
    omega
  simp [busReplyOf, hn, h2, h7]

/-- What a PROBE reply does to the machine: the sensor count is kept, and the head enters SETUP, enters FAULT, or
stays. -/
theorem State.probeDone_sensors (g : Gate) (s : State) (n : Nat)
    (hs : s.bus.heads[g].state = .probing ∨ s.bus.heads[g].state = .fault) :
    State.probeDone g s (.sensors n) =
      if laneCountOf s.bus.heads[g].mask ≤ n then
        (s.modHead g (fun h => { h with sensors := some n })).enterHead g .setup
          (if s.bus.heads[g].state = .probing then .probed else .recovered)
      else if s.bus.heads[g].state = .probing then
        (s.modHead g (fun h => { h with sensors := some n })).enterHead g .fault .capacity
      else s.modHead g (fun h => { h with sensors := some n }) := by
  rcases hs with hs | hs <;> simp only [State.probeDone, hs] <;> rfl

/-! ## Setup writes (R23) -/

theorem State.writeRejected_eq (s : State) (g : Gate) : s.writeRejected g =
    if s.bus.heads[g].rejects < 2 then
      (s.modHead g (fun h => { h with rejects := s.bus.heads[g].rejects + 1 })).joinQueue g .setLanes
    else (s.modHead g (fun h => { h with rejects := 3 })).enterHead g .fault .rejected := by
  unfold State.writeRejected
  dsimp only
  by_cases h : s.bus.heads[g].rejects < 2
  · have n : min 3 (s.bus.heads[g].rejects + 1) = s.bus.heads[g].rejects + 1 := by omega
    rw [if_pos h, n, if_neg (by omega)]
  · have n : min 3 (s.bus.heads[g].rejects + 1) = 3 := by omega
    rw [if_neg h, n, if_pos rfl]

/-- A write rejected: the REJECT rule is what follows it, whichever write it was. -/
theorem exec_writeRejected {g : Gate} {c : Instr} {k : BusKind} (h : (c, k) ∈ [(Instr.setLanes g [1],
    BusKind.setLanes), (.setThreshold g [1], .setThreshold), (.enable g [1], .enable)]) (hl : s.onLine g k) :
    exec c s = .next ((s.replyTaken g).writeRejected g).busSettled := by
  have rejected (f : State → State) (k : BusKind) (hk : busReplyOf k [1] = some .reject) (hl : s.onLine g k) :
      s.busReply g k [1] (State.writeDone g f) = ((s.replyTaken g).writeRejected g).busSettled :=
    State.busReply_taken hl hk _
  simp only [List.mem_cons, Prod.mk.injEq, List.not_mem_nil, or_false] at h
  rcases h with ⟨rfl, rfl⟩ | ⟨rfl, rfl⟩ | ⟨rfl, rfl⟩ <;> exact congrArg Host.Outcome.next (rejected _ _ rfl hl)

/-! ## The next transaction -/

/-- A reply followed by the head's next transaction. -/
theorem State.replyTaken_joined (s : State) (g : Gate) (k : BusKind) :
    (((s.replyTaken g).joinQueue g k).busSettled).busHas g k = true ∧
      ((s.replyTaken g).joinQueue g k).busSettled.bus.heads
        = s.bus.heads.set g { s.bus.heads[g] with failures := 0 } ∧
      s.onlyBus ((s.replyTaken g).joinQueue g k).busSettled :=
  ⟨State.busSettled_busHas (State.joinQueue_busHas _ g k), State.busSettled_heads _,
    (s.replyTaken_onlyBus g).trans ((State.joinQueue_onlyBus _ g k).trans (State.busSettled_onlyBus _))⟩

end Sys2Proof.Machine

open Sys2Proof Sys2Proof.Machine

/-- Settles O14. -/
theorem arbiter : Obligations.Arbiter := by
  refine fun s hl => ⟨fun g hg hj hq => ?_, fun e rest hq hj => ?_, fun hq hj => ?_⟩
  · have next := State.nextFetch_eq_some hg hj
    have choice : s.arbitrate = s.placeFetch g := by
      cases hqueue : s.bus.queue with
      | nil => simp only [State.arbitrate, hl, next, hqueue]
      | cons e rest =>
        have run : s.bus.runCount < 4 := hq.resolve_left (by simp [hqueue])
        simp only [State.arbitrate, hl, next, hqueue, run, if_true]
    rw [choice]
    rfl
  · have choice : s.arbitrate = s.placeService e rest := by
      cases hnext : s.nextFetch with
      | none => simp only [State.arbitrate, hl, hnext, hq]
      | some g =>
        have run : ¬ s.bus.runCount < 4 := by
          rcases hj with hj | hj
          · rw [State.nextFetch_eq_none hj] at hnext
            cases hnext
          · omega
        simp only [State.arbitrate, hl, hnext, hq, run, if_false]
    rw [choice]
    rfl
  · simp only [State.arbitrate, hl, State.nextFetch_eq_none hj, hq]

/-- Settles O10. -/
theorem headBringUp : Obligations.HeadBringUp := by
  refine ⟨fun g s n hl h2 h7 hs => ?_, fun g s hl => ?_, fun g s hl => ?_, fun g s hl => ?_,
    fun g s c k hck hl => ?_⟩
  · have ho : exec (.probe g [0, BitVec.ofNat 8 n]) s =
        .next (State.probeDone g (s.replyTaken g) (.sensors n)).busSettled :=
      congrArg Host.Outcome.next (State.busReply_taken hl (busReplyOf_probe h2 h7) _)
    have sensed : ((s.replyTaken g).modHead g (fun h => { h with sensors := some n })).bus.heads[g] =
        { s.bus.heads[g] with failures := 0, sensors := some n } := by
      rw [State.modHead_self, State.replyTaken_head]
    have others (k : Gate) (hk : k ≠ g) : ((s.replyTaken g).modHead g (fun h => { h with
        sensors := some n })).bus.heads[k] = s.bus.heads[k] :=
      (State.modHead_other _ g k _ hk).trans (s.replyTaken_other hk)
    have only : s.onlyBus ((s.replyTaken g).modHead g (fun h => { h with sensors := some n })) := rfl
    have state : (s.replyTaken g).bus.heads[g].state = s.bus.heads[g].state := by rw [State.replyTaken_head]
    have mask : (s.replyTaken g).bus.heads[g].mask = s.bus.heads[g].mask := by rw [State.replyTaken_head]
    rw [State.probeDone_sensors g _ n (by rw [state]; exact hs), state, mask, laneCountOf_eq] at ho
    by_cases hm : (List.range 7).countP (fun i => s.bus.heads[g].mask.getLsbD i) ≤ n
    · rw [if_pos hm] at ho
      simp only [if_pos hm]
      refine ⟨_, ho, ?_, ?_, fun k hk => ?_, ?_, ?_⟩
      · rw [State.busSettled_heads, State.enterHead_head, sensed]; rfl
      · rw [State.busSettled_heads, State.enterHead_head, sensed]; rfl
      · rw [State.busSettled_heads, State.enterHead_other _ _ _ hk, others k hk]
      · exact only.trans ((State.enterHead_onlyBus _ _ _ _).trans (State.busSettled_onlyBus _))
      · refine ⟨?_, State.busSettled_busHas (State.enterHead_busHas rfl _ _), ?_, ?_, fun l => ?_⟩
        · rw [State.busSettled_heads, State.enterHead_head]; rfl
        · rw [State.busSettled_heads, State.enterHead_head]; rfl
        · rw [State.busSettled_heads, State.enterHead_head]
          split <;> rfl
        · rw [State.busSettled_heads, State.enterHead_head]
          exact Vector.getElem_replicate _
    · rw [if_neg hm] at ho
      simp only [if_neg hm]
      by_cases hp : s.bus.heads[g].state = .probing
      · rw [if_pos hp] at ho
        refine ⟨_, ho, ?_, ?_, fun k hk => ?_, ?_, ?_, fun _ => ?_⟩
        · rw [State.busSettled_heads, State.enterHead_head, sensed]; rfl
        · rw [State.busSettled_heads, State.enterHead_head, sensed]; rfl
        · rw [State.busSettled_heads, State.enterHead_other _ _ _ hk, others k hk]
        · exact only.trans ((State.enterHead_onlyBus _ _ _ _).trans (State.busSettled_onlyBus _))
        · rw [State.busSettled_heads, State.enterHead_head]; rfl
        · rw [State.busSettled_heads, State.enterHead_head]; rfl
      · rw [if_neg hp] at ho
        refine ⟨_, ho, ?_, ?_, fun k hk => ?_, only.trans (State.busSettled_onlyBus _), ?_, fun h => absurd h hp⟩
        · rw [State.busSettled_heads, sensed]
        · rw [State.busSettled_heads, sensed]
        · rw [State.busSettled_heads, others k hk]
        · rw [State.busSettled_heads, sensed]
          exact hs.resolve_left hp
  · exact ⟨((s.replyTaken g).joinQueue g .setThreshold).busSettled,
      congrArg Host.Outcome.next (State.busReply_taken hl (r := .ack) rfl _), s.replyTaken_joined g .setThreshold⟩
  · exact ⟨((s.replyTaken g).joinQueue g .enable).busSettled,
      congrArg Host.Outcome.next (State.busReply_taken hl (r := .ack) rfl _), s.replyTaken_joined g .enable⟩
  · refine ⟨((s.replyTaken g).enterHead g .settling .enabled).busSettled,
      congrArg Host.Outcome.next (State.busReply_taken hl (r := .ack) rfl _), ?_⟩
    have head : ((s.replyTaken g).enterHead g .settling .enabled).busSettled.bus.heads[g] =
        { s.bus.heads[g] with failures := 0 }.inState .settling .enabled s.time.session := by
      rw [State.busSettled_heads, State.enterHead_head, State.replyTaken_head, State.replyTaken_time]
    rw [head]
    refine ⟨rfl, rfl, rfl, rfl, rfl, rfl, ?_, fun k hk => ?_, ?_⟩
    · rw [State.busSettled_journal, State.enterHead_journal (by decide)]
      rfl
    · rw [State.busSettled_heads, State.enterHead_other _ _ _ hk, s.replyTaken_other hk]
    · exact (s.replyTaken_onlyBus g).trans ((State.enterHead_onlyBus _ _ _ _).trans (State.busSettled_onlyBus _))
  · have rejects : (s.replyTaken g).bus.heads[g].rejects = s.bus.heads[g].rejects := by rw [State.replyTaken_head]
    have ho := exec_writeRejected hck hl
    rw [State.writeRejected_eq, rejects] at ho
    by_cases hr : s.bus.heads[g].rejects < 2
    · rw [if_pos hr] at ho
      simp only [if_pos hr]
      refine ⟨_, ho, ?_, ?_, ?_, State.busSettled_busHas (State.joinQueue_busHas _ g _), ?_⟩
      · rw [State.busSettled_heads, State.joinQueue_bus, State.modHead_self, State.replyTaken_head]
      · exact (s.replyTaken_onlyBus g).trans (.trans (t := (s.replyTaken g).modHead g _) rfl
          ((State.joinQueue_onlyBus _ g _).trans (State.busSettled_onlyBus _)))
      · rw [State.busSettled_heads, State.joinQueue_bus, State.modHead_self]
      · rw [State.busSettled_heads, State.joinQueue_bus, State.modHead_self, State.replyTaken_head]
    · rw [if_neg hr] at ho
      simp only [if_neg hr]
      refine ⟨_, ho, ?_, ?_, ?_, ?_⟩
      · rw [State.busSettled_heads, State.enterHead_head, State.modHead_self, State.replyTaken_head]; rfl
      · exact (s.replyTaken_onlyBus g).trans (.trans (t := (s.replyTaken g).modHead g _) rfl
          ((State.enterHead_onlyBus _ g _ _).trans (State.busSettled_onlyBus _)))
      · rw [State.busSettled_heads, State.enterHead_head]; rfl
      · rw [State.busSettled_heads, State.enterHead_head]; rfl
end

section
/-! PROOFS. STATUS and FETCH replies, the timers of a head, and the gate check (O11, O12, O13). -/

set_option Elab.async false

namespace Sys2Proof.Machine

open Sys2Proof

variable {s t u : State}

/-- A head set up again: SETUP with reason HEAD_RESET and a SET_LANES waiting, whatever settles after it. -/
theorem State.headReset_settled (s : State) (g : Gate) :
    s.onlyBus (s.headReset g).busSettled ∧ (s.headReset g).busSettled.bus.heads[g].state = .setup ∧
      (s.headReset g).busSettled.bus.heads[g].reason = some .headReset ∧
      (s.headReset g).busSettled.busHas g .setLanes = true ∧
      (s.headReset g).busSettled.bus.heads[g].fetchPending = false ∧
      (s.headReset g).busSettled.bus.heads[g].poll = none := by
  refine ⟨(s.enterHead_onlyBus g _ _).trans (State.busSettled_onlyBus _), ?_, ?_,
    State.busSettled_busHas (State.enterHead_busHas rfl _ _), ?_, ?_⟩ <;>
    rw [State.busSettled_heads, State.headReset, State.enterHead_head] <;> rfl

/-- A head changed twice is changed once. -/
theorem heads_set_set (v : Vector Head 12) (g : Gate) (a b : Head) : (v.set g a).set g b = v.set g b :=
  Vector.set_set ..

/-- Heads that differ at one gate. -/
theorem heads_of_others {v w : Vector Head 12} {g : Gate} (h : ∀ k : Gate, k ≠ g → w[k] = v[k]) :
    w = v.set g w[g] := by
  refine Vector.ext (fun k hk => ?_)
  by_cases hg : g.val = k
  · subst hg
    simp
  · rw [Vector.getElem_set_ne _ _ hg]
    exact h ⟨k, hk⟩ (fun e => hg (congrArg Fin.val e).symm)

theorem replyTaken_statusKept (s : State) (g : Gate) (n : Nat) :
    ((s.replyTaken g).modHead g (fun h => { h with overflow := n })).bus.heads =
      s.bus.heads.set g { s.bus.heads[g] with failures := 0, overflow := n } := by
  rw [State.modHead_bus, State.replyTaken_head, State.replyTaken_bus]
  exact heads_set_set _ _ _ _

/-! ## A FETCH reply (R24, R26, R27, R35) -/

/-- Of the machine, the fetch-pending flag of the head may be cleared once a FETCH is handled. -/
theorem State.settleFlag_frame (s : State) (g : Gate) (n : Nat) : s.settleFlag g n = { s with
    bus.heads := s.bus.heads.set g { s.bus.heads[g] with
      fetchPending := if n < 4 ∧ s.time.gates[g].stack = [] then false else s.bus.heads[g].fetchPending } } := by
  unfold State.settleFlag
  by_cases h : n < 4 ∧ s.time.gates[g].stack = []
  · simp only [if_pos h]
    rfl
  · simp only [if_neg h]
    have : s.bus.heads.set g s.bus.heads[g] = s.bus.heads := Vector.set_getElem_self _
    exact State.ext_blocks (bus := by rw [this])

/-- The state a FETCH reply's detections are carried on: the head counted. -/
def State.fetchCounted (s : State) (g : Gate) (n o : Nat) : State :=
  ((s.replyTaken g).countBy g .fetched n).countBy g .overflows o

theorem State.fetchCounted_head (s : State) (g : Gate) (n o : Nat) : (s.fetchCounted g n o).bus.heads[g] =
    { s.bus.heads[g] with failures := 0, counters := (s.fetchCounted g n o).bus.heads[g].counters } := by
  rw [State.fetchCounted, State.countBy_head, State.countBy_head, State.replyTaken_head]

theorem State.fetchCounted_frame (s : State) (g : Gate) (n o : Nat) : s.fetchCounted g n o = { s with bus := { s.bus with
    line := none
    heads := s.bus.heads.set g { s.bus.heads[g] with
      failures := 0, counters := (s.fetchCounted g n o).bus.heads[g].counters } } } := by
  have heads : (s.fetchCounted g n o).bus.heads = s.bus.heads.set g (s.fetchCounted g n o).bus.heads[g] := by
    refine heads_of_others (fun k hk => ?_)
    rw [State.fetchCounted, State.countBy_other _ _ _ hk, State.countBy_other _ _ _ hk, State.replyTaken_other s hk]
  rw [← s.fetchCounted_head, ← heads]
  rfl

theorem State.settleFlag_head (s : State) (g : Gate) (n : Nat) : (s.settleFlag g n).bus.heads[g] =
    { s.bus.heads[g] with
      fetchPending := if n < 4 ∧ s.time.gates[g].stack = [] then false else s.bus.heads[g].fetchPending } := by
  rw [State.settleFlag_frame]
  exact Vector.getElem_set_self _

theorem State.fetchCounted_counter (s : State) (g : Gate) (n o : Nat) (i : Fin 3) :
    (s.fetchCounted g n o).bus.heads[g].counters[i] = ⟨s.bus.heads[g].counters[i].select,
      s.bus.heads[g].counters[i].count + (if s.bus.heads[g].counters[i].select = .fetched then BitVec.ofNat 32 n
        else if s.bus.heads[g].counters[i].select = .overflows then BitVec.ofNat 32 o else 0)⟩ := by
  rw [State.fetchCounted, State.countBy_counter, State.countBy_counter, State.replyTaken_head]
  by_cases h : s.bus.heads[g].counters[i].select = .fetched
  · simp only [h, if_true]
    simp
  · simp only [h, if_false]
    simp

end Sys2Proof.Machine

open Sys2Proof Sys2Proof.Machine

/-- Settles O11. -/
theorem statusAndTimers : Obligations.StatusAndTimers := by
  refine ⟨fun g s o hl => ?_, fun g s payload hl hp => ?_, fun g s w hw hd => ?_, fun g s w hw hd => ?_,
    fun g s w hw hd => ?_⟩
  · refine ⟨((s.replyTaken g).modHead g (fun h => { h with overflow := o.toNat })).busSettled,
      congrArg Host.Outcome.next (State.busReply_taken hl (r := .condition true o.toNat) rfl _),
      (s.replyTaken_onlyBus g).trans (.trans (t := (s.replyTaken g).modHead g _) rfl (State.busSettled_onlyBus _)), ?_⟩
    rw [State.busSettled_heads, replyTaken_statusKept]
  · have ho : exec (.status g payload) s = .next ((s.replyTaken g).headReset g).busSettled := by
      rcases hp with rfl | ⟨o, rfl⟩
      · exact congrArg Host.Outcome.next (State.busReply_taken hl (r := .reject) rfl _)
      · exact congrArg Host.Outcome.next (State.busReply_taken hl (r := .condition false o.toNat) rfl _)
    obtain ⟨only, state, reason, has, pending, poll⟩ := (s.replyTaken g).headReset_settled g
    exact ⟨_, ho, (s.replyTaken_onlyBus g).trans only, state, reason, has, pending, poll⟩
  · have due : timerDue s.bus.heads[g].settle s.time.session = true := by
      rw [hw]
      exact Timer.due_of_reached hd
    refine ⟨_, congrArg Host.Outcome.next (if_pos due),
      (s.enterHead_onlyBus g _ _).trans (State.busSettled_onlyBus _), ?_, ?_⟩
    · rw [State.busSettled_journal, State.enterHead_journal (by decide)]
    · rw [State.busSettled_heads, State.enterHead_bus, Head.inState_of_ne (by decide)]
      rfl
  · have due : timerDue s.bus.heads[g].poll s.time.session = true := by
      rw [hw]
      exact Timer.due_of_reached hd
    refine ⟨_, congrArg Host.Outcome.next (if_pos due), ?_, ?_, State.busSettled_busHas
      (State.joinPeriodic_busHas _ g _), ?_⟩
    · exact .trans (t := s.modHead g _) rfl ((State.joinPeriodic_onlyBus _ g _).trans (State.busSettled_onlyBus _))
    · rw [State.busSettled_journal, State.joinPeriodic_journal]
      rfl
    · rw [State.busSettled_heads, State.joinPeriodic_heads]
      rfl
  · have due : timerDue s.bus.heads[g].faultProbe s.time.session = true := by
      rw [hw]
      exact Timer.due_of_reached hd
    refine ⟨_, congrArg Host.Outcome.next (if_pos due), ?_, ?_, State.busSettled_busHas
      (State.joinPeriodic_busHas _ g _), ?_⟩
    · exact .trans (t := s.modHead g _) rfl ((State.joinPeriodic_onlyBus _ g _).trans (State.busSettled_onlyBus _))
    · rw [State.busSettled_journal, State.joinPeriodic_journal]
      rfl
    · rw [State.busSettled_heads, State.joinPeriodic_heads]
      rfl

/-- Settles O12. -/
theorem fetchReplies : Obligations.FetchReplies := by
  refine ⟨fun g s payload o dets hl hs hr => ?_, fun g s payload o dets hl hs hr => ?_, fun g s hl hs => ?_⟩
  · have state : (s.replyTaken g).bus.heads[g].state = .ready := by rw [State.replyTaken_head]; exact hs
    have done : State.fetchDone g (s.replyTaken g) (.detections o dets) = (dets.foldl (fun a d =>
        a.takeDetection g d) (s.fetchCounted g dets.length o)).settleFlag g dets.length := by
      simp only [State.fetchDone, state]
      rfl
    have ho : exec (.fetch g payload) s = .next ((dets.foldl (fun a d => a.takeDetection g d)
        (s.fetchCounted g dets.length o)).settleFlag g dets.length).busSettled := by
      rw [← done]
      exact congrArg Host.Outcome.next (State.busReply_taken hl hr _)
    obtain ⟨u, hu⟩ : ∃ u, u = s.fetchCounted g dets.length o := ⟨_, rfl⟩
    obtain ⟨w, hw⟩ : ∃ w, w = dets.foldl (fun a d => a.takeDetection g d) u := ⟨_, rfl⟩
    rw [← hu, ← hw] at ho
    have senses : State.Senses g u w := hw ▸ State.Senses.foldl (fun a d => State.Senses.takeDetection a g d) dets u
    have counted (i : Fin 3) := hu ▸ s.fetchCounted_counter g dets.length o i
    have uhead : u.bus.heads[g] = { s.bus.heads[g] with failures := 0, counters := u.bus.heads[g].counters } :=
      hu ▸ s.fetchCounted_head g _ _
    have utime : u.time = s.time := hu ▸ rfl
    have head := w.settleFlag_head g dets.length
    have whead := senses.head
    have count (i : Fin 3) (o : CounterObject) (ho : o.ofPassage = false)
        (hi : s.bus.heads[g].counters[i].select = o) :
        w.bus.heads[g].counters[i].count = u.bus.heads[g].counters[i].count :=
      senses.counts i (by rw [counted i, hi]; exact ho)
    have stack : w.time.gates[g].stack = s.time.gates[g].stack.drop dets.length := by
      rw [hw, State.takeDetections_stack, utime]
    refine ⟨(w.settleFlag g dets.length).busSettled, u, w, ho, hu ▸ s.fetchCounted_frame g _ _, counted, hw, ?_, ?_,
      ?_, ?_, ?_, fun k hk => ?_, ?_, fun i hi => ?_, fun i hi => ?_⟩
    · rw [State.busSettled_heads, head, State.settleFlag_frame]
    · rw [State.busSettled_frame, State.settleFlag_frame]
    · rw [State.busSettled_heads, head, whead, uhead]
      exact hs
    · rw [State.busSettled_heads, head, whead, uhead]
    · rw [State.busSettled_time, State.settleFlag_frame]
      exact stack
    · rw [State.busSettled_time, State.settleFlag_frame]
      exact (hw ▸ State.takeDetections_other hk dets u).trans (by rw [utime])
    · rw [State.busSettled_heads, State.busSettled_time, head, whead, uhead, State.settleFlag_frame]
    · rw [State.busSettled_heads, head]
      exact (count i _ rfl hi).trans (by rw [counted i, if_pos hi])
    · rw [State.busSettled_heads, head]
      exact (count i _ rfl hi).trans (by rw [counted i, if_neg (by rw [hi]; decide), if_pos hi])
  · have state : (s.replyTaken g).bus.heads[g].state = .settling := by rw [State.replyTaken_head]; exact hs
    have done : State.fetchDone g (s.replyTaken g) (.detections o dets) =
        (s.replyTaken g).settleFlag g dets.length := by
      simp only [State.fetchDone, state]
    have ho : exec (.fetch g payload) s = .next ((s.replyTaken g).settleFlag g dets.length).busSettled := by
      rw [← done]
      exact congrArg Host.Outcome.next (State.busReply_taken hl hr _)
    refine ⟨_, ho, ?_, ?_, ?_⟩
    · exact (s.replyTaken_onlyBus g).trans (.trans (by rw [State.settleFlag_frame]) (State.busSettled_onlyBus _))
    · rw [State.busSettled_journal, State.settleFlag_frame]
      rfl
    · rw [State.busSettled_heads, State.settleFlag_frame, State.replyTaken_head]
      exact heads_set_set _ _ _ _
  · have ho : exec (.fetch g [1]) s = .next ((s.replyTaken g).headReset g).busSettled := by
      have done : State.fetchDone g (s.replyTaken g) .reject = (s.replyTaken g).headReset g := by
        have state : (s.replyTaken g).bus.heads[g].state = s.bus.heads[g].state := by rw [State.replyTaken_head]
        rcases hs with hs | hs <;> simp only [State.fetchDone, state, hs]
      rw [← done]
      exact congrArg Host.Outcome.next (State.busReply_taken hl (r := .reject) rfl _)
    obtain ⟨only, state, reason, has, -, -⟩ := (s.replyTaken g).headReset_settled g
    exact ⟨_, ho, (s.replyTaken_onlyBus g).trans only, state, reason, has⟩
end

section
/-! PROOFS. The gate check and failed attempts (O13, O9). -/

set_option Elab.async false

namespace Sys2Proof.Machine

open Sys2Proof

variable {s t u : State}

/-! ## The expected set (R33) -/

theorem countP_lane (dets : List Detection) (l : Lane) :
    dets.countP (fun d => decide (d.lane = l)) = (dets.map Detection.lane).count l := by
  rw [List.count, List.countP_map]
  exact List.countP_congr (fun d _ => by simp)

/-- Each lane is there as often as a predicate of lanes says: never twice, and once exactly when it is wanted. -/
theorem count_eq_ite_iff (l : List Lane) (p : Lane → Bool) :
    (∀ a, l.count a = if p a then 1 else 0) ↔ l.Nodup ∧ ∀ a, a ∈ l ↔ p a = true := by
  constructor
  · intro h
    refine ⟨List.nodup_iff_count_le_one.mpr (fun a => ?_), fun a => ?_⟩
    · rw [h a]
      split <;> omega
    · rw [← List.count_pos_iff, h a]
      split <;> simp_all
  · rintro ⟨nodup, mem⟩ a
    by_cases ha : p a = true
    · rw [if_pos ha, List.count_eq_one_of_mem nodup ((mem a).mpr ha)]
    · rw [if_neg ha, List.count_eq_zero_of_not_mem (fun h => ha ((mem a).mp h))]

theorem mem_allLanes (l : Lane) : l ∈ allLanes := by
  revert l
  decide

/-- The code a lane sends in a gate check. -/
theorem checkCode_iff (c : Code) (l : Lane) :
    c = BitVec.ofNat 16 (0xF000 + l.val + 1) ↔ c.toNat = 0xF000 + (l.val + 1) := by
  have := l.isLt
  rw [← BitVec.toNat_inj, BitVec.toNat_ofNat]
  omega

theorem expectedSet_iff (mask : BitVec 7) (dets : List Detection) :
    expectedSet mask dets = true ↔
      (dets.map Detection.lane).Nodup ∧ (∀ l : Lane, (∃ d ∈ dets, d.lane = l) ↔ mask.getLsbD l.val = true) ∧
      ∀ d ∈ dets, d.code.toNat = 0xF000 + (d.lane.val + 1) ∧ d.quality = 3 := by
  have lanes : (∀ a ∈ allLanes, dets.countP (fun d => decide (d.lane = a)) = if mask.getLsbD a.val then 1 else 0) ↔
      (dets.map Detection.lane).Nodup ∧ ∀ a : Lane, a ∈ dets.map Detection.lane ↔ mask.getLsbD a.val = true := by
    rw [← count_eq_ite_iff]
    exact ⟨fun h a => (countP_lane dets a).symm.trans (h a (mem_allLanes a)),
      fun h a _ => (countP_lane dets a).trans (h a)⟩
  simp only [expectedSet, Bool.and_eq_true, List.all_eq_true, beq_iff_eq, decide_eq_true_eq, lanes, List.mem_map,
    checkCode_iff, and_assoc]

/-! ## The chain (R33, R34) -/

theorem State.modCheck_of {g : Gate} {c : GateCheck} (h : s.bus.check = some c) (hg : c.gate = g)
    (f : GateCheck → GateCheck) : (s.modCheck g f).bus.check = some (f c) := by
  simp [State.modCheck, h, hg]

@[simp] theorem State.modCheck_heads (s : State) (g : Gate) (f : GateCheck → GateCheck) :
    (s.modCheck g f).bus.heads = s.bus.heads := rfl

/-- The next entry of a check: PATTERN_OFF once sixteen check FETCHes are done. -/
theorem State.joinNextCheck_of {g : Gate} {c : GateCheck} (h : s.bus.check = some c) (hg : c.gate = g) :
    s.joinNextCheck g = s.joinQueue g (if 16 ≤ c.fetches then .patternOff else .checkFetch) := by
  simp only [State.joinNextCheck, h, hg, true_and, checkFetches]
  split <;> rfl

/-- A check that ends: its reply waits in port A's reply place. -/
theorem State.endCheck_of {g : Gate} {c : GateCheck} (h : s.bus.check = some c) (hg : c.gate = g) :
    s.endCheck g = ({ s with bus.check := none }).putReply .A (replyFrame 0x15 c.tag
      ⟨.ok, u8 c.mismatches ++ u8 c.failed ++ u8 (s.bus.heads[g].state.toCode)⟩) := by
  simp only [State.endCheck, h, hg, if_true]
  rfl

@[simp] theorem State.endCheck_heads (s : State) (g : Gate) : (s.endCheck g).bus.heads = s.bus.heads := by
  unfold State.endCheck
  repeat' split
  all_goals rfl

@[simp] theorem State.endCheck_queue (s : State) (g : Gate) : (s.endCheck g).bus.queue = s.bus.queue := by
  unfold State.endCheck
  repeat' split
  all_goals rfl

/-- A reply put in the place of an engaged port is its answer once the bus settles. -/
theorem State.putReply_answered {p : PortId} {kind tag : Byte} {a : Answer} (h : (s.port p).engaged = true) :
    (s.putReply p (replyFrame kind tag a)).busSettled.answered p kind tag a.status a.data := by
  have port : (s.putReply p (replyFrame kind tag a)).arbitrate.port p =
      { s.port p with reply := some (replyFrame kind tag a) } := by
    cases p <;> simp [State.port, State.putReply, State.modPort]
  refine ⟨?_, ?_⟩
  · rw [State.busSettled, State.transmit_port, Port.choose_engaged, port]
    exact h
  · rw [State.busSettled, State.transmit_port, port]
    exact Port.choose_reply _ _ _ rfl

end Sys2Proof.Machine

open Sys2Proof Sys2Proof.Machine

/-- Settles O13. -/
theorem gateCheckChain : Obligations.GateCheckChain := by
  refine ⟨expectedSet_iff, fun g s hl => ?_, fun g s c payload o dets hl hc hg hr => ?_,
    fun g s c hl hc hg he => ?_⟩
  · refine ⟨((s.replyTaken g).joinQueue g .checkFetch).busSettled,
      congrArg Host.Outcome.next (State.busReply_taken hl (r := .ack) rfl _), ?_, ?_, ?_⟩
    · exact State.busSettled_busHas (State.joinQueue_busHas _ g _)
    · rw [State.busSettled_check]
      rfl
    · exact (s.replyTaken_joined g .checkFetch).2.2
  · obtain ⟨f, hf⟩ : ∃ f : GateCheck → GateCheck, f = fun c => { c with
        fetches := c.fetches + 1
        mismatches := if (!expectedSet s.bus.heads[g].mask dets) = true then c.mismatches + 1 else c.mismatches } :=
      ⟨_, rfl⟩
    have check : ((s.replyTaken g).modCheck g f).bus.check = some (f c) :=
      State.modCheck_of (s := s.replyTaken g) hc hg f
    have gate : (f c).gate = g := by rw [hf]; exact hg
    have fetches : (f c).fetches = c.fetches + 1 := by rw [hf]
    have mask : (s.replyTaken g).bus.heads[g].mask = s.bus.heads[g].mask := by rw [State.replyTaken_head]
    have done : State.checkFetchDone g (s.replyTaken g) (.detections o dets) =
        ((s.replyTaken g).modCheck g f).joinQueue g (if 16 ≤ c.fetches + 1 then .patternOff else .checkFetch) := by
      rw [← fetches, ← State.joinNextCheck_of check gate, hf, ← mask]
      rfl
    have ho : exec (.checkFetch g payload) s = .next (((s.replyTaken g).modCheck g f).joinQueue g
        (if 16 ≤ c.fetches + 1 then .patternOff else .checkFetch)).busSettled := by
      rw [← done]
      exact congrArg Host.Outcome.next (State.busReply_taken hl hr _)
    refine ⟨_, ho, ?_, ?_, State.busSettled_busHas (State.joinQueue_busHas _ g _)⟩
    · exact (s.replyTaken_onlyBus g).trans ((State.modCheck_onlyBus _ g f).trans
        ((State.joinQueue_onlyBus _ g _).trans (State.busSettled_onlyBus _)))
    · rw [State.busSettled_check]
      refine check.trans (congrArg some ?_)
      rw [hf]
      cases expectedSet s.bus.heads[g].mask dets <;> rfl
  · obtain ⟨u, hu⟩ : ∃ u, u = (s.replyTaken g).enterHead g .settling .checkEnd := ⟨_, rfl⟩
    have head : u.bus.heads[g] = { s.bus.heads[g] with failures := 0 }.inState .settling .checkEnd s.time.session := by
      rw [hu, State.enterHead_head, State.replyTaken_head, State.replyTaken_time]
    have check : u.bus.check = some c := by
      rw [hu, State.enterHead_bus]
      exact hc
    have engaged : (u.port .A).engaged = true := by
      have := (State.enterHead_works (s.replyTaken g) g .settling .checkEnd).engaged .A
      rw [hu]
      exact this.trans he
    have ho : exec (.patternOff g [0]) s = .next (u.endCheck g).busSettled := by
      rw [hu]
      exact congrArg Host.Outcome.next (State.busReply_taken hl (r := .ack) rfl _)
    refine ⟨_, ho, ?_, ?_, ?_, ?_, ?_⟩
    · exact (s.replyTaken_onlyBus g).trans (.trans (by rw [hu]; exact State.enterHead_onlyBus _ _ _ _)
        ((State.endCheck_onlyBus _ g).trans (State.busSettled_onlyBus _)))
    · rw [State.busSettled_heads, State.endCheck_heads, head]
      rfl
    · rw [State.busSettled_heads, State.endCheck_heads, head]
      rfl
    · rw [State.busSettled_check, State.endCheck_of check hg]
      rfl
    · have code : u8 (u.bus.heads[g].state.toCode) = [3] := by rw [head]; rfl
      rw [State.endCheck_of check hg, code]
      exact State.putReply_answered (s := { u with bus.check := none }) engaged
end

section
/-! PROOFS. Failed attempts and failed transactions (O9). -/

set_option Elab.async false

namespace Sys2Proof.Machine

open Sys2Proof

variable {s t u : State}

/-- Each command that fails the open attempt does what R19 says of one. -/
theorem exec_attemptFails {x : Transaction} {c : Instr} (hx : s.bus.line = some x) (h : s.attemptFails x c) :
    exec c s = .next s.attemptFailed := by
  rcases h with rfl | ⟨rfl, w, hw, hr⟩ | ⟨payload, hp, rfl⟩
  · rfl
  · have due : timerDue x.wait s.time.session = true := by
      rw [hw]
      exact Timer.due_of_reached hr
    simp only [exec, execAttemptTimeout, hx, due, if_true]
  · have failed (f : State → BusReply → State) : s.busReply x.gate x.kind payload f = s.attemptFailed := by
      simp only [State.busReply, hx, and_self, if_true, hp]
    have run : ∃ f, exec (replyCommand x.gate payload x.kind) s = .next (s.busReply x.gate x.kind payload f) := by
      cases x.kind <;> exact ⟨_, rfl⟩
    obtain ⟨f, hf⟩ := run
    rw [hf, failed f]

/-- The head and check of a failed transaction counted, before it is seen what follows (R19, R35). -/
def State.failureCounted (s : State) (g : Gate) (k : BusKind) : State :=
  let s1 := (s.modHead g (fun h => { h with failures := min 3 (s.bus.heads[g].failures + 1) })).countObj g .failures
  if k.ofCheck then s1.modCheck g (GateCheck.failedOne k) else s1

theorem State.failedTransaction_eq (s : State) (g : Gate) (k : BusKind) : s.failedTransaction g k =
    if 2 ≤ s.bus.heads[g].failures ∧ s.bus.heads[g].state ≠ .fault then
      ((s.failureCounted g k).enterHead g .fault .noReply).endCheck g
    else (s.failureCounted g k).requeue g k := by
  have n : min 3 (s.bus.heads[g].failures + 1) = 3 ↔ 2 ≤ s.bus.heads[g].failures := by omega
  simp only [← n]
  rfl

theorem State.failureCounted_heads (s : State) (g : Gate) (k : BusKind) : (s.failureCounted g k).bus.heads =
    ((s.modHead g (fun h => { h with
      failures := min 3 (s.bus.heads[g].failures + 1) })).countObj g .failures).bus.heads := by
  unfold State.failureCounted
  dsimp only
  split <;> rfl

theorem State.failureCounted_head (s : State) (g : Gate) (k : BusKind) : (s.failureCounted g k).bus.heads[g] =
    { s.bus.heads[g] with
      failures := min 3 (s.bus.heads[g].failures + 1)
      counters := (s.failureCounted g k).bus.heads[g].counters } := by
  rw [State.failureCounted_heads, State.countObj, State.countBy_head, State.modHead_self]

theorem State.failureCounted_counter (s : State) (g : Gate) (k : BusKind) (i : Fin 3) :
    (s.failureCounted g k).bus.heads[g].counters[i].count = s.bus.heads[g].counters[i].count
      + (if s.bus.heads[g].counters[i].select = .failures then 1 else 0) := by
  rw [State.failureCounted_heads, State.countObj_counter, State.modHead_self]

theorem State.failureCounted_other (s : State) {g j : Gate} (k : BusKind) (h : j ≠ g) :
    (s.failureCounted g k).bus.heads[j] = s.bus.heads[j] := by
  rw [State.failureCounted_heads]
  exact (State.countBy_other _ _ _ h).trans (s.modHead_other g j _ h)

theorem State.failureCounted_onlyBus (s : State) (g : Gate) (k : BusKind) : s.onlyBus (s.failureCounted g k) := by
  unfold State.failureCounted
  dsimp only
  split <;> rfl

theorem State.failureCounted_time (s : State) (g : Gate) (k : BusKind) : (s.failureCounted g k).time = s.time := by
  unfold State.failureCounted
  dsimp only
  split <;> rfl

/-- A failed transaction of a check is counted in it (R33). -/
theorem State.failureCounted_check {g : Gate} {k : BusKind} {c : GateCheck} (h : s.bus.check = some c)
    (hg : c.gate = g) (hk : k.ofCheck = true) :
    (s.failureCounted g k).bus.check = some (GateCheck.failedOne k c) := by
  unfold State.failureCounted
  dsimp only
  rw [if_pos hk]
  exact State.modCheck_of (s := (s.modHead g _).countObj g .failures) h hg _

@[simp] theorem State.joinNextCheck_heads (s : State) (g : Gate) : (s.joinNextCheck g).bus.heads = s.bus.heads := by
  unfold State.joinNextCheck
  repeat' split
  all_goals rfl

@[simp] theorem State.joinNextCheck_check (s : State) (g : Gate) : (s.joinNextCheck g).bus.check = s.bus.check := by
  unfold State.joinNextCheck
  repeat' split
  all_goals rfl

/-- What follows a failed transaction that does not fault the head touches the queue alone. -/
@[simp] theorem State.requeue_heads (s : State) (g : Gate) (k : BusKind) :
    (s.requeue g k).bus.heads = s.bus.heads := by
  unfold State.requeue
  split
  exacts [rfl, rfl, rfl, rfl, rfl, rfl, s.joinNextCheck_heads g, rfl]

@[simp] theorem State.requeue_check (s : State) (g : Gate) (k : BusKind) :
    (s.requeue g k).bus.check = s.bus.check := by
  unfold State.requeue
  split
  exacts [rfl, rfl, rfl, rfl, rfl, rfl, s.joinNextCheck_check g, rfl]

/-- A transaction of PROBING, SETUP or PATTERN is made again (R22, R23, R33). -/
theorem State.requeue_busHas {g : Gate} {k : BusKind} (h : (s.bus.heads[g].state, k) ∈ [(HeadState.probing,
    BusKind.probe), (.setup, .setLanes), (.setup, .setThreshold), (.setup, .enable), (.pattern, .patternOn),
    (.pattern, .patternOff)]) : (s.requeue g k).busHas g k = true := by
  have again : s.requeue g k = s.joinQueue g k := by
    simp only [List.mem_cons, Prod.mk.injEq, List.not_mem_nil, or_false] at h
    rcases h with ⟨h, rfl⟩ | ⟨h, rfl⟩ | ⟨h, rfl⟩ | ⟨h, rfl⟩ | ⟨h, rfl⟩ | ⟨h, rfl⟩ <;> simp only [State.requeue, h]
  rw [again]
  exact s.joinQueue_busHas g k

/-- A second attempt that fails ends the transaction (R19, R30). -/
theorem State.attemptFailed_second {x : Transaction} (hx : s.bus.line = some x) (h2 : x.second = true) :
    s.attemptFailed = (if x.discarded then s.freeLine else s.freeLine.failedTransaction x.gate x.kind).busSettled := by
  simp only [State.attemptFailed, hx, h2, if_true]

end Sys2Proof.Machine

open Sys2Proof Sys2Proof.Machine

/-- Settles O9. -/
theorem attempts : Obligations.Attempts := by
  refine ⟨fun s x hx hw => ?_, fun s t x hx h2 ht => ?_, fun _ _ _ _ => rfl, fun s x c hx h2 hd hc => ?_,
    fun s x c hx h2 hd hc => ?_⟩
  · simp only [exec, execCommandSent, hx, hw, if_true]
    rfl
  · have again : s.attemptFailed = t := by
      rw [ht]
      simp only [State.attemptFailed, hx, h2, Bool.false_eq_true, if_false]
    rw [← again]
    exact ⟨exec_attemptFails hx (.inl rfl), fun w hw hr => exec_attemptFails hx (.inr (.inl ⟨rfl, w, hw, hr⟩)),
      fun payload hp => exec_attemptFails hx (.inr (.inr ⟨payload, hp, rfl⟩))⟩
  · have ho := exec_attemptFails hx hc
    rw [State.attemptFailed_second hx h2, hd, if_neg Bool.false_ne_true, State.failedTransaction_eq] at ho
    obtain ⟨u, hu⟩ : ∃ u, u = s.freeLine.failureCounted x.gate x.kind := ⟨_, rfl⟩
    rw [← hu] at ho
    simp only [State.freeLine_bus] at ho
    have head : u.bus.heads[x.gate] = { s.bus.heads[x.gate] with
        failures := min 3 (s.bus.heads[x.gate].failures + 1), counters := u.bus.heads[x.gate].counters } :=
      hu ▸ s.freeLine.failureCounted_head x.gate x.kind
    have count (i : Fin 3) : u.bus.heads[x.gate].counters[i].count = s.bus.heads[x.gate].counters[i].count
        + (if s.bus.heads[x.gate].counters[i].select = .failures then 1 else 0) :=
      hu ▸ s.freeLine.failureCounted_counter x.gate x.kind i
    have others (k : Gate) (hk : k ≠ x.gate) : u.bus.heads[k] = s.bus.heads[k] :=
      hu ▸ s.freeLine.failureCounted_other x.kind hk
    have only : s.onlyBus u := s.freeLine_onlyBus.trans (hu ▸ s.freeLine.failureCounted_onlyBus _ _)
    have time : u.time = s.time := hu ▸ s.freeLine.failureCounted_time _ _
    by_cases hf : 2 ≤ s.bus.heads[x.gate].failures ∧ s.bus.heads[x.gate].state ≠ .fault
    · replace ho := ho.trans (congrArg (fun v : State => Host.Outcome.next v.busSettled) (if_pos hf))
      simp only [if_pos hf]
      have below : ¬ s.bus.heads[x.gate].failures < 2 := Nat.not_lt.mpr hf.1
      have fault : ((u.enterHead x.gate .fault .noReply).endCheck x.gate).busSettled.bus.heads[x.gate] =
          u.bus.heads[x.gate].inState .fault .noReply s.time.session := by
        rw [State.busSettled_heads, State.endCheck_heads, State.enterHead_head, time]
      refine ⟨_, ho, ?_, fun i => ?_, ?_, fun h => absurd h below, fun _ h => absurd h below, fun k hk => ?_, ?_⟩
      · rw [fault, head]
        rfl
      · rw [fault]
        exact count i
      · rw [fault]
        refine ⟨rfl, rfl, rfl, rfl, rfl, rfl, fun e he => ?_⟩
        have := State.arbitrate_queue _ e he
        rw [State.endCheck_queue] at this
        exact State.enterHead_no_entry rfl u _ e this
      · rw [State.busSettled_heads, State.endCheck_heads, State.enterHead_other _ _ _ hk, others k hk]
      · exact only.trans ((State.enterHead_onlyBus _ _ _ _).trans
          ((State.endCheck_onlyBus _ _).trans (State.busSettled_onlyBus _)))
    · replace ho := ho.trans (congrArg (fun v : State => Host.Outcome.next v.busSettled) (if_neg hf))
      simp only [if_neg hf]
      have heads : (u.requeue x.gate x.kind).busSettled.bus.heads = u.bus.heads := by
        rw [State.busSettled_heads, State.requeue_heads]
      refine ⟨_, ho, ?_, fun i => ?_, ?_, fun _ hk => ?_, fun k _ hk hg hkind => ?_, fun k hk => ?_, ?_⟩
      · rw [heads, head]
      · rw [heads]
        exact count i
      · rw [heads, head]
      · refine State.busSettled_busHas (State.requeue_busHas ?_)
        rw [head]
        exact hk
      · have ofCheck : x.kind.ofCheck = true := by rcases hkind with h | h | h <;> rw [h] <;> rfl
        rw [State.busSettled_check, State.requeue_check, hu]
        exact State.failureCounted_check (s := s.freeLine) hk hg ofCheck
      · rw [heads, others k hk]
      · exact only.trans ((State.requeue_onlyBus _ _ _).trans (State.busSettled_onlyBus _))
  · refine ⟨s.freeLine.busSettled, ?_, ?_, ?_, s.freeLine_onlyBus.trans (State.busSettled_onlyBus _)⟩
    · rw [exec_attemptFails hx hc, State.attemptFailed_second hx h2, hd, if_pos rfl]
    · rw [State.busSettled_heads]
      rfl
    · rw [State.busSettled_journal]
      rfl
end

section
/-! PROOFS. The requests of the Gate Bus Controller (O15). -/

set_option Elab.async false

namespace Sys2Proof.Machine

open Sys2Proof

variable {s t u : State}

/-! ## Field bytes (R199, R200) -/

@[simp] theorem gateOf_gateByte (g : Gate) : gateOf (gateByte g) = some g := by
  revert g
  decide

@[simp] theorem laneOf_byte (l : Lane) : laneOf (BitVec.ofNat 8 (l.val + 1)) = some l := by
  revert l
  decide

@[simp] theorem counterIndexOf_byte (i : Fin 3) : counterIndexOf (BitVec.ofNat 8 (i.val + 1)) = some i := by
  revert i
  decide

theorem maskOf_of_lt {m : Byte} (h : m.toNat < 128) : maskOf m = some (m.setWidth 7) := if_pos h

/-- A mask byte below 128 that is not 0 is a mask that is not empty. -/
theorem mask_ne_zero {m : Byte} (h0 : 0 < m.toNat) (h : m.toNat < 128) : m.setWidth 7 ≠ (0 : BitVec 7) := by
  intro e
  have := congrArg BitVec.toNat e
  rw [BitVec.toNat_setWidth] at this
  simp only [BitVec.ofNat_eq_ofNat, BitVec.toNat_ofNat] at this
  omega

theorem clamp_zero_le (hi n : Nat) : clamp 0 hi n = min hi n := by simp [clamp]

/-! ## SET_GATE, REMOVE_GATE and GATE_CHECK (R21, R29, R33) -/

@[simp] theorem State.discardLine_heads (s : State) (g : Gate) (b : Bool) :
    (s.discardLine g b).bus.heads = s.bus.heads := by
  rw [State.discardLine_bus]

/-- A SET_GATE before the head's state changes. -/
def State.configuring (s : State) (g : Gate) (m : BitVec 7) (th gu : Nat) : State :=
  ((s.modGate g (fun q => { q with guardUnits := gu, guardRef := none })).modHead g
    (fun h => h.configured m th)).discardLine g true

theorem State.configureGate_eq (s : State) (g : Gate) (m : BitVec 7) (th gu : Nat) : s.configureGate g m th gu =
    (((s.configuring g m th gu).enterHead g .probing .request).clearLanes g).arbitrate := rfl

theorem State.configuring_head (s : State) (g : Gate) (m : BitVec 7) (th gu : Nat) :
    (s.configuring g m th gu).bus.heads[g] = s.bus.heads[g].configured m th := by
  simp only [State.configuring, State.discardLine_heads, State.modHead_self, State.modGate_bus]

/-- The head a SET_GATE leaves. -/
theorem State.configureGate_head (s : State) (g : Gate) (m : BitVec 7) (th gu : Nat) :
    (s.configureGate g m th gu).bus.heads[g] = { (s.bus.heads[g].configured m th).entered .probing .request
      s.time.session with lanes := Vector.replicate 7 LaneSensor.cleared } := by
  have time : (s.configuring g m th gu).time.session = s.time.session := by simp [State.configuring]
  have head := State.enterHead_head (s.configuring g m th gu) g .probing .request
  rw [State.configureGate_eq, State.arbitrate_heads, State.clearLanes_bus]
  refine (Vector.getElem_set_self _).trans ?_
  rw [head, State.configuring_head, time, Head.inState_of_ne (by decide)]

theorem State.configureGate_other (s : State) {g k : Gate} (m : BitVec 7) (th gu : Nat) (h : k ≠ g) :
    (s.configureGate g m th gu).bus.heads[k] = s.bus.heads[k] := by
  have lanes (a : State) : (a.clearLanes g).bus.heads[k] = a.bus.heads[k] := by
    rw [State.clearLanes_bus]
    exact a.modHead_other g k (fun h => { h with lanes := Vector.replicate 7 LaneSensor.cleared }) h
  rw [State.configureGate_eq, State.arbitrate_heads, lanes, State.enterHead_other _ _ _ h]
  simp only [State.configuring, State.discardLine_heads]
  exact State.modHead_other _ g k _ h

theorem State.configureGate_busHas (s : State) (g : Gate) (m : BitVec 7) (th gu : Nat) :
    (s.configureGate g m th gu).busHas g .probe = true := by
  have entered := State.enterHead_busHas (st := .probing) (k := .probe) rfl (s.configuring g m th gu) (g := g) .request
  refine State.arbitrate_busHas ?_
  simp only [State.busHas, State.clearLanes_bus]
  exact entered

/-- Guard interval apart, a SET_GATE is the gate bus's work. -/
theorem State.configureGate_onlyBus (s : State) (g : Gate) (m : BitVec 7) (th gu : Nat) :
    (s.modGate g (fun q => { q with guardUnits := gu, guardRef := none })).onlyBus (s.configureGate g m th gu) :=
  .trans (t := s.configuring g m th gu) (.trans (t := State.modHead _ g _) rfl (State.discardLine_onlyBus _ g true))
    ((State.enterHead_onlyBus _ g _ _).trans ((State.clearLanes_onlyBus _ g).trans (State.arbitrate_onlyBus _)))

/-- A REMOVE_GATE before the head's state changes. -/
def State.removing (s : State) (g : Gate) : State :=
  (s.modHead g (fun h => h.configured 0 0)).discardLine g true

theorem State.removing_head (s : State) (g : Gate) :
    (s.removing g).bus.heads[g] = s.bus.heads[g].configured 0 0 := by
  simp only [State.removing, State.discardLine_heads, State.modHead_self]

theorem State.removing_onlyBus (s : State) (g : Gate) : s.onlyBus (s.removing g) :=
  .trans (t := s.modHead g _) rfl (State.discardLine_onlyBus _ g true)

theorem State.removeGate_heads (s : State) (g : Gate) : (s.removeGate g).bus.heads = s.bus.heads.set g
    { s.bus.heads[g] with
      state := .off, reason := some .removed, mask := 0, threshold := 0, sensors := none, failures := 0
      rejects := 0, fetchPending := false, settle := none, poll := none, faultProbe := none } := by
  show ((s.removing g).enterHead g .off .removed).arbitrate.bus.heads = _
  rw [State.arbitrate_heads, State.enterHead_bus, State.removing_head, Head.inState_of_ne (by decide)]
  simp only [State.removing, State.discardLine_heads, State.modHead_bus, heads_set_set]
  rfl

theorem State.removeGate_onlyBus (s : State) (g : Gate) : s.onlyBus (s.removeGate g) :=
  (s.removing_onlyBus g).trans ((State.enterHead_onlyBus _ g .off .removed).trans (State.arbitrate_onlyBus _))

theorem State.removeGate_journal (s : State) (g : Gate) : (s.removeGate g).journal =
    s.journal.added s.raceMs (.gate g .off .removed) := by
  show ((s.removing g).enterHead g .off .removed).arbitrate.journal = _
  rw [State.arbitrate_journal, State.enterHead_journal (by decide)]
  simp [State.removing, State.raceMs, State.raceClock, State.neutral]

/-- The GATE_CHECK of a gate: PATTERN with its PATTERN_ON (R33). -/
theorem State.startCheck_head (s : State) (g : Gate) (tag : Byte) :
    (s.startCheck g tag).bus.heads[g] = s.bus.heads[g].entered .pattern .check s.time.session := by
  show (State.arbitrate { s.enterHead g .pattern .check with bus.check := some ⟨g, tag, 0, 0, 0⟩ }).bus.heads[g] = _
  rw [State.arbitrate_heads]
  exact (s.enterHead_head g _ _).trans (Head.inState_of_ne (by decide) _ _ _)

theorem State.startCheck_busHas (s : State) (g : Gate) (tag : Byte) :
    (s.startCheck g tag).busHas g .patternOn = true := by
  have entered : (s.enterHead g .pattern .check).busHas g .patternOn = true := State.enterHead_busHas rfl s _
  exact State.arbitrate_busHas (s := { s.enterHead g .pattern .check with bus.check := some ⟨g, tag, 0, 0, 0⟩ }) entered

theorem State.startCheck_onlyBus (s : State) (g : Gate) (tag : Byte) : s.onlyBus (s.startCheck g tag) :=
  (s.enterHead_onlyBus g .pattern .check).trans (.trans
    (t := { s.enterHead g .pattern .check with bus.check := some ⟨g, tag, 0, 0, 0⟩ }) rfl (State.arbitrate_onlyBus _))

/-- The reply place of port A stands at a change of head state but for SETUP. -/
theorem State.startCheck_reply (s : State) (g : Gate) (tag : Byte) :
    (s.startCheck g tag).portA.reply = s.portA.reply := by
  show (State.arbitrate { s.enterHead g .pattern .check with bus.check := some ⟨g, tag, 0, 0, 0⟩ }).portA.reply = _
  simp [State.enterHead_eq, HeadState.firstEntry, State.headChanged]

/-- An empty reply place is empty once the transmitter has chosen. -/
theorem Port.choose_no_reply {p : Port} (h : p.reply = none) (j : Journal) : (p.choose j).reply = none := by
  unfold Port.choose
  repeat' split
  exacts [h, h, rfl, h, h, h, h]

end Sys2Proof.Machine

open Sys2Proof Sys2Proof.Machine

/-- Settles O15. -/
theorem gateRequests : Obligations.GateRequests := by
  refine ⟨fun g s tag m th gu h hm0 hm hs hu => ?_, fun g s tag h hs hu hoff => ?_, fun g s tag h hs hr => ?_,
    fun g i b o s tag h hb => ?_, fun g s tag h => ?_, fun g l s tag h hl => ?_⟩
  · have free (a b : Port) : (s.withPorts a b).usesGate g = false := hu
    have open' : s.race.state.configurable = true := by rcases hs with hs | hs <;> rw [hs] <;> rfl
    refine State.serve_does (fun s => s.configureGate g (m.setWidth 7) (min 15 th.toNat) (max 1 gu.toNat)) h
      (fun _ => rfl) rfl (fun a b => ?_) (fun a b => (State.configureGate_works _ _ _ _ _).toMoves) (fun a b c d => ?_)
    · simp only [byteAt, natAt, List.getD_cons_zero, List.getD_cons_succ, gateOf_gateByte, maskOf_of_lt hm,
        mask_ne_zero hm0 hm, open', free, clamp_zero_le, clamp_byte, Bool.not_true, Bool.or_self, Bool.false_eq_true,
        if_false]
      rfl
    · have head := (s.withPorts a b).configureGate_head g (m.setWidth 7) (min 15 th.toNat) (max 1 gu.toNat)
      have only := (s.withPorts a b).configureGate_onlyBus g (m.setWidth 7) (min 15 th.toNat) (max 1 gu.toNat)
      have time := congrArg State.time only
      simp only [head]
      refine ⟨rfl, rfl, rfl, rfl, rfl, rfl, rfl, rfl, rfl, rfl, fun l => Vector.getElem_replicate _, ?_, time,
        fun k hk => State.configureGate_other _ _ _ _ hk, ?_⟩
      · exact State.configureGate_busHas (s.withPorts a b) _ _ _ _
      · rw [only]
        rfl
  · have free (a b : Port) : (s.withPorts a b).usesGate g = false := hu
    have open' : s.race.state.configurable = true := by rcases hs with hs | hs <;> rw [hs] <;> rfl
    refine State.serve_does (State.removeGate · g) h (fun _ => rfl) rfl (fun a b => ?_)
      (fun a b => (State.removeGate_works _ _).toMoves) (fun a b c d => ?_)
    · simp only [byteAt, List.getD_cons_zero, gateOf_gateByte, open', free, Bool.not_true, Bool.or_self,
        Bool.false_eq_true, if_false, hoff]
      rfl
    · have off : ∀ e ∈ ((s.withPorts a b).removeGate g).bus.queue, e.gate ≠ g := fun e he =>
        State.enterHead_no_entry (st := .off) rfl ((s.withPorts a b).removing g) .removed e
          (State.arbitrate_queue _ e he)
      refine ⟨?_, (s.withPorts a b).removeGate_heads g, off, ?_⟩
      · rw [State.onlyBus, (s.withPorts a b).removeGate_onlyBus g]
      · exact (s.withPorts a b).removeGate_journal g
  · obtain ⟨a, b, hab⟩ := (s.taken_onlyPorts .A (ltFrame 0x15 tag [gateByte g])).withPorts
    have open' : s.race.state.configurable = true := by rcases hs with hs | hs <;> rw [hs] <;> rfl
    have ready : (s.withPorts a b).bus.heads[g].state = .ready := hr
    have head := (s.withPorts a b).startCheck_head g tag
    have run : exec (.gateCheck .A tag [gateByte g]) s = .next ((s.withPorts a b).startCheck g tag).transmit := by
      refine (State.serve_of_takes _ _ _ h).trans ?_
      have judged : judge .A [gateByte g] true 1 (fun s => match gateOf (byteAt [gateByte g] 0) with
          | some g =>
            if !s.race.state.configurable then refuse .refusedState s
            else if s.bus.heads[g].state ≠ .ready then refuse .notReady s
            else (s.startCheck g tag, none)
          | none => refuse .badArgument s) (s.withPorts a b) = ((s.withPorts a b).startCheck g tag, none) := by
        simp only [judge, byteAt, List.getD_cons_zero, gateOf_gateByte, open', ready]
        rfl
      rw [hab]
      exact congrArg (fun r => Host.Outcome.next (State.replied .A kindGateCheck tag r).transmit) judged
    have only : s.onlyBus ((s.withPorts a b).startCheck g tag).transmit := by
      rw [State.onlyBus, State.transmit, (s.withPorts a b).startCheck_onlyBus g tag]
    have engaged : ((s.withPorts a b).port .A).engaged = true := by
      rw [← hab]
      exact State.engage_engaged _ _
    refine ⟨_, run, only, ?_, fun hn => ?_, ?_⟩
    · exact (Port.choose_engaged _ _).trans (((State.startCheck_works _ g tag).engaged .A).trans engaged)
    · refine Port.choose_no_reply ((State.startCheck_reply _ g tag).trans ?_) _
      have reply : ((s.frameTaken .A (ltFrame 0x15 tag [gateByte g])).engage .A).portA.reply = s.portA.reply := rfl
      rw [← hn, ← reply, hab]
    · rw [State.transmit_bus, head]
      refine ⟨rfl, rfl, rfl, rfl, (s.withPorts a b).startCheck_busHas g tag, ?_⟩
      exact State.arbitrate_check _
  · refine State.serve_does (State.modHead · g (fun h => { h with counters := h.counters.set i ⟨o, 0⟩ })) h
      (fun _ => rfl) rfl (fun a b => ?_) (fun a b => (State.modHead_works _ _ _).toMoves) (fun a b c d => ⟨rfl, rfl, rfl⟩)
    simp [byteAt, hb, ok]
  · refine State.serve_does (State.modHead · g (fun h => { h with
      counters := mapVec (fun c => { c with count := 0 }) h.counters })) h
      (fun _ => rfl) rfl (fun a b => ?_) (fun a b => (State.modHead_works _ _ _).toMoves)
      (fun a b c d => ⟨rfl, fun i => ?_, rfl, ?_⟩)
    · simp [byteAt, ok]
    · have head := State.modHead_self (s.withPorts a b) g (fun h => { h with
        counters := mapVec (fun c => { c with count := 0 }) h.counters })
      simp only [head]
      exact mapVec_getElem _ _ i.val i.isLt
    · have head := State.modHead_self (s.withPorts a b) g (fun h => { h with
        counters := mapVec (fun c => { c with count := 0 }) h.counters })
      simp only [head]
      rfl
  · refine State.serve_does (fun s => (s.modLane g l (fun _ => LaneSensor.cleared)).append
      (.stuck g l false .request)) h
      (fun _ => rfl) rfl (fun a b => ?_) (fun a b => (State.Works.after (State.append_works _ _)
        (State.modLane_works _ _ _ _)).toMoves)
      (fun a b c d => ⟨rfl, rfl, rfl⟩)
    have stuck : (s.withPorts a b).bus.heads[g].lanes[l].stuck = true := hl
    simp only [byteAt, List.getD_cons_zero, List.getD_cons_succ, gateOf_gateByte, laneOf_byte, State.clearStuck, stuck,
      if_true, ok]
end

section
/-! PROOFS. One detection: lane accounting, claims, classification and strays (O16). -/

set_option Elab.async false

namespace Sys2Proof.Machine

open Sys2Proof

variable {s t u : State}

/-! ## Lane sensors (R38) -/

theorem Detection.anonymous_iff (d : Detection) : d.anonymous = true ↔ d.quality = 0 ∨ d.code = 0xFFFF := by
  simp [Detection.anonymous]

/-- The lane's sensor state after a detection. -/
def Detection.sensed (d : Detection) (now : Time) (x : LaneSensor) : LaneSensor :=
  if d.anonymous then ⟨min 16 (x.count + 1), x.stuck || decide (15 ≤ x.count), some ⟨now, 200000⟩⟩
  else if validCode d.code then ⟨0, false, some ⟨now, 200000⟩⟩
  else { x with quiet := some ⟨now, 200000⟩ }

theorem State.modLane_bus (s : State) (g : Gate) (l : Lane) (f : LaneSensor → LaneSensor) : (s.modLane g l f).bus =
    { s.bus with heads := s.bus.heads.set g { s.bus.heads[g] with
      lanes := s.bus.heads[g].lanes.set l (f s.bus.heads[g].lanes[l]) } } := rfl

theorem State.senseLane_bus (s : State) (g : Gate) (d : Detection) :
    (s.senseLane g d).bus = (s.modLane g d.lane (d.sensed s.time.session)).bus := by
  have n : min 16 (s.bus.heads[g].lanes[d.lane].count + 1) = 16 ↔ 15 ≤ s.bus.heads[g].lanes[d.lane].count := by omega
  unfold State.senseLane
  dsimp only
  simp only [n]
  by_cases ha : d.anonymous = true
  · simp only [ha, if_true, State.modLane_bus, Detection.sensed]
    split <;> rfl
  · by_cases hv : validCode d.code = true
    · simp only [ha, hv, if_true, if_false, Bool.false_eq_true, State.modLane_bus, Detection.sensed]
      split <;> rfl
    · simp only [ha, hv, if_false, Bool.false_eq_true, State.modLane_bus, Detection.sensed]
      rfl

theorem State.senseLane_onlyBus (s : State) (g : Gate) (d : Detection) : s.onlyBus (s.senseLane g d) := by
  unfold State.senseLane
  dsimp only
  repeat' split
  all_goals rfl

theorem State.senseLane_lane (s : State) (g : Gate) (d : Detection) :
    (s.senseLane g d).bus.heads[g].lanes[d.lane] = d.sensed s.time.session s.bus.heads[g].lanes[d.lane] := by
  rw [State.senseLane_bus]
  simp only [State.modLane, State.modHead_self]
  exact Vector.getElem_set_self _

/-- The STUCK notice of a changed flag is the one notice. -/
theorem State.senseLane_journal (s : State) (g : Gate) (d : Detection) : (s.senseLane g d).journal =
    if d.anonymous then
      if 15 ≤ s.bus.heads[g].lanes[d.lane].count ∧ s.bus.heads[g].lanes[d.lane].stuck = false then
        s.journal.added s.raceMs (.stuck g d.lane true .count)
      else s.journal
    else if validCode d.code then
      if s.bus.heads[g].lanes[d.lane].stuck then s.journal.added s.raceMs (.stuck g d.lane false .coded)
      else s.journal
    else s.journal := by
  have n : min 16 (s.bus.heads[g].lanes[d.lane].count + 1) = 16 ↔ 15 ≤ s.bus.heads[g].lanes[d.lane].count := by omega
  unfold State.senseLane
  dsimp only
  simp only [n]
  repeat' split
  all_goals rfl

/-! ## Claims (R13, R40) -/

/-- The lanes sensed, the clocks and captures are as they were. -/
theorem State.senseLane_time (s : State) (g : Gate) (d : Detection) : (s.senseLane g d).time = s.time := by
  rw [s.senseLane_onlyBus g d]

/-- A detection with a capture of its own. -/
theorem State.claim_own {g : Gate} {c : Capture} {rest : List Capture} (h : s.time.gates[g].stack = c :: rest) :
    s.claim g = ({ s with
      time.gates := s.time.gates.set g { s.time.gates[g] with stack := rest, last := some c } }, some (c, false)) := by
  simp only [State.claim, h]
  rfl

/-- A SHARED detection. -/
theorem State.claim_shared {g : Gate} {c : Capture} (h : s.time.gates[g].stack = [])
    (hl : s.time.gates[g].last = some c) (hw : (s.time.session - c.time).toNat < 2000) :
    s.claim g = (s, some (c, true)) := by
  simp only [State.claim, h, hl, pairingTicks, hw, if_true]

/-- An ORPHAN. -/
theorem State.claim_none {g : Gate} (h : s.time.gates[g].stack = [])
    (hl : ∀ c, s.time.gates[g].last = some c → 2000 ≤ (s.time.session - c.time).toNat) :
    s.claim g = (s, none) := by
  simp only [State.claim, h]
  split
  · rename_i c hc
    rw [pairingTicks, if_neg (Nat.not_lt.mpr (hl c hc))]
  · rfl

theorem State.takeDetection_claimed {g : Gate} {d : Detection} {v : State} {c : Capture} {b : Bool}
    (h : (s.senseLane g d).claim g = (v, some (c, b))) : s.takeDetection g d = v.classify g d c b := by
  simp only [State.takeDetection, h]

theorem State.takeDetection_orphan {g : Gate} {d : Detection} {v : State}
    (h : (s.senseLane g d).claim g = (v, none)) : s.takeDetection g d =
      (v.countObj g .orphans).tallyPassage (fun t => { t with orphaned := t.orphaned + 1 }) := by
  simp only [State.takeDetection, h]

/-! ## The lane check (R42) -/

theorem State.badLane_iff (s : State) (g : Gate) (l : Lane) : s.badLane g l = true ↔ s.laneRefused g l := by
  have track : isTrack l = decide (l.val < 6) := by
    revert l
    decide
  unfold State.badLane State.laneRefused
  rw [Bool.or_eq_true_iff]
  refine or_congr (by simp) ?_
  cases hp : s.pointOf g with
  | none => simp
  | some i =>
    cases hq : s.course.points[i]? with
    | none => simp [hq]
    | some q =>
      have point : (∃ i' q', some i = some i' ∧ s.course.points[i']? = some q' ∧
          (l.val < 6 ∧ s.course.settings.laneCount < l.val + 1 ∨ l.val = 6 ∧ q'.pit = false)) ↔
          (l.val < 6 ∧ s.course.settings.laneCount < l.val + 1 ∨ l.val = 6 ∧ q.pit = false) := by
        simp [hq]
      rw [point]
      simp only [Option.bind_some, hq, track]
      by_cases hl : l.val < 6
      · have : l.val ≠ 6 := by omega
        simp [hl, this]
      · have : l.val = 6 := by omega
        simp [this]

/-- The lane check reads the mask of the head and the course. -/
theorem State.badLane_congr {g : Gate} (hm : t.bus.heads[g].mask = s.bus.heads[g].mask) (hc : t.course = s.course)
    (l : Lane) : t.badLane g l = s.badLane g l := by
  unfold State.badLane State.pointOf
  rw [hm, hc]

theorem State.checkLane_of_refused {g : Gate} {l : Lane} (h : s.laneRefused g l) : s.checkLane g l =
    ({ s with former.tallies.badLane := s.former.tallies.badLane + 1 }, none) := by
  simp only [State.checkLane, (s.badLane_iff g l).mpr h, if_true]
  rfl

theorem State.checkLane_of_allowed {g : Gate} {l : Lane} (h : ¬ s.laneRefused g l) :
    s.checkLane g l = (s, some l) := by
  have : s.badLane g l = false := Bool.eq_false_iff.mpr (fun e => h ((s.badLane_iff g l).mp e))
  simp only [State.checkLane, this, Bool.false_eq_true, if_false]

/-- Counting leaves the lane check as it is. -/
theorem State.laneRefused_counted (s : State) (g : Gate) (o : CounterObject) (l : Lane) :
    (s.countObj g o).laneRefused g l ↔ s.laneRefused g l := by
  have mask : (s.countObj g o).bus.heads[g].mask = s.bus.heads[g].mask := by
    rw [State.countObj, State.countBy_head]
  rw [← State.badLane_iff, ← State.badLane_iff, State.badLane_congr mask rfl]

theorem State.countObj_lanes (s : State) (g : Gate) (o : CounterObject) :
    (s.countObj g o).bus.heads[g].lanes = s.bus.heads[g].lanes := by
  rw [State.countObj, State.countBy_head]

end Sys2Proof.Machine

open Sys2Proof Sys2Proof.Machine

/-- Settles O16. -/
theorem detectionTaken : Obligations.DetectionTaken := by
  refine ⟨fun s t g d x y ht hx hy => ?_, fun s t g o ht => ?_, fun s v g d hv hs hl => ?_,
    fun s v w g d c shared hv hw => ?_, fun s t g c l reason ht => ?_⟩
  · have lane : y = d.sensed s.time.session x := by rw [hy, hx, ht, State.senseLane_lane]
    refine ⟨?_, ?_, ?_, ?_⟩
    · rw [ht, State.senseLane_bus, lane, hx]
      rfl
    · rw [lane, Detection.sensed]
      repeat' split
      all_goals rfl
    · rw [ht]
      exact s.senseLane_onlyBus g d
    · rw [ht, State.senseLane_journal, ← hx, lane, Detection.sensed]
      simp only [← d.anonymous_iff]
      repeat' split
      all_goals simp_all
  · rw [ht]
    exact ⟨s.countObj_frame g o, s.countObj_counter g o⟩
  · rw [hv]
    refine State.takeDetection_orphan (State.claim_none ?_ ?_) <;> rw [s.senseLane_time] <;> assumption
  · have taken : s.takeDetection g d = v.classify g d c shared := by
      rcases hv with ⟨rest, hs, rfl, rfl⟩ | ⟨hs, hl, hc, rfl, rfl⟩
      · refine State.takeDetection_claimed ((State.claim_own (by rw [s.senseLane_time]; exact hs)).trans ?_)
        simp only [s.senseLane_time]
      · exact State.takeDetection_claimed (State.claim_shared (by rw [s.senseLane_time]; exact hs)
          (by rw [s.senseLane_time]; exact hl) (by rw [s.senseLane_time]; exact hc))
    have anon (h : d.quality = 0 ∨ d.code = 0xFFFF) : v.classify g d c shared = v.anonDetection g d c shared :=
      if_pos (d.anonymous_iff.mpr h)
    have coded (hq : d.quality ≠ 0) (hn : d.code ≠ 0xFFFF) : ¬ d.anonymous = true := fun h =>
      (d.anonymous_iff.mp h).elim hq hn
    have stuck : w.bus.heads[g].lanes[d.lane].stuck = v.bus.heads[g].lanes[d.lane].stuck := by
      rw [hw, State.countObj_lanes]
    have refused : w.laneRefused g d.lane ↔ v.laneRefused g d.lane := by
      rw [hw]
      exact v.laneRefused_counted g .anon d.lane
    refine ⟨fun ha hst => ?_, fun ha hst hsh => ?_, fun ha hst hsh => ⟨fun hr => ?_, fun hr => ?_⟩,
      fun hq hn hc => ⟨fun hr => ?_, fun hr => ?_⟩, fun hq hn hc => ?_⟩
    · rw [taken, anon ha]
      simp only [State.anonDetection, ← hw, stuck, hst, if_true]
      rfl
    · rw [taken, anon ha]
      simp only [State.anonDetection, ← hw, stuck, hst, hsh, Bool.false_eq_true, if_false, if_true]
      rfl
    · rw [taken, anon ha]
      simp only [State.anonDetection, ← hw, stuck, hst, hsh, Bool.false_eq_true, if_false,
        State.checkLane_of_refused (refused.mpr hr)]
    · rw [taken, anon ha]
      simp only [State.anonDetection, ← hw, stuck, hst, hsh, Bool.false_eq_true, if_false,
        State.checkLane_of_allowed (fun h => hr (refused.mp h))]
    · rw [taken]
      simp only [State.classify, coded hq hn, Bool.false_eq_true, if_false, hc, if_true,
        State.checkLane_of_refused hr]
    · rw [taken]
      simp only [State.classify, coded hq hn, Bool.false_eq_true, if_false, hc, if_true,
        State.checkLane_of_allowed hr]
    · rw [taken]
      simp only [State.classify, coded hq hn, hc, Bool.false_eq_true, if_false]
  · by_cases hm : s.former.stray.map StrayMemory.code = some c
    · rw [if_pos hm, ht]
      exact if_pos hm
    · rw [if_neg hm]
      have noticed : t = { (s.countObj g .strays).append (.stray c g l reason) with
          former.stray := some ⟨c, ⟨s.time.session, 1000000⟩⟩ } := ht.trans (if_neg hm)
      rw [noticed]
      exact ⟨rfl, rfl, rfl⟩
end

section
/-! PROOFS. Insertion into the roster, coded passages, registration and removal (O17, O21). -/

set_option Elab.async false

namespace Sys2Proof.Machine

open Sys2Proof

variable {s t u : State}

/-! ## Slots and insertion (R59 to R61) -/

theorem Roster.codeAt_eq_none {r : Roster} {i : Slot} : r.codeAt i = none ↔ r.slots[i] = none := by
  simp [Roster.codeAt]

/-- The overflow slots are searched in order: the lowest that fits is found. -/
theorem overflow_find {p : Slot → Bool} {i : Slot} (hi : 64 ≤ i.val) (hp : p i = true)
    (hmin : ∀ j : Slot, 64 ≤ j.val → j.val < i.val → p j = false) : overflowSlots.find? p = some i := by
  have place : ∀ k (h : k < overflowSlots.length), overflowSlots[k].val = 64 + k := by decide
  have hk : i.val - 64 < overflowSlots.length := by
    show i.val - 64 < 8
    omega
  refine List.find?_eq_some_iff_getElem.mpr ⟨hp, i.val - 64, hk, Fin.ext (by rw [place]; omega), fun j hj => ?_⟩
  rw [hmin _ (by rw [place]; omega) (by rw [place]; omega)]
  rfl

theorem overflow_find_none {p : Slot → Bool} (h : ∀ j : Slot, 64 ≤ j.val → p j = false) :
    overflowSlots.find? p = none := by
  have range : ∀ j ∈ overflowSlots, 64 ≤ j.val := by decide
  exact List.find?_eq_none.mpr (fun j hj => by simp [h j (range j hj)])

theorem homeSlot_lt (c : Code) : (homeSlot c).val < 64 := Nat.mod_lt _ (by decide)

/-- Where an insertion places a code that the roster does not hold (R61). -/
theorem Roster.place_of {r : Roster} {c : Code} {i : Slot} (hi : r.slots[i] = none)
    (h : i = homeSlot c ∨ r.slots[homeSlot c] ≠ none ∧ 64 ≤ i.val ∧
      ∀ j : Slot, 64 ≤ j.val → j.val < i.val → r.slots[j] ≠ none) : r.place c = some i := by
  rcases h with rfl | ⟨hh, h64, hmin⟩
  · exact if_pos (Roster.codeAt_eq_none.mpr hi)
  · refine (if_neg (fun e => hh (Roster.codeAt_eq_none.mp e))).trans (overflow_find h64 ?_ (fun j hj hlt => ?_))
    · rw [Roster.codeAt_eq_none.mpr hi]
      rfl
    · exact Option.isNone_eq_false_iff.mpr (Option.ne_none_iff_isSome.mp
        (fun e => hmin j hj hlt (Roster.codeAt_eq_none.mp e)))

theorem Roster.place_full {r : Roster} {c : Code} (hh : r.slots[homeSlot c] ≠ none)
    (h : ∀ j : Slot, 64 ≤ j.val → r.slots[j] ≠ none) : r.place c = none :=
  (if_neg (fun e => hh (Roster.codeAt_eq_none.mp e))).trans (overflow_find_none (fun j hj =>
    Option.isNone_eq_false_iff.mpr (Option.ne_none_iff_isSome.mp (fun e => h j hj (Roster.codeAt_eq_none.mp e)))))

/-- A lookup finds nothing exactly when neither the home slot nor an overflow slot holds the code. -/
theorem Roster.find_eq_none {r : Roster} {c : Code} : r.find c = none ↔
    r.codeAt (homeSlot c) ≠ some c ∧ ∀ j : Slot, 64 ≤ j.val → r.codeAt j ≠ some c := by
  have range : ∀ j : Slot, j ∈ overflowSlots ↔ 64 ≤ j.val := by decide
  unfold Roster.find
  by_cases h : r.codeAt (homeSlot c) = some c
  · simp [h]
  · simp [h, range]

theorem State.find_of_car_none {c : Code} (h : s.car c = none) : s.roster.find c = none := by
  cases hf : s.roster.find c with
  | none => rfl
  | some i =>
    have code := Roster.codeAt_of_find hf
    rw [State.car, hf, Option.bind_some] at h
    rw [Roster.codeAt, h] at code
    cases code

/-- A record placed where an insertion places it is what a lookup finds. -/
theorem State.putCar_find {c : Code} {i : Slot} {x : Car} (hc : x.code = c) (hf : s.roster.find c = none)
    (hi : i = homeSlot c ∨ 64 ≤ i.val) : (s.putCar i x).roster.find c = some i := by
  obtain ⟨home, rest⟩ := Roster.find_eq_none.mp hf
  have self : (s.putCar i x).roster.codeAt i = some c := by simp [State.putCar, Roster.codeAt, hc]
  have other (j : Slot) (hj : j ≠ i) : (s.putCar i x).roster.codeAt j = s.roster.codeAt j := by
    have hv : i.val ≠ j.val := fun e => hj (Fin.ext e.symm)
    simp [State.putCar, Roster.codeAt, hv]
  by_cases he : homeSlot c = i
  · rw [Roster.find, he]
    exact if_pos self
  · have h64 := hi.resolve_left (fun e => he e.symm)
    have homes := other _ he
    refine (if_neg (by rw [homes]; exact home)).trans (overflow_find h64 ?_ (fun j hj hlt => ?_))
    · rw [self]
      exact beq_self_eq_true _
    · rw [other j (fun e => by rw [e] at hlt; exact Nat.lt_irrefl _ hlt)]
      exact beq_eq_false_iff_ne.mpr (rest j hj)

theorem State.putCar_car {c : Code} {i : Slot} {x : Car} (hc : x.code = c) (hf : s.roster.find c = none)
    (hi : i = homeSlot c ∨ 64 ≤ i.val) : (s.putCar i x).car c = some x := by
  rw [State.car, State.putCar_find hc hf hi]
  simp [State.putCar]

/-! ## Coded passages (R43, R45 to R47) -/

/-- Of the machine, the last-seen time touches the slots of the roster. -/
theorem State.setLastSeen_frame (s : State) (c : Code) (w : Time) : s.setLastSeen c w =
    { s with roster.slots := (s.setLastSeen c w).roster.slots } := by
  unfold State.setLastSeen State.modCar
  split <;> rfl

theorem State.setLastSeen_carSet {c : Code} {x : Car} (h : s.car c = some x) (w : Time) :
    s.carSet (s.setLastSeen c w) c { x with lastSeen := w } :=
  State.modCar_carSet (f := fun x => { x with lastSeen := w }) (fun _ => rfl) h

theorem State.isRearm_of {x : Car} {p : LastPassage} {q : Nat} {c : Capture} (hp : x.race.last = some p)
    (hq : p.point = q) (hw : (c.time - p.capture.time).toNat < s.course.settings.rearm * 10000) :
    s.isRearm x q c = true := by
  simp only [State.isRearm, hp]
  exact Bool.and_eq_true_iff.mpr ⟨decide_eq_true hq, decide_eq_true hw⟩

theorem State.isRearm_not {x : Car} {q : Nat} {c : Capture} (h : ∀ p, x.race.last = some p → p.point = q →
    s.course.settings.rearm * 10000 ≤ (c.time - p.capture.time).toNat) : s.isRearm x q c = false := by
  unfold State.isRearm
  split
  · rename_i l hl
    by_cases hq : l.point = q
    · exact Bool.and_eq_false_iff.mpr (.inr (decide_eq_false (Nat.not_lt.mpr (h l hl hq))))
    · simp [hq]
  · rfl

/-- A passage of a car that may take it at a re-arm read. -/
theorem State.handOver_rearm {g : Gate} {x : Car} {p : Passage} (h : s.isRearm x p.point p.capture = true) :
    s.handOver g x p =
      { s.countObj g .suppressed with former.tallies.rearmSuppressed := s.former.tallies.rearmSuppressed + 1 } := by
  simp only [State.handOver, h, if_true]
  rfl

theorem State.handOver_taken {g : Gate} {x : Car} {p : Passage} (h : s.isRearm x p.point p.capture = false) :
    s.handOver g x p = s.processPassage p := by
  simp only [State.handOver, h, Bool.false_eq_true, if_false]

theorem State.codedPassage_known {c : Code} {x : Car} (h : s.car c = some x) (g : Gate) (l : Option Lane)
    (q : Capture) (b : Bool) : s.codedPassage g c l q b = s.knownCar g x l q b := by
  simp only [State.codedPassage, h]

/-- A car that may take passages. -/
theorem State.knownCar_taken {x : Car} (h : s.mayTake x = true) (g : Gate) (l : Option Lane) (c : Capture)
    (b : Bool) : s.knownCar g x l c b = s.codedOf g x l c b := by
  have taken := h
  unfold State.mayTake at taken
  unfold State.knownCar
  cases hs : s.race.state <;> simp_all

theorem State.mayTake_of {x : Car} (h : s.race.state = .practice ∨ x.entered = true ∧ (s.race.state = .countdown ∨
    s.race.state = .green ∨ s.race.state = .caution ∨ s.race.state = .suspended ∨ s.race.state = .chequered)) :
    s.mayTake x = true := by
  unfold State.mayTake
  rcases h with h | ⟨he, h⟩
  · rw [h]
  · rcases h with h | h | h | h | h <;> rw [h] <;> exact he

/-- An unentered car in a race (R46). -/
theorem State.knownCar_unentered {x : Car} (he : x.entered = false) (h : s.race.state = .countdown ∨
    s.race.state = .green ∨ s.race.state = .caution ∨ s.race.state = .suspended ∨ s.race.state = .chequered)
    (g : Gate) (l : Option Lane) (c : Capture) (b : Bool) : s.knownCar g x l c b =
      ((s.setLastSeen x.code c.time).tallyPassage (fun t => { t with unentered := t.unentered + 1 })).strayRead g
        x.code l .unentered := by
  unfold State.knownCar State.mayTake
  rcases h with h | h | h | h | h <;> simp [h, he]

/-- A code the roster does not hold, learned. -/
theorem State.codedPassage_learned {c : Code} {i : Slot} (hn : s.car c = none) (hs : s.race.state = .practice)
    (hl : s.roster.learning = true) (hp : s.roster.place c = some i) (g : Gate) (l : Option Lane) (q : Capture)
    (b : Bool) : s.codedPassage g c l q b = State.codedOf { s.putCar i (learnedCar c q.time) with
      roster.tallyLearned := s.roster.tallyLearned + 1 } g (learnedCar c q.time) l q b := by
  simp only [State.codedPassage, hn, hs, hl, and_self, if_true, State.learn, hp]
  rfl

end Sys2Proof.Machine

open Sys2Proof Sys2Proof.Machine

/-- Settles O17. -/
theorem codedPassages : Obligations.CodedPassages := by
  refine ⟨fun s t g code x l c shared ht hx hs => ?_, fun s t g code x l c shared ht hx hs => ?_,
    fun s g code x l c shared hx he hs => ?_, fun s g code l c shared hn hs => ?_,
    fun s g code l c shared i hn hs hl hi hp => ?_, fun s g code l c shared hn hs hl hh ho => ?_⟩
  · have code' := State.car_code hx
    have seen : t = (s.setLastSeen code c.time).tallyQuiet := by
      rw [ht, State.codedPassage_known hx]
      unfold State.knownCar
      rcases hs with h | h | h <;> simp [h, code']
    have frame := s.setLastSeen_frame code c.time
    rw [seen]
    exact ⟨State.setLastSeen_carSet hx c.time, congrArg State.tallyQuiet frame⟩
  · have code' := State.car_code hx
    have frame := s.setLastSeen_frame code c.time
    have taken : t = s.codedOf g x l c shared := by
      rw [ht, State.codedPassage_known hx, State.knownCar_taken (State.mayTake_of hs)]
    refine ⟨fun hp => ?_, fun q p hq hp hpq hw => ?_, fun q hq hw => ?_⟩
    · have seen : t = (s.setLastSeen code c.time).tallyNoPoint := by
        rw [taken, ← code']
        simp only [State.codedOf, hp]
      rw [seen]
      exact ⟨State.setLastSeen_carSet hx c.time, congrArg State.tallyNoPoint frame⟩
    · rw [taken]
      simp only [State.codedOf, hq]
      exact State.handOver_rearm (State.isRearm_of hp hpq hw)
    · rw [taken, ← code']
      simp only [State.codedOf, hq]
      exact State.handOver_taken (State.isRearm_not hw)
  · have code' := State.car_code hx
    refine ⟨(s.setLastSeen code c.time).tallyPassage (fun t => { t with unentered := t.unentered + 1 }),
      State.setLastSeen_carSet hx c.time, ?_, ?_⟩
    · exact congrArg (fun u => u.tallyPassage (fun t => { t with unentered := t.unentered + 1 }))
        (s.setLastSeen_frame code c.time)
    · rw [State.codedPassage_known hx, State.knownCar_unentered he hs, code']
  · have : ¬ (s.race.state = .practice ∧ s.roster.learning = true) := fun h =>
      hs.elim (fun hs => hs h.1) (fun hl => by simp [h.2] at hl)
    simp only [State.codedPassage, hn, this, if_false]
  · have find := State.find_of_car_none hn
    have hi64 : i = homeSlot code ∨ 64 ≤ i.val := hp.imp_right (fun h => h.2.1)
    have known : State.car { s.putCar i (learnedCar code c.time) with
        roster.tallyLearned := s.roster.tallyLearned + 1 } code = some (learnedCar code c.time) :=
      State.putCar_car (x := learnedCar code c.time) rfl find hi64
    rw [State.codedPassage_learned hn hs hl (Roster.place_of hi hp)]
    exact ((State.codedPassage_known known g l c shared).trans (State.knownCar_taken
      (s := { s.putCar i (learnedCar code c.time) with roster.tallyLearned := s.roster.tallyLearned + 1 })
      (x := learnedCar code c.time) (State.mayTake_of (.inl hs)) g l c shared)).symm
  · simp only [State.codedPassage, hn, hs, hl, and_self, if_true, State.learn, Roster.place_full hh ho]
end

section
/-! PROOFS. Reading a payload; registration, removal, learning and aging (O21). -/

set_option Elab.async false

namespace Sys2Proof.Machine

open Sys2Proof

variable {s t u : State}

/-! ## The fields of a payload -/

theorem natAt_u8 {n : Nat} (h : n < 256) (rest : List Byte) : natAt (u8 n ++ rest) 0 = n := by
  simpa [natAt, byteAt, u8] using h

theorem wordAt_u16 {n : Nat} (h : n < 65536) (rest : List Byte) : wordAt (u16 n ++ rest) 0 = n := by
  simp only [wordAt, natAt, byteAt, u16, List.cons_append, List.getD_cons_zero, List.getD_cons_succ,
    BitVec.toNat_ofNat]
  omega

theorem codeAt_codeBytes (c : Code) (rest : List Byte) : codeAt (codeBytes c ++ rest) 0 = c := by
  rw [codeAt, codeBytes, wordAt_u16 c.isLt]
  simp

theorem carCodeOf_codeBytes {c : Code} (h : validCode c = true) (rest : List Byte) :
    carCodeOf (codeBytes c ++ rest) 0 = some c := by
  rw [carCodeOf, codeAt_codeBytes]
  exact if_pos h

/-- The fields after a code are read two bytes on. -/
theorem natAt_after_code (c : Code) (l : List Byte) (i : Nat) : natAt (codeBytes c ++ l) (i + 2) = natAt l i := rfl

theorem wordAt_after_code (c : Code) (l : List Byte) (i : Nat) :
    wordAt (codeBytes c ++ l) (i + 2) = wordAt l i := rfl

/-! ## Home slots (R59) -/

theorem homeSlot_val (c : Code) :
    (homeSlot c).val = (c.toNat % 64) ^^^ (c.toNat / 64 % 64) ^^^ (c.toNat / 4096) := by
  have high : c.toNat / 4096 % 2 ^ 6 = c.toNat / 4096 := by
    have := c.isLt
    omega
  simp only [homeSlot, BitVec.toNat_xor, BitVec.toNat_ushiftRight, Nat.shiftRight_eq_div_pow]
  rw [show (64 : Nat) = 2 ^ 6 from rfl, Nat.xor_mod_two_pow, Nat.xor_mod_two_pow]
  exact congrArg (_ ^^^ ·) high

/-! ## REGISTER_CAR and REMOVE_CAR (R66, R67) -/

/-- What REGISTER_CAR does with its payload. -/
def registerRequest (payload : List Byte) (u : State) : Served :=
  match carCodeOf payload 0, carNumberOf (wordAt payload 2), driveOf (natAt payload 4) with
  | some c, some number, some drive =>
    match u.race.state with
    | .idle | .practice => u.register c number drive
    | _ => refuse .refusedState u
  | _, _, _ => refuse .badArgument u

theorem exec_registerCar (p : PortId) (tag : Byte) (payload : List Byte) (s : State) :
    exec (.registerCar p tag payload) s = s.serve p 0x19 tag payload true 5 (registerRequest payload) := rfl

theorem registerRequest_legal {c : Code} {n d : Nat} (hc : validCode c = true) (h1 : 1 ≤ n) (hn : n ≤ 999)
    (hd : d ≤ 32) (hs : s.race.state = .idle ∨ s.race.state = .practice) :
    registerRequest (codeBytes c ++ u16 n ++ u8 d) s = s.register c n d := by
  have code : carCodeOf (codeBytes c ++ u16 n ++ u8 d) 0 = some c := by
    rw [List.append_assoc]
    exact carCodeOf_codeBytes hc _
  have number : wordAt (codeBytes c ++ u16 n ++ u8 d) 2 = n := by
    rw [List.append_assoc, wordAt_after_code]
    exact wordAt_u16 (by omega) _
  have drive : natAt (codeBytes c ++ u16 n ++ u8 d) 4 = d := natAt_u8 (by omega) []
  unfold registerRequest
  rw [code, number, drive, carNumberOf, if_pos ⟨h1, hn⟩, driveOf, if_pos hd]
  rcases hs with hs | hs <;> simp only [hs]

theorem State.register_new {c : Code} {i : Slot} {n d : Nat} (hf : s.roster.find c = none)
    (hp : s.roster.place c = some i) :
    s.register c n d = ok (slotBytes i) (s.putCar i (registeredCar c n d s.time.session)) := by
  simp only [State.register, hf, hp]

theorem State.register_full {c : Code} {n d : Nat} (hf : s.roster.find c = none) (hp : s.roster.place c = none) :
    s.register c n d = refuse .full s := by
  simp only [State.register, hf, hp]

theorem State.register_held {c : Code} {i : Slot} {x : Car} {n d : Nat} (hf : s.roster.find c = some i)
    (hx : s.roster.slots[i] = some x) : s.register c n d =
      if x.origin = .registered then refuse .conflict s else ok (slotBytes i) (s.putCar i (x.upgraded n d)) := by
  simp only [State.register, hf, hx]

theorem Roster.find_none_of {r : Roster} {c : Code} (h : ∀ j : Slot, r.codeAt j ≠ some c) : r.find c = none :=
  Roster.find_eq_none.mpr ⟨h _, fun j _ => h j⟩

theorem State.removeCar_found {c : Code} {i : Slot} {x : Car} (hf : s.roster.find c = some i)
    (hx : s.roster.slots[i] = some x) :
    s.removeCar c = if x.entered then refuse .refusedState s else ok [] (s.emptySlot i) := by
  have car : s.car c = some x := by rw [State.car, hf]; exact hx
  simp only [State.removeCar, hf, car]

/-! ## The aging check (R70) -/

theorem filterMap_filter {α : Type} (p : α → Bool) (l : List (Option α)) :
    (l.map (fun o => o.filter p)).filterMap id = (l.filterMap id).filter p := by
  induction l with
  | nil => rfl
  | cons o l ih =>
    cases o with
    | none => simpa using ih
    | some a => by_cases h : p a <;> simp_all [Option.filter]

theorem State.ageCheck_cars (s : State) : s.ageCheck.cars = s.cars.filter (fun x => !s.agesOut x) := by
  simpa only [State.cars, State.ageCheck, mapVec, Vector.toList_mk] using
    filterMap_filter (fun x => !s.agesOut x) s.roster.slots.toList

/-- The check counts exactly the records it removes. -/
theorem State.ageCheck_removed (s : State) : s.cars.countP s.agesOut = s.cars.length - s.ageCheck.cars.length := by
  have parts := List.length_eq_countP_add_countP s.agesOut (l := s.cars)
  have kept : s.ageCheck.cars.length = s.cars.countP (fun x => !s.agesOut x) := by
    rw [s.ageCheck_cars, List.countP_eq_length_filter]
  simp only [Bool.not_eq_true, Bool.decide_eq_false] at parts
  omega

end Sys2Proof.Machine

open Sys2Proof Sys2Proof.Machine

/-- Settles O21: registration in the order of its checks, removal, the learning flag and the aging check. -/
theorem rosterRequests : Obligations.RosterRequests := by
  refine ⟨homeSlot_val, fun s tag c n d i h hc h1 hn hd hs hno hi hplace => ?_,
    fun s tag c n d i x h hc h1 hn hd hs hf hx => ?_, fun s tag c n d h hc h1 hn hd hs hno hh ho => ?_,
    fun s tag c i x h hc hf hx => ?_, fun s tag on h => ?_, fun s hdue => ?_⟩
  · refine State.serve_does (fun u => u.putCar i (registeredCar c n d s.time.session)) h (fun _ => rfl) rfl
      (fun a b => ?_) (fun a b => (State.putCar_works _ i _).toMoves) (fun a b e f => ⟨rfl, rfl⟩)
    exact (registerRequest_legal (s := s.withPorts a b) hc h1 hn hd hs).trans
      (State.register_new (Roster.find_none_of hno) (Roster.place_of hi hplace))
  · have body (a b : Port) : registerRequest (codeBytes c ++ u16 n ++ u8 d) (s.withPorts a b) =
        if x.origin = .registered then refuse .conflict (s.withPorts a b)
        else ok (slotBytes i) ((s.withPorts a b).putCar i (x.upgraded n d)) :=
      (registerRequest_legal (s := s.withPorts a b) hc h1 hn hd hs).trans (State.register_held hf hx)
    cases ho : x.origin with
    | learned =>
      simp only [ho, reduceCtorEq, if_false] at body
      simp only [if_true]
      refine State.serve_does (fun u => u.putCar i (x.upgraded n d)) h (fun _ => rfl) rfl body
        (fun a b => (State.putCar_works _ i _).toMoves) (fun a b e f => ⟨rfl, rfl⟩)
    | registered =>
      simp only [ho, if_true] at body
      simp only [reduceCtorEq, if_false]
      exact State.serve_unchanged h (fun _ => rfl) rfl body
  · exact State.serve_unchanged h (fun _ => rfl) rfl (fun a b => (registerRequest_legal (s := s.withPorts a b) hc h1 hn hd hs).trans
      (State.register_full (Roster.find_none_of hno) (Roster.place_full hh ho)))
  · have body (a b : Port) : (match carCodeOf (codeBytes c) 0 with
          | some c => (s.withPorts a b).removeCar c
          | none => refuse .badArgument (s.withPorts a b)) =
        if x.entered then refuse .refusedState (s.withPorts a b)
        else ok [] ((s.withPorts a b).emptySlot i) := by
      have code : carCodeOf (codeBytes c) 0 = some c := carCodeOf_codeBytes hc []
      rw [code]
      exact State.removeCar_found hf hx
    cases he : x.entered with
    | true =>
      simp only [if_true]
      exact State.serve_unchanged h (fun _ => rfl) rfl (fun a b => (body a b).trans (if_pos he))
    | false =>
      simp only [Bool.false_eq_true, if_false]
      refine State.serve_does (fun u => u.emptySlot i) h (fun _ => rfl) rfl
        (fun a b => (body a b).trans (if_neg (by rw [he]; decide)))
        (fun a b => (State.emptySlot_works _ i).toMoves) (fun a b e f => ⟨rfl, rfl⟩)
  · refine State.serve_does (fun u => { u with roster.learning := on }) h (fun _ => rfl) rfl (fun a b => ?_)
      (fun a b => State.Works.toMoves .of_frame) (fun a b e f => rfl)
    cases on <;> rfl
  · refine ⟨s.ageCheck, exec_agingCheck_due hdue, s.ageCheck_slot, ?_, rfl, rfl⟩
    rw [← s.ageCheck_removed]
    rfl
end

section
/-! PROOFS. Attribution by prediction, the unattributed list and ASSIGN (O18, O20). -/

set_option Elab.async false

namespace Sys2Proof.Machine

open Sys2Proof

variable {s t u : State}

/-! ## Plausible lane changes over a span (R80, R93) -/

theorem isTrack_eq (l : Lane) : isTrack l = decide (l.val < 6) := by
  revert l
  decide

theorem pitLane_iff (l : Lane) : l.val = 6 ↔ ¬ l.val < 6 := by
  have := l.isLt
  omega

theorem Sector.plausible_iff (t : Sector) (x y : Lane) : t.plausible x y = true ↔
    (x.val < 6 ∧ y.val < 6) ∨ (x.val < 6 ∧ y.val = 6 ∧ t.pitRule = .entry)
      ∨ (x.val = 6 ∧ y.val = 6 ∧ t.pitRule ≠ .none) ∨ (x.val = 6 ∧ y.val < 6 ∧ t.pitRule = .exit) := by
  simp only [Sector.plausible, isTrack_eq, pitLane_iff]
  by_cases hx : x.val < 6 <;> by_cases hy : y.val < 6 <;> simp [hx, hy]

theorem plausibleOver_iff (l : List Sector) (a b : Option Lane) :
    plausibleOver l a b = true ↔ changePlausible l a b := by
  cases a with
  | none => simp [plausibleOver, changePlausible]
  | some x =>
    cases b with
    | none => simp [plausibleOver, changePlausible]
    | some y => simp [plausibleOver, changePlausible, Sector.plausible_iff]

theorem State.spanSectors_eq (s : State) (p q : Nat) : s.spanSectors p q = s.spanned p (s.lengthTo p q) := by
  simp only [State.spanSectors, spanSections, List.map_map]
  rfl

/-! ## Qualifying candidates (R48, R49) -/

theorem laterThan_iff (s : State) (a b : Time) : s.laterThan a b = true ↔ s.sinceGreen b < s.sinceGreen a := by
  simp [State.laterThan]

theorem State.isCandidate_iff {x : Car} {l : LastPassage} (hl : x.race.last = some l) (q : Nat) (lane : Option Lane)
    (c : Capture) : s.isCandidate x q lane c = true ↔ s.mayTake x = true ∧ x.race.state = .running ∧
      s.sinceGreen l.capture.time < s.sinceGreen c.time ∧ s.lengthTo l.point q ≤ s.course.settings.missTolerance + 1 ∧
      changePlausible (s.spanned l.point (s.lengthTo l.point q)) l.lane lane := by
  simp only [State.isCandidate, hl, Bool.and_eq_true, decide_eq_true_eq, laterThan_iff, plausibleOver_iff,
    State.spanSectors_eq, and_assoc]
  rfl

/-- A qualifying candidate is one whose distance lies within the window. -/
theorem State.candidateDistance_iff (s : State) (x : Car) (q : Nat) (lane : Option Lane) (c : Capture) (d : Nat) :
    s.candidateDistance x q lane c = some d ↔ s.qualifies x q lane c d := by
  cases hl : x.race.last with
  | none => simp [State.candidateDistance, State.qualifies, hl]
  | some l =>
    have candidate := s.isCandidate_iff hl q lane c
    obtain ⟨ticks, hticks⟩ : ∃ k, k = predictedTicks x.race.refTicks (nominalSum (s.spanSectors l.point q))
      (nominalSum s.course.sectors) := ⟨_, rfl⟩
    have ticks' : ticks = (match x.race.refTicks with
        | some r => r * nominals (s.spanned l.point (s.lengthTo l.point q)) / nominals s.course.sectors
        | none => 100 * nominals (s.spanned l.point (s.lengthTo l.point q))) := by
      rw [hticks, State.spanSectors_eq]
      cases x.race.refTicks <;> rfl
    simp only [State.candidateDistance, hl, ← hticks]
    constructor
    · intro h
      split at h
      · rename_i hc
        obtain ⟨take, running, later, length, plausible⟩ := candidate.mp hc
        split at h
        · rename_i within
          exact ⟨l, ticks, _, take, running, hl, later, length, plausible, ticks', rfl, (Option.some.inj h).symm,
            Option.some.inj h ▸ within⟩
        · cases h
      · cases h
    · rintro ⟨m, k, time, take, running, hm, later, length, plausible, hk, htime, hd, within⟩
      obtain rfl : l = m := Option.some.inj (hl.symm.trans hm)
      obtain rfl : k = ticks := hk.trans ticks'.symm
      subst htime hd
      exact (if_pos (candidate.mpr ⟨take, running, later, length, plausible⟩)).trans (if_pos within)

theorem State.mem_candidates {q : Nat} {lane : Option Lane} {c : Capture} {l : List Car} {a : Car × Nat} :
    a ∈ l.filterMap (fun x => (s.candidateDistance x q lane c).map (fun d => (x, d))) ↔
      a.1 ∈ l ∧ s.qualifies a.1 q lane c a.2 := by
  obtain ⟨x, d⟩ := a
  simp only [List.mem_filterMap, Option.map_eq_some_iff, Prod.mk.injEq, State.candidateDistance_iff]
  constructor
  · rintro ⟨y, hy, e, he, rfl, rfl⟩
    exact ⟨hy, he⟩
  · rintro ⟨hx, hd⟩
    exact ⟨x, hx, d, hd, rfl, rfl⟩

/-! ## The nearest (R50) -/

/-- A candidate strictly nearer than every other is the nearest. -/
theorem nearest_of_split {x : Car} {d : Nat} {before after : List (Car × Nat)}
    (h : ∀ a ∈ before ++ after, d < a.2) : nearest (before ++ (x, d) :: after) = some x := by
  have fails (a : Car × Nat) (ha : a ∈ before ++ after) :
      (before ++ (x, d) :: after).all (fun b => decide (a.2 ≤ b.2)) = false := by
    refine List.all_eq_false.mpr ⟨(x, d), by simp, ?_⟩
    have := h a ha
    simpa using this
  have holds : (before ++ (x, d) :: after).all (fun b => decide (d ≤ b.2)) = true := by
    refine List.all_eq_true.mpr (fun b hb => decide_eq_true ?_)
    rcases List.mem_append.mp hb with hb | hb
    · exact Nat.le_of_lt (h b (List.mem_append_left _ hb))
    · rcases List.mem_cons.mp hb with rfl | hb
      · exact Nat.le_refl d
      · exact Nat.le_of_lt (h b (List.mem_append_right _ hb))
  have only : (before ++ (x, d) :: after).filter
      (fun a => (before ++ (x, d) :: after).all (fun b => decide (a.2 ≤ b.2))) = [(x, d)] := by
    rw [List.filter_append, List.filter_cons_of_pos (by exact holds),
      List.filter_eq_nil_iff.mpr (fun a ha => by simp [fails a (List.mem_append_left _ ha)]),
      List.filter_eq_nil_iff.mpr (fun a ha => by simp [fails a (List.mem_append_right _ ha)])]
    rfl
  rw [nearest, only]

/-- Two candidates at the smallest distance: none is the nearest. -/
theorem nearest_of_two {x y : Car} {d : Nat} {before mid after : List (Car × Nat)}
    (h : ∀ a ∈ before ++ (x, d) :: mid ++ (y, d) :: after, d ≤ a.2) :
    nearest (before ++ (x, d) :: mid ++ (y, d) :: after) = none := by
  obtain ⟨p, hp⟩ : ∃ p : Car × Nat → Bool, p = fun a =>
    (before ++ (x, d) :: mid ++ (y, d) :: after).all (fun b => decide (a.2 ≤ b.2)) := ⟨_, rfl⟩
  have least (z : Car) : p (z, d) = true := by
    rw [hp]
    exact List.all_eq_true.mpr (fun b hb => decide_eq_true (h b hb))
  have split : (before ++ (x, d) :: mid ++ (y, d) :: after).filter p =
      before.filter p ++ (x, d) :: mid.filter p ++ (y, d) :: after.filter p := by
    simp [List.filter_cons_of_pos, least]
  have long : 2 ≤ ((before ++ (x, d) :: mid ++ (y, d) :: after).filter p).length := by
    rw [split]
    simp only [List.length_append, List.length_cons]
    omega
  rw [nearest, ← hp]
  split
  · rename_i a e
    rw [e] at long
    simp at long
  · rfl

/-- The race states in which a car may win an anonymous passage. -/
theorem State.anonPassage_predicts {g : Gate} {q : Nat} (hq : s.pointOf g = some q)
    (hs : s.race.state = .practice ∨ s.race.state = .green ∨ s.race.state = .caution ∨ s.race.state = .suspended
      ∨ s.race.state = .chequered) (l : Option Lane) (c : Capture) (o : UnattrOrigin) :
    s.anonPassage g l c o = s.predict g q l c o := by
  unfold State.anonPassage
  rcases hs with h | h | h | h | h <;> simp only [hq, h]

/-! ## Identifiers (R51, R140) -/

/-- The identifiers searched from one in range, in order. -/
def idsFrom (next : Nat) : List Nat := (List.range 255).map (fun k => (next - 1 + k) % 255 + 1)

theorem idsFrom_nodup (next : Nat) : (idsFrom next).Nodup := by
  refine List.Nodup.map_on (fun a ha b hb e => ?_) List.nodup_range
  have := List.mem_range.mp ha
  have := List.mem_range.mp hb
  omega

/-- A list of fewer than 255 identifiers leaves one free, and the first free one is taken. -/
theorem freeId_takes {used : List Nat} {next : Nat} (hu : used.length < 255) (h1 : 1 ≤ next) (h255 : next ≤ 255) :
    takesId next used (freeId used next) := by
  have free : ((idsFrom next).find? (fun i => !used.contains i)).isSome = true := by
    rw [Option.isSome_iff_ne_none]
    intro hn
    have all : idsFrom next ⊆ used := fun i hi => by simpa using List.find?_eq_none.mp hn i hi
    have := (List.subperm_of_subset (idsFrom_nodup next) all).length_le
    simp only [idsFrom, List.length_map, List.length_range] at this
    omega
  obtain ⟨i, hi⟩ := Option.isSome_iff_exists.mp free
  obtain ⟨eq, hnot, hlo, hhi⟩ := freeId_of_some hi
  obtain ⟨-, k, hk, hik, earlier⟩ := List.find?_eq_some_iff_getElem.mp hi
  have klt : k < 255 := by simpa [idsFrom] using hk
  have value : (next - 1 + k) % 255 + 1 = i := by simpa [idsFrom] using hik
  rw [eq]
  refine ⟨hlo, hhi, hnot, fun j hj => ?_⟩
  have place : j < k := by omega
  simpa [idsFrom] using earlier j place

theorem nextIdAfter_eq (i : Nat) : nextIdAfter i = if i = 255 then 1 else i + 1 := rfl

/-! ## Joining the unattributed list (R51, R52) -/

/-- An insertion stands ahead of the first element it is before. -/
theorem insertBy_split {α : Type} (before : α → α → Bool) (x : α) (l : List α) : ∃ front rest,
    l = front ++ rest ∧ insertBy before x l = front ++ x :: rest ∧ (∀ a ∈ front, before x a = false) ∧
      ∀ a, rest.head? = some a → before x a = true := by
  induction l with
  | nil => exact ⟨[], [], rfl, rfl, by simp, by simp⟩
  | cons y l ih =>
    unfold insertBy
    by_cases h : before x y = true
    · exact ⟨[], y :: l, rfl, if_pos h, by simp, fun a ha => by simpa [← Option.some.inj ha] using h⟩
    · obtain ⟨front, rest, hl, hi, hf, hr⟩ := ih
      refine ⟨y :: front, rest, congrArg (y :: ·) hl, (if_neg h).trans (congrArg (y :: ·) hi), fun a ha => ?_, hr⟩
      rcases List.mem_cons.mp ha with rfl | ha
      · simpa using h
      · exact hf a ha

/-- In an ordered list what is above the first of a rest is above all of it. -/
theorem above_of_head {α : Type} {f : α → Nat} {n : Nat} {front rest : List α}
    (ordered : (front ++ rest).Pairwise (fun a b => f a ≤ f b)) (h : ∀ a, rest.head? = some a → n < f a) :
    ∀ a ∈ rest, n < f a := by
  cases rest with
  | nil => simp
  | cons b rest =>
    have tail := (List.pairwise_cons.mp (List.pairwise_append.mp ordered).2.1).1
    intro a ha
    rcases List.mem_cons.mp ha with rfl | ha
    · exact h _ rfl
    · exact Nat.lt_of_lt_of_le (h b rfl) (tail a ha)

/-- The record a join drops first: the head of a list of 8. -/
def State.unattrDropped (s : State) : Option Unattr := if s.former.list.length < 8 then none else s.former.list.head?

/-- The list without the record dropped. -/
def State.unattrKept (s : State) : List Unattr :=
  s.former.list.filter (fun a => s.unattrDropped.all (fun h => a.id != h.id))

theorem State.makeUnattrRoom_eq (s : State) : ∃ a b, s.makeUnattrRoom = { s with
    former.list := s.unattrKept
    former.tallies.dropped := s.former.tallies.dropped + (if s.unattrDropped.isSome then 1 else 0)
    journal := s.unattrDropped.elim s.journal (fun h =>
      s.journal.added s.raceMs (.unattributedGone h.id h.origin .dropped 0))
    portA := a, portB := b } := by
  by_cases h : s.former.list.length < 8
  · refine ⟨s.portA, s.portB, ?_⟩
    simp [State.makeUnattrRoom, State.unattrKept, State.unattrDropped, h]
  · cases hl : s.former.list with
    | nil => simp [hl] at h
    | cons r rest =>
      have eq : s.makeUnattrRoom =
          (s.dropUnattr r .dropped 0).tallyPassage (fun t => { t with dropped := t.dropped + 1 }) := by
        unfold State.makeUnattrRoom
        rw [hl]
        exact if_neg (hl ▸ h)
      have dropped : s.unattrDropped = some r := by
        rw [State.unattrDropped, hl]
        exact if_neg (hl ▸ h)
      have kept : s.unattrKept = s.former.list.filter (fun x => x.id != r.id) := by
        simp [State.unattrKept, dropped]
      rw [eq, kept, dropped]
      exact ⟨_, _, rfl⟩

/-- The record a join adds, and where it stands. -/
theorem State.joinUnattr_joined (s : State) (g : Gate) (q : Nat) (l : Option Lane) (c : Capture) (o : UnattrOrigin) :
    ∃ a b id r, id = freeId (s.unattrKept.map Unattr.id) s.former.nextId ∧
      r = ⟨id, g, q, l, c, s.captureMs c, o, ⟨c.time, 3000000⟩⟩ ∧ s.joinUnattr g q l c o = { s with
        former := { s.former with
          list := insertBy (fun a b => s.laterThan b.capture.time a.capture.time) r s.unattrKept
          nextId := nextIdAfter id
          tallies := { s.former.tallies with
            joined := s.former.tallies.joined + 1
            dropped := s.former.tallies.dropped + (if s.unattrDropped.isSome then 1 else 0) } }
        journal := Journal.added (s.unattrDropped.elim s.journal (fun h =>
            s.journal.added s.raceMs (.unattributedGone h.id h.origin .dropped 0))) s.raceMs
          (.unattributed r ((3000000 - (s.time.session - c.time).toNat) / 100))
        portA := a, portB := b } := by
  obtain ⟨a, b, room⟩ := s.makeUnattrRoom_eq
  unfold State.joinUnattr
  rw [room]
  exact ⟨_, _, _, _, rfl, rfl, rfl⟩

/-! ## ASSIGN (R54) -/

theorem State.assign_accepted {id : Nat} {c : Code} {r : Unattr} {x : Car} (ha : s.race.state.assignable = true)
    (hr : s.unattr id = some r) (hx : s.car c = some x) (hm : s.mayTake x = true)
    (hs : x.race.state = .running ∨ x.race.state = .offTrack) :
    s.assign id c = if s.isStale x r then refuse .stale s else ok [] (s.assignTo r c) := by
  have may : s.mayAssign x = true := by
    rcases hs with hs | hs <;> simp [State.mayAssign, hm, hs]
  simp only [State.assign, ha, hr, hx, may, if_true]

theorem State.isStale_of {x : Car} {l : LastPassage} (hl : x.race.last = some l) (r : Unattr) :
    s.isStale x r = s.laterThan l.capture.time r.capture.time := by
  simp only [State.isStale, hl]

theorem State.isStale_not {x : Car} {r : Unattr}
    (h : ∀ l, x.race.last = some l → s.sinceGreen l.capture.time ≤ s.sinceGreen r.capture.time) :
    s.isStale x r = false := by
  cases hl : x.race.last with
  | none => simp only [State.isStale, hl]
  | some l =>
    rw [State.isStale_of hl]
    exact decide_eq_false (Nat.not_lt.mpr (h l hl))

end Sys2Proof.Machine

open Sys2Proof Sys2Proof.Machine

/-- Settles O18: the cases of an anonymous passage, the winner by the split of the candidates around it. -/
theorem anonymousPassages : Obligations.AnonymousPassages := by
  refine ⟨fun s g l c o hp => ?_, fun s g q l c o hq hs => ?_,
    fun s u g q d l c o x before after hq hs hcars hx hmin hu => ?_, fun s g q l c o hq hs h => ?_,
    fun s g q l c o drop kept hlen h1 h255 hdrop hkept => ?_⟩
  · simp only [State.anonPassage, hp]
    rfl
  · unfold State.anonPassage
    rcases hs with h | h | h | h <;> simp only [hq, h] <;> rfl
  · have near : nearest (s.candidates q l c) = some x := by
      have dx := (s.candidateDistance_iff x q l c d).mpr hx
      rw [State.candidates, hcars, List.filterMap_append, List.filterMap_cons, dx]
      refine nearest_of_split (fun a ha => ?_)
      rw [← List.filterMap_append] at ha
      obtain ⟨hmem, hq⟩ := State.mem_candidates.mp ha
      exact hmin _ hmem _ hq
    have eq : s.anonPassage g l c o = u.handOver g x ⟨x.code, q, l, c, .predicted⟩ := by
      rw [State.anonPassage_predicts hq hs, State.predict, near, hu]
      rfl
    have rearm : u.course.settings.rearm = s.course.settings.rearm := by rw [hu]
    refine ⟨fun p hp hpq hw => ?_, fun hw => ?_⟩
    · rw [eq]
      exact State.handOver_rearm (State.isRearm_of hp hpq (by rw [rearm]; exact hw))
    · rw [eq]
      exact State.handOver_taken (State.isRearm_not (by rw [rearm]; exact hw))
  · have near : nearest (s.candidates q l c) = none := by
      rcases h with h | ⟨x, y, d, before, mid, after, hcars, hx, hy, hmin⟩
      · have : s.candidates q l c = [] := List.eq_nil_iff_forall_not_mem.mpr (fun a ha =>
          h _ (State.mem_candidates.mp ha).1 _ (State.mem_candidates.mp ha).2)
        rw [this]
        rfl
      · have dx := (s.candidateDistance_iff x q l c d).mpr hx
        have dy := (s.candidateDistance_iff y q l c d).mpr hy
        have least (a : Car × Nat) (ha : a ∈ s.candidates q l c) : d ≤ a.2 :=
          hmin _ (State.mem_candidates.mp ha).1 _ (State.mem_candidates.mp ha).2
        have shape : s.candidates q l c =
            before.filterMap (fun x => (s.candidateDistance x q l c).map (fun d => (x, d))) ++ (x, d) ::
              mid.filterMap (fun x => (s.candidateDistance x q l c).map (fun d => (x, d))) ++ (y, d) ::
              after.filterMap (fun x => (s.candidateDistance x q l c).map (fun d => (x, d))) := by
          simp [State.candidates, hcars, dx, dy]
        rw [shape] at least ⊢
        exact nearest_of_two least
    rw [State.anonPassage_predicts hq hs, State.predict, near]
  · obtain rfl : drop = s.unattrDropped := hdrop
    obtain rfl : kept = s.unattrKept := hkept
    obtain ⟨a, b, id, r, hid, hr, eq⟩ := s.joinUnattr_joined g q l c o
    have short : (s.unattrKept.map Unattr.id).length < 255 := by
      have := List.length_filter_le (fun a => s.unattrDropped.all (fun h => a.id != h.id)) s.former.list
      rw [List.length_map, State.unattrKept]
      omega
    obtain ⟨before, after, split, inserted, hbefore, hafter⟩ :=
      insertBy_split (fun a b => s.laterThan b.capture.time a.capture.time) r s.unattrKept
    have time : r.capture.time = c.time := by rw [hr]
    have later (a : Unattr) (ha : after.head? = some a) : s.sinceGreen c.time < s.sinceGreen a.capture.time := by
      rw [← time]
      exact (laterThan_iff s _ _).mp (hafter a ha)
    rw [inserted] at eq
    refine ⟨s.joinUnattr g q l c o, id, r, before, after, rfl, hid ▸ freeId_takes short h1 h255, hr, split,
      fun a ha => ?_, later, fun ordered => above_of_head (split ▸ ordered) later, ?_, ?_, ?_⟩
    · rw [← time]
      exact Nat.not_lt.mp (of_decide_eq_false (hbefore a ha))
    · rw [eq, nextIdAfter_eq]
    · rw [eq]
    · rw [eq]

/-- Settles O20: ASSIGN by the order of its last two checks. -/
theorem assignRules : Obligations.AssignRules := by
  refine ⟨fun p s tag b c r x h hb hc ha hr hx hm hs hlast => ?_,
    fun p s tag b c r x l h hb hc ha hr hx hm hs hl hlast => ?_⟩
  · have id := State.unattr_id hr
    obtain ⟨pa, pb, pc, pd, ht, hans⟩ := State.serve_done (f := fun u => u.assignTo r c) h (onlyA := false) (by simp)
      rfl (fun pa pb => (assignRequest_legal hb hc _).trans ((State.assign_accepted (s := s.withPorts pa pb) ha hr hx
        hm hs).trans (if_neg (by rw [State.isStale_not (s := s.withPorts pa pb) hlast]; decide))))
      (fun pa pb => (State.assignTo_works _ r c).toMoves)
    refine ⟨_, ((s.withPorts pa pb).dropUnattr r .assigned c).tallyPassage (fun t =>
      { t with assigned := t.assigned + 1 }), ht, hans, ?_, ?_, rfl, rfl, State.processPassage_former _ _⟩
    · rw [← id]
      rfl
    · rw [← id]
      rfl
  · refine State.serve_unchanged h (onlyA := false) (by simp) rfl (fun pa pb => (assignRequest_legal hb hc _).trans
      ((State.assign_accepted (s := s.withPorts pa pb) ha hr hx hm hs).trans (if_pos ?_)))
    rw [State.isStale_of hl]
    exact decide_eq_true hlast
end

section
/-! PROOFS. The settlement of a car's serve queue; entry, withdrawal, retirement and lap adjustment (O23, O24). -/

set_option Elab.async false

namespace Sys2Proof.Machine

open Sys2Proof

variable {s t u : State}

/-! ## A list with one record replaced -/

/-- The record with an id in a list. -/
def recordIn (l : List Penalty) (id : Nat) : Option Penalty := l.find? (fun r => r.id == id)

theorem State.penalty_eq (s : State) (id : Nat) : s.penalty id = recordIn s.pen.list id := rfl

theorem recordIn_withRecord_other {r : Penalty} {id : Nat} (h : id ≠ r.id) (l : List Penalty) :
    recordIn (withRecord l r) id = recordIn l id := by
  unfold recordIn withRecord
  induction l with
  | nil => rfl
  | cons x l ih =>
    by_cases hx : x.id = r.id
    · have : x.id ≠ id := fun e => h (e.symm.trans hx)
      simpa [hx, h.symm, this] using ih
    · have keep : (x :: l).map (fun x => if x.id = r.id then r else x) =
          x :: l.map (fun x => if x.id = r.id then r else x) := by simp [hx]
      rw [keep, List.find?_cons, List.find?_cons, ih]

theorem recordIn_withRecord_self {r : Penalty} {l : List Penalty} (h : r.id ∈ l.map Penalty.id) :
    recordIn (withRecord l r) r.id = some r := by
  unfold recordIn withRecord
  induction l with
  | nil => cases h
  | cons x l ih =>
    by_cases hx : x.id = r.id
    · simp [hx]
    · have : r.id ∈ l.map Penalty.id := (List.mem_cons.mp h).resolve_left (fun e => hx e.symm)
      simpa [hx] using ih this

/-! ## The settlement of a car's queue (R155, R156) -/

/-- A queued record once it is settled: converted when it was CONFIRMED, SERVED when it was SERVING. -/
def Penalty.cleared (r : Penalty) : Penalty := if r.state = .confirmed then r.converted else r.servedNow

theorem Penalty.cleared_id (r : Penalty) : r.cleared.id = r.id := by
  unfold Penalty.cleared
  split <;> rfl

theorem Penalty.cleared_not_queued (r : Penalty) : r.cleared.queued = false := by
  unfold Penalty.cleared
  split <;> exact Bool.and_false _

/-- The records of a list settled, one after the other. -/
def withCleared (l rs : List Penalty) : List Penalty := rs.foldl (fun m r => withRecord m r.cleared) l

theorem mem_withCleared {l rs : List Penalty} {x : Penalty} (h : x ∈ withCleared l rs) :
    (x ∈ l ∧ ∀ r ∈ rs, x.id ≠ r.id) ∨ x.queued = false := by
  induction rs generalizing l with
  | nil => exact .inl ⟨h, by simp⟩
  | cons r rs ih =>
    rcases ih h with ⟨hx, hne⟩ | hx
    · rcases mem_withRecord hx with rfl | ⟨hx, hr⟩
      · exact .inr r.cleared_not_queued
      · exact .inl ⟨hx, by simpa [r.cleared_id ▸ hr] using hne⟩
    · exact .inr hx

theorem withCleared_ids (l rs : List Penalty) : (withCleared l rs).map Penalty.id = l.map Penalty.id := by
  induction rs generalizing l with
  | nil => rfl
  | cons r rs ih => exact (ih _).trans (withRecord_ids _ _)

theorem recordIn_withCleared_other {l rs : List Penalty} {id : Nat} (h : ∀ r ∈ rs, id ≠ r.id) :
    recordIn (withCleared l rs) id = recordIn l id := by
  induction rs generalizing l with
  | nil => rfl
  | cons r rs ih =>
    have head : id ≠ r.cleared.id := r.cleared_id ▸ h r List.mem_cons_self
    exact (ih (fun q hq => h q (List.mem_cons_of_mem _ hq))).trans (recordIn_withRecord_other head l)

/-- With distinct identifiers each settled record is found in its place. -/
theorem recordIn_withCleared {l rs : List Penalty} (nodup : (rs.map Penalty.id).Nodup)
    (sub : ∀ r ∈ rs, r.id ∈ l.map Penalty.id) : ∀ r ∈ rs, recordIn (withCleared l rs) r.id = some r.cleared := by
  induction rs generalizing l with
  | nil => simp
  | cons q rs ih =>
    obtain ⟨fresh, nodup⟩ := List.nodup_cons.mp nodup
    have distinct : ∀ r ∈ rs, q.id ≠ r.id := fun r hr e => fresh (e ▸ List.mem_map_of_mem hr)
    intro r hr
    rcases List.mem_cons.mp hr with rfl | hr
    · refine (recordIn_withCleared_other distinct).trans ?_
      rw [← r.cleared_id]
      exact recordIn_withRecord_self (r.cleared_id ▸ sub r List.mem_cons_self)
    · exact ih nodup (fun a ha => by
        rw [withRecord_ids]
        exact sub a (List.mem_cons_of_mem _ ha)) r hr

/-- One record of a settlement, with the flag that the totals changed. -/
def State.settling (k : PenaltyCause) (a : State × Bool) (r : Penalty) : State × Bool :=
  match a.1.settleQueued k r with
  | some (v, t) => (v, a.2 || t)
  | none => a

theorem State.settleCar_eq (s : State) (c : Code) (k : PenaltyCause) : s.settleCar c k =
    if (s.serveQueue c).isEmpty then s
    else ((s.serveQueue c).foldl (State.settling k) (s, false)).1.handOn k c
      ((s.serveQueue c).foldl (State.settling k) (s, false)).2 := rfl

theorem State.settleCar_empty {c : Code} (h : s.serveQueue c = []) (k : PenaltyCause) : s.settleCar c k = s := by
  rw [State.settleCar_eq, h]
  rfl

/-- The time penalty total of a car after the settlement of these records. -/
def clearedTime (n : Nat) (rs : List Penalty) : Nat :=
  rs.foldl (fun n r => if r.state = .confirmed then min 65535 (n + r.conversion) else n) n

theorem clearedTime_eq {n : Nat} (h : n ≤ 65535) (rs : List Penalty) : clearedTime n rs =
    min 65535 (n + ((rs.filter (fun r => r.state == .confirmed)).map Penalty.conversion).sum) := by
  induction rs generalizing n with
  | nil => simp [clearedTime, h]
  | cons r rs ih =>
    by_cases hr : r.state = .confirmed
    · have step : clearedTime n (r :: rs) = clearedTime (min 65535 (n + r.conversion)) rs := by
        simp [clearedTime, hr]
      rw [step, ih (by omega)]
      simp only [List.filter_cons, hr, beq_self_eq_true, if_true, List.map_cons, List.sum_cons]
      omega
    · have step : clearedTime n (r :: rs) = clearedTime n rs := by simp [clearedTime, hr]
      rw [step, ih h]
      simp [hr]

/-- Of a car, the time penalty total. -/
def Car.withTime (x : Car) (n : Nat) : Car := { x with race := { x.race with timePenalty := n } }

theorem State.addTime_car (s : State) (c : Code) (n : Nat) {x : Car} (h : s.car c = some x) :
    (s.addTime c n).car c = some (x.withTime (min 65535 (x.race.timePenalty + n))) := by
  rw [State.addTime, State.modRace_car_self, h]
  rfl

theorem State.settling_list {k : PenaltyCause} {rs : List Penalty} (h : ∀ r ∈ rs, r.queued = true)
    (a : State × Bool) : (rs.foldl (State.settling k) a).1.pen.list = withCleared a.1.pen.list rs := by
  induction rs generalizing a with
  | nil => rfl
  | cons r rs ih =>
    refine (ih (fun q hq => h q (List.mem_cons_of_mem _ hq)) _).trans ?_
    have one : (State.settling k a r).1.pen.list = withRecord a.1.pen.list r.cleared := by
      have hq := h r List.mem_cons_self
      unfold State.settling State.settleQueued Penalty.cleared
      by_cases hr : r.state = .confirmed
      · simp [hq, hr, withRecord]
      · simp [hq, hr, withRecord]
    rw [one]
    rfl

theorem State.settling_car {k : PenaltyCause} {c : Code} {rs : List Penalty} (h : ∀ r ∈ rs, r.queued = true)
    (hc : ∀ r ∈ rs, r.code = c) (a : State × Bool) {x : Car} (hx : a.1.car c = some x) :
    (rs.foldl (State.settling k) a).1.car c = some (x.withTime (clearedTime x.race.timePenalty rs)) := by
  induction rs generalizing a x with
  | nil => exact hx
  | cons r rs ih =>
    have hq := h r List.mem_cons_self
    have rest := @ih (fun q hq => h q (List.mem_cons_of_mem _ hq)) (fun q hq => hc q (List.mem_cons_of_mem _ hq))
      (State.settling k a r)
    have code := hc r List.mem_cons_self
    by_cases hr : r.state = .confirmed
    · have one : (State.settling k a r).1.car c =
          some (x.withTime (min 65535 (x.race.timePenalty + r.conversion))) := by
        have eq : (State.settling k a r).1 =
            ((a.1.addTime r.code r.conversion).putPenalty r.converted).noticePenalty k r.converted := by
          simp [State.settling, State.settleQueued, hq, hr]
        rw [eq, ← State.addTime_car a.1 c r.conversion hx, code]
        exact State.car_congr (by simp) c
      have time : clearedTime x.race.timePenalty (r :: rs) =
          clearedTime (min 65535 (x.race.timePenalty + r.conversion)) rs := by simp [clearedTime, hr]
      rw [time]
      exact rest one
    · have one : (State.settling k a r).1.car c = some x := by
        have eq : (State.settling k a r).1 = (a.1.putPenalty r.servedNow).noticePenalty k r.servedNow := by
          simp [State.settling, State.settleQueued, hq, hr]
        rw [eq, ← hx]
        exact State.car_congr (by simp) c
      have time : clearedTime x.race.timePenalty (r :: rs) = clearedTime x.race.timePenalty rs := by
        simp [clearedTime, hr]
      rw [time]
      exact rest one

theorem State.mem_serveQueue {c : Code} {r : Penalty} :
    r ∈ s.serveQueue c ↔ r ∈ s.pen.list ∧ r.code = c ∧ r.queued = true := by
  simp [State.serveQueue]

theorem State.serveQueue_congr (h : t.pen.list = s.pen.list) (c : Code) : t.serveQueue c = s.serveQueue c := by
  rw [State.serveQueue, h, State.serveQueue]

/-- The list after the settlement of a car's queue. -/
theorem State.settleCar_list (s : State) (c : Code) (k : PenaltyCause) :
    (s.settleCar c k).pen.list = withCleared s.pen.list (s.serveQueue c) := by
  rw [State.settleCar_eq]
  split
  · rename_i h
    rw [List.isEmpty_iff.mp h]
    rfl
  · rw [State.handOn_pen]
    exact State.settling_list (fun r hr => (State.mem_serveQueue.mp hr).2.2) _

theorem State.settleCar_car {c : Code} {x : Car} (hx : s.car c = some x) (k : PenaltyCause) :
    (s.settleCar c k).car c = some (x.withTime (clearedTime x.race.timePenalty (s.serveQueue c))) := by
  rw [State.settleCar_eq]
  split
  · rename_i h
    rw [List.isEmpty_iff.mp h]
    exact hx
  · rw [State.car_congr (State.handOn_roster _ _ _ _)]
    exact State.settling_car (fun r hr => (State.mem_serveQueue.mp hr).2.2)
      (fun r hr => (State.mem_serveQueue.mp hr).2.1) _ hx

/-- After its settlement a car has no queue. -/
theorem State.settleCar_serveQueue (s : State) (c : Code) (k : PenaltyCause) :
    (s.settleCar c k).serveQueue c = [] := by
  refine List.eq_nil_iff_forall_not_mem.mpr (fun r hr => ?_)
  obtain ⟨hmem, hc, hq⟩ := State.mem_serveQueue.mp hr
  rw [State.settleCar_list] at hmem
  rcases mem_withCleared hmem with ⟨hm, hne⟩ | hn
  · exact hne r (State.mem_serveQueue.mpr ⟨hm, hc, hq⟩) rfl
  · rw [hq] at hn
    cases hn

/-! ## A race that closes by its last car (R130, R132) -/

/-- A car of a race that closes keeps everything but its silence deadline and what it is charged. -/
theorem State.closeRace_car {c : Code} {x : Car} (hx : s.car c = some x) (hs : x.race.silence = none)
    (r : StateReason) : ∃ y, (s.closeRace r).car c = some y ∧ y.uncharged = x.uncharged := by
  have roster : (s.closeRace r).roster = (s.closing r).settleClose.roster := by
    rw [State.closeRace_eq, State.showState_roster, State.resort_roster]
  have before : (s.closing r).car c = some x := by
    have roster' : ((s.closedClocks.announce s.race.state r).applyShadow).roster = s.roster := by
      rw [State.applyShadow_roster, State.announce_roster, s.closedClocks_frame]
    have same : x = { x with race := { x.race with silence := none } } := by rw [← hs]
    rw [State.closing, State.mapCars_car (f := fun x => { x with race := { x.race with silence := none } })
      (fun _ => rfl), State.car_congr (t := s) roster', hx]
    exact congrArg some same.symm
  rw [State.car_congr roster]
  exact (State.settleClose_charges _).car_some before

/-- A closed race leaves no serve queue. -/
theorem State.closeRace_serveQueue (s : State) (r : StateReason) (c : Code) : (s.closeRace r).serveQueue c = [] := by
  obtain ⟨-, -, -, -, -, settled, -⟩ := s.closeRace_closed r s.portA s.portB (s.closeRace r).portA (s.closeRace r).portB
  refine List.eq_nil_iff_forall_not_mem.mpr (fun q hq => ?_)
  obtain ⟨hmem, -, hq⟩ := State.mem_serveQueue.mp hq
  obtain ⟨-, -, hn⟩ := settled q hmem
  rw [hq] at hn
  cases hn

theorem State.doneTest_car {c : Code} {x : Car} (hx : s.car c = some x) (hs : x.race.silence = none) :
    ∃ y, s.doneTest.car c = some y ∧ y.uncharged = x.uncharged := by
  unfold State.doneTest
  split
  · exact State.closeRace_car hx hs _
  · exact ⟨x, hx, rfl⟩

theorem State.doneTest_serveQueue {c : Code} (h : s.serveQueue c = []) : s.doneTest.serveQueue c = [] := by
  unfold State.doneTest
  split
  · exact s.closeRace_serveQueue _ c
  · exact h

theorem State.closeRace_state (s : State) (r : StateReason) : (s.closeRace r).race.state = .closed := by
  obtain ⟨race, -⟩ := s.closeRace_closed r s.portA s.portB (s.closeRace r).portA (s.closeRace r).portB
  exact congrArg RaceCtl.state race

theorem State.doneTest_state (s : State) : s.doneTest.race.state = s.race.state ∨
    s.race.state = .chequered ∧ s.doneTest.race.state = .closed := by
  unfold State.doneTest
  split
  · rename_i h
    exact .inr ⟨h.1, s.closeRace_state _⟩
  · exact .inl rfl

/-! ## The row of a drive slot (R164, R167) -/

theorem State.recomputeDrive_row (s : State) (n : Nat) (d : DriveIx) : (s.recomputeDrive n).power.rows[d] =
    if d.val + 1 = n then s.rowOf d else s.power.rows[d] := by
  have hd := d.isLt
  unfold State.recomputeDrive
  split
  · rename_i h
    simp only [State.putRows_rows]
    by_cases he : d.val + 1 = n
    · obtain rfl : n = d.val + 1 := he.symm
      rw [if_pos rfl]
      exact Vector.getElem_set_self _
    · rw [if_neg he]
      exact Vector.getElem_set_ne _ _ (by omega)
  · rename_i h
    rw [if_neg (fun he => h (by omega))]

/-- The rows after a change of one drive slot, whatever the ports. -/
theorem State.recomputeDrive_rows {p : Power} (hp : s.power = p) (n : Nat) (a b : Port) (d : DriveIx) :
    ((s.recomputeDrive n).withPorts a b).power.rows[d] =
      if d.val + 1 = n then ((s.recomputeDrive n).withPorts a b).rowOf d else p.rows[d] := by
  have row : ((s.recomputeDrive n).withPorts a b).rowOf d = s.rowOf d :=
    State.rowOf_congr (by simp) (by simp) (by simp) (by simp) (by simp) d
  subst hp
  rw [row]
  exact s.recomputeDrive_row n d

/-! ## Entry (R71, R72) -/

/-- The grid slots that entered cars hold. -/
def State.gridsHeld (s : State) : List Nat := (s.cars.filter Car.entered).filterMap Car.gridSlot

theorem State.gridHeld_iff (s : State) (n : Nat) :
    s.gridHeld n = true ↔ ∃ y ∈ s.cars, y.entered = true ∧ y.gridSlot = some n := by
  simp [State.gridHeld]

theorem State.gridHeld_not {n : Nat} (h : ∀ y ∈ s.cars, y.entered = true → y.gridSlot ≠ some n) :
    s.gridHeld n = false := by
  rw [Bool.eq_false_iff]
  intro held
  obtain ⟨y, hy, he, hn⟩ := (s.gridHeld_iff n).mp held
  exact h y hy he hn

theorem State.mem_gridsHeld (s : State) (n : Nat) : n ∈ s.gridsHeld ↔ s.gridHeld n = true := by
  simp [State.gridsHeld, State.gridHeld_iff, and_assoc]

/-- Fewer than 32 entered cars leave a grid slot free: the lowest one is 1 to 32. -/
theorem State.lowestGrid_spec (h : s.entryCount < 32) : 1 ≤ s.lowestGrid ∧ s.lowestGrid ≤ 32 ∧
    s.gridHeld s.lowestGrid = false ∧ ∀ n, 1 ≤ n → n < s.lowestGrid → s.gridHeld n = true := by
  have free : (((List.range 32).map (· + 1)).find? (fun n => !s.gridHeld n)).isSome = true := by
    rw [Option.isSome_iff_ne_none]
    intro hn
    have all : (List.range 32).map (· + 1) ⊆ s.gridsHeld := fun n hm =>
      (s.mem_gridsHeld n).mpr (by simpa using List.find?_eq_none.mp hn n hm)
    have distinct : ((List.range 32).map (· + 1)).Nodup := by decide
    have long := (List.subperm_of_subset distinct all).length_le
    have short : s.gridsHeld.length ≤ s.entryCount := by
      rw [State.entryCount, List.countP_eq_length_filter]
      exact List.length_filterMap_le _ _
    simp only [List.length_map, List.length_range] at long
    omega
  obtain ⟨g, hg⟩ := Option.isSome_iff_exists.mp free
  have eq : s.lowestGrid = g := by rw [State.lowestGrid, hg]; rfl
  obtain ⟨hfree, k, hk, hgk, earlier⟩ := List.find?_eq_some_iff_getElem.mp hg
  have klt : k < 32 := by simpa using hk
  have value : k + 1 = g := by simpa using hgk
  rw [eq]
  refine ⟨by omega, by omega, by simpa using hfree, fun n h1 hn => ?_⟩
  have := earlier (n - 1) (by omega)
  simpa [Nat.sub_add_cancel h1] using this

theorem State.enter_accepted {c : Code} {grid : Nat} {x : Car} (hx : s.car c = some x) (he : x.entered = false)
    (hn : s.entryCount < 32) (hd : x.drive ≠ 0) (hheld : s.driveHeld x.drive = false)
    (hg : grid ≠ 0 → s.gridHeld grid = false) : s.enter c grid =
      ok (u8 (if grid = 0 then s.lowestGrid else grid)) (s.enterCar x (if grid = 0 then s.lowestGrid else grid)) := by
  have grids : (decide (grid ≠ 0) && s.gridHeld grid) = false := by
    by_cases h : grid = 0
    · simp [h]
    · simp [hg h]
  simp only [State.enter, hx, he, Bool.false_eq_true, if_false, Nat.not_le.mpr hn, hd, decide_false, hheld,
    Bool.or_self, grids]

/-- What ENTER does with its payload. -/
def enterRequest (payload : List Byte) (u : State) : Served :=
  match carCodeOf payload 0, gridOf (natAt payload 2) with
  | some c, some grid => if u.race.state = .idle then u.enter c grid else refuse .refusedState u
  | _, _ => refuse .badArgument u

theorem exec_enter (p : PortId) (tag : Byte) (payload : List Byte) (s : State) :
    exec (.enter p tag payload) s = s.serve p 0x1D tag payload true 3 (enterRequest payload) := rfl

theorem enterRequest_legal {c : Code} {grid : Nat} (hc : validCode c = true) (hg : grid ≤ 32)
    (hs : s.race.state = .idle) : enterRequest (codeBytes c ++ u8 grid) s = s.enter c grid := by
  have readGrid : natAt (codeBytes c ++ u8 grid) 2 = grid := natAt_u8 (by omega) []
  unfold enterRequest
  rw [carCodeOf_codeBytes hc, readGrid, gridOf, if_pos hg]
  exact if_pos hs

/-- What WITHDRAW does with its payload. -/
def withdrawRequest (payload : List Byte) (u : State) : Served :=
  match carCodeOf payload 0 with
  | some c => if u.race.state = .idle then u.withdraw c else refuse .refusedState u
  | none => refuse .badArgument u

theorem exec_withdraw (p : PortId) (tag : Byte) (payload : List Byte) (s : State) :
    exec (.withdraw p tag payload) s = s.serve p 0x1E tag payload true 2 (withdrawRequest payload) := rfl

theorem withdrawRequest_legal {c : Code} (hc : validCode c = true) (hs : s.race.state = .idle) :
    withdrawRequest (codeBytes c) s = s.withdraw c := by
  have readCode : carCodeOf (codeBytes c) 0 = some c := carCodeOf_codeBytes hc []
  unfold withdrawRequest
  rw [readCode]
  exact if_pos hs

theorem State.withdraw_accepted {c : Code} {x : Car} (hx : s.car c = some x) (he : x.entered = true) :
    s.withdraw c = ok [] (s.withdrawCar x) := by
  simp only [State.withdraw, hx, he, if_true]

theorem State.standEnter_frame (s : State) (c : Code) (n : Nat) :
    s.standEnter c n = { s with stand := (s.standEnter c n).stand } := by
  unfold State.standEnter
  split <;> rfl

theorem State.standWithdraw_frame (s : State) (c : Code) :
    s.standWithdraw c = { s with stand := (s.standWithdraw c).stand } := by
  unfold State.standWithdraw
  split <;> rfl

/-! ## Retirement and adjustment (R75, R109) -/

theorem State.retire_accepted {c : Code} {x : Car} (hx : s.car c = some x) (he : x.entered = true)
    (h1 : x.race.state ≠ .retired) (h2 : x.race.state ≠ .finished) : s.retire c = ok [] (s.retireCar c) := by
  unfold State.retire
  cases hs : x.race.state <;> simp_all

/-- What RETIRE does with its payload. -/
def retireRequest (payload : List Byte) (u : State) : Served :=
  match carCodeOf payload 0 with
  | some c => if u.race.state.racing then u.retire c else refuse .refusedState u
  | none => refuse .badArgument u

theorem exec_retire (p : PortId) (tag : Byte) (payload : List Byte) (s : State) :
    exec (.retire p tag payload) s = s.serve p 0x1F tag payload true 2 (retireRequest payload) := rfl

theorem retireRequest_legal {c : Code} (hc : validCode c = true) (hs : s.race.state.racing = true) :
    retireRequest (codeBytes c) s = s.retire c := by
  have readCode : carCodeOf (codeBytes c) 0 = some c := carCodeOf_codeBytes hc []
  unfold retireRequest
  rw [readCode]
  exact if_pos hs

/-- What ADJUST_LAPS does with its payload. -/
def adjustRequest (payload : List Byte) (u : State) : Served :=
  match carCodeOf payload 0 with
  | some c =>
    if u.race.state.racing then u.adjustLaps c (clampInt (-9) 9 (byteAt payload 2).toInt) else refuse .refusedState u
  | none => refuse .badArgument u

theorem exec_adjustLaps (p : PortId) (tag : Byte) (payload : List Byte) (s : State) :
    exec (.adjustLaps p tag payload) s = s.serve p 0x20 tag payload true 3 (adjustRequest payload) := rfl

theorem adjustRequest_legal {c : Code} {d : Byte} (hc : validCode c = true) (hs : s.race.state.racing = true) :
    adjustRequest (codeBytes c ++ [d]) s = s.adjustLaps c (clampInt (-9) 9 d.toInt) := by
  unfold adjustRequest
  rw [carCodeOf_codeBytes hc]
  exact if_pos hs

/-- A retirement up to the test of R130. -/
def State.retired (s : State) (c : Code) : State :=
  (((s.modRace c (fun r => { r with state := .retired, silence := none })).settleCar c .retire).resort
    .retire).recomputeCar c

theorem State.retireCar_eq (s : State) (c : Code) : s.retireCar c = (s.retired c).doneTest := rfl

theorem State.retired_car {c : Code} {x : Car} (hx : s.car c = some x) : ∃ y, (s.retired c).car c = some y ∧
    y.race.state = .retired ∧ y.race.silence = none ∧ y.race.counted = x.race.counted := by
  have mod : (s.modRace c (fun r => { r with state := .retired, silence := none })).car c =
      some { x with race := { x.race with state := .retired, silence := none } } := by
    rw [State.modRace_car_self, hx]
    rfl
  have roster : (s.retired c).roster =
      ((s.modRace c (fun r => { r with state := .retired, silence := none })).settleCar c .retire).roster := by
    simp [State.retired]
  rw [State.car_congr roster, State.settleCar_car mod]
  exact ⟨_, rfl, rfl, rfl, rfl⟩

theorem State.retired_serveQueue (s : State) (c : Code) : (s.retired c).serveQueue c = [] := by
  have pen : (s.retired c).pen =
      ((s.modRace c (fun r => { r with state := .retired, silence := none })).settleCar c .retire).pen := by
    simp [State.retired]
  rw [State.serveQueue_congr (congrArg PenaltyUnit.list pen)]
  exact State.settleCar_serveQueue _ _ _

theorem State.retired_race (s : State) (c : Code) : (s.retired c).race = s.race := by
  simp only [State.retired, State.recomputeCar_race, State.resort_race]
  rw [(State.settleCar_charges _ _ _).race, State.modRace_race]

/-- An accepted lap adjustment. -/
def State.adjusted (s : State) (c : Code) (a : Int) : State :=
  (s.modRace c (fun r => { r with adjust := a })).resort .adjust

theorem State.adjustLaps_accepted {c : Code} {x : Car} (hx : s.car c = some x) (he : x.entered = true) (d : Int) :
    s.adjustLaps c d = ok (i16 (clampInt (-999) 999 (x.race.adjust + d)) ++
        u16 ((s.adjusted c (clampInt (-999) 999 (x.race.adjust + d))).effectiveOf c))
      (s.adjusted c (clampInt (-999) 999 (x.race.adjust + d))) := by
  simp only [State.adjustLaps, hx, he, if_true]
  rfl

theorem State.adjusted_moves (s : State) (c : Code) (a : Int) : s.Moves (s.adjusted c a) :=
  (State.Works.after (State.resort_works _ _) (s.modRace_works c _)).toMoves

theorem State.adjusted_car {c : Code} {x : Car} (hx : s.car c = some x) (a : Int) :
    s.carSet (s.adjusted c a) c { x with race := { x.race with adjust := a } } :=
  State.carSet_congr (u := s.modRace c (fun r => { r with adjust := a })) (by simp [State.adjusted])
    (State.modCar_carSet (f := fun x => { x with race := { x.race with adjust := a } }) (fun _ => rfl) hx)

theorem RacePart.effective_cast (r : RacePart) :
    (r.effective : Int) = max 0 (min 65535 ((r.counted : Int) + r.adjust - (r.deductions : Int))) :=
  Int.toNat_of_nonneg (Int.le_max_left _ _)

end Sys2Proof.Machine

open Sys2Proof Sys2Proof.Machine

/-- Settles O23: ENTER in the order of its checks, with the lowest free grid slot by counting; WITHDRAW. -/
theorem entryRequests : Obligations.EntryRequests := by
  refine ⟨fun s tag c grid x h hc hgrid hs hx he hn hd hheld hg => ?_, fun s tag c x h hc hs hx he => ?_⟩
  · have code := State.car_code hx
    obtain ⟨low1, low32, lowfree, lowest⟩ := State.lowestGrid_spec hn
    have held : s.driveHeld x.drive = false := by
      simp only [State.driveHeld, List.any_eq_false, Bool.and_eq_true, decide_eq_true_eq, not_and]
      exact fun y hy he => hheld y hy he
    have grids : grid ≠ 0 → s.gridHeld grid = false := fun h0 => State.gridHeld_not (fun y hy he => hg y hy he h0)
    obtain ⟨slot, hslot⟩ : ∃ n, n = if grid = 0 then s.lowestGrid else grid := ⟨_, rfl⟩
    have body (a b : Port) : enterRequest (codeBytes c ++ u8 grid) (s.withPorts a b) =
        ok (u8 slot) ((s.withPorts a b).enterCar x slot) := by
      rw [enterRequest_legal hc hgrid (by exact hs), hslot]
      exact State.enter_accepted (s := s.withPorts a b) hx he hn (by omega) held grids
    rw [exec_enter]
    obtain ⟨a, b, e, f, ht, ha⟩ := State.serve_done (f := fun u => u.enterCar x slot) h (onlyA := true) (fun _ => rfl)
      rfl body (fun a b => (State.enterCar_works _ x slot).toMoves)
    have frame := ((s.withPorts a b).modCar x.code
      (fun y => { y with entered := true, gridSlot := some slot })).standEnter_frame x.code slot
    have power : (((s.withPorts a b).modCar x.code
        (fun y => { y with entered := true, gridSlot := some slot })).standEnter x.code slot).power = s.power := by
      rw [frame]
      exact State.modCar_power _ _ _
    refine ⟨_, slot, ht, ha, fun h0 => by rw [hslot, if_neg h0], fun h0 => ?_, ?_, State.recomputeDrive_rows power x.drive e f, ?_⟩
    · rw [hslot, if_pos h0]
      exact ⟨low1, low32, fun y hy he hg => Bool.false_ne_true (lowfree.symm.trans
        ((s.gridHeld_iff _).mpr ⟨y, hy, he, hg⟩)), fun n h1 hn => (s.gridHeld_iff n).mp (lowest n h1 hn)⟩
    · refine State.carSet_congr (u := (s.withPorts a b).modCar c
        (fun y => { y with entered := true, gridSlot := some slot })) ?_
        (State.modCar_carSet (s := s.withPorts a b) (f := fun y => { y with entered := true, gridSlot := some slot })
          (fun _ => rfl) hx)
      rw [State.enterCar, frame, code]
      simp
    · rw [State.enterCar, frame]
      exact State.ext_blocks
  · have code := State.car_code hx
    have body (a b : Port) : withdrawRequest (codeBytes c) (s.withPorts a b) =
        ok [] ((s.withPorts a b).withdrawCar x) :=
      (withdrawRequest_legal hc (by exact hs)).trans (State.withdraw_accepted (s := s.withPorts a b) hx he)
    rw [exec_withdraw]
    obtain ⟨a, b, e, f, ht, ha⟩ := State.serve_done (f := fun u => u.withdrawCar x) h (onlyA := true) (fun _ => rfl)
      rfl body (fun a b => (State.withdrawCar_works _ x).toMoves)
    have frame := ((s.withPorts a b).modCar x.code
      (fun y => { y with entered := false, gridSlot := none })).standWithdraw_frame x.code
    have power : (((s.withPorts a b).modCar x.code
        (fun y => { y with entered := false, gridSlot := none })).standWithdraw x.code).power = s.power := by
      rw [frame]
      exact State.modCar_power _ _ _
    refine ⟨_, ht, ha, ?_, State.recomputeDrive_rows power x.drive e f, ?_⟩
    · refine State.carSet_congr (u := (s.withPorts a b).modCar c
        (fun y => { y with entered := false, gridSlot := none })) ?_
        (State.modCar_carSet (s := s.withPorts a b) (f := fun y => { y with entered := false, gridSlot := none })
          (fun _ => rfl) hx)
      rw [State.withdrawCar, frame, code]
      simp
    · rw [State.withdrawCar, frame]
      exact State.ext_blocks

/-- Settles O24: a retirement settles the car's queue before the test of R130; an adjustment is clamped and re-sorted. -/
theorem retireAndAdjust : Obligations.RetireAndAdjust := by
  refine ⟨fun s tag c x h hc hr hx he h1 h2 => ?_, fun s tag d c x h hc hr hx he => ?_⟩
  · have body (a b : Port) : retireRequest (codeBytes c) (s.withPorts a b) = ok [] ((s.withPorts a b).retireCar c) :=
      (retireRequest_legal hc (by exact hr)).trans (State.retire_accepted (s := s.withPorts a b) hx he h1 h2)
    rw [exec_retire]
    obtain ⟨a, b, e, f, ht, ha⟩ := State.serve_done (f := fun u => u.retireCar c) h (onlyA := true) (fun _ => rfl)
      rfl body (fun a b => (State.retireCar_works _ c).toMoves)
    obtain ⟨y, hy, hstate, hsilence, hcounted⟩ := State.retired_car (s := s.withPorts a b) hx
    obtain ⟨z, hz, same⟩ := State.doneTest_car hy hsilence
    have queue := State.doneTest_serveQueue ((s.withPorts a b).retired_serveQueue c)
    have state := ((s.withPorts a b).retired c).doneTest_state
    rw [State.retired_race] at state
    rw [State.retireCar_eq] at ht ha
    obtain ⟨v, hv⟩ : ∃ v, v = ((s.withPorts a b).retired c).doneTest := ⟨_, rfl⟩
    rw [← hv] at hz queue state ht ha
    refine ⟨_, z, ht, ha, hz, ?_, ?_, ?_, queue, state⟩
    · exact (congrArg (fun x => x.race.state) same).trans hstate
    · exact (congrArg (fun x => x.race.silence) same).trans hsilence
    · exact (congrArg (fun x => x.race.counted) same).trans hcounted
  · obtain ⟨a, ha⟩ : ∃ a, a = clampInt (-999) 999 (x.race.adjust + clampInt (-9) 9 d.toInt) := ⟨_, rfl⟩
    obtain ⟨r, hr'⟩ : ∃ r : RacePart, r = { x.race with adjust := a } := ⟨_, rfl⟩
    have body (p q : Port) : adjustRequest (codeBytes c ++ [d]) (s.withPorts p q) =
        ok (i16 a ++ u16 r.effective) ((s.withPorts p q).adjusted c a) := by
      refine (adjustRequest_legal hc (by exact hr)).trans
        ((State.adjustLaps_accepted (s := s.withPorts p q) hx he _).trans ?_)
      rw [← ha, State.effectiveOf, (State.adjusted_car (s := s.withPorts p q) hx a).1, hr']
      rfl
    rw [exec_adjustLaps]
    obtain ⟨p, q, e, f, ht, hans⟩ := State.serve_done (f := fun u => u.adjusted c a) h (onlyA := true) (fun _ => rfl)
      rfl body (fun p q => State.adjusted_moves _ c a)
    refine ⟨_, a, r.effective, ht, ha, ?_, hans, State.adjusted_car (s := s.withPorts p q) hx a, ?_, ?_⟩
    · rw [r.effective_cast, hr']
    · exact (State.resort_charges _ _).formed.trans (by simp)
    · simp only [State.adjusted]
      exact State.ext_blocks
end

section
/-! PROOFS. Course edits (O25). -/

set_option Elab.async false

namespace Sys2Proof.Machine

open Sys2Proof

variable {s t u : State}

/-! ## Fields of the course requests -/

theorem natAt_byte {n : Nat} (h : n < 256) (rest : List Byte) : natAt (BitVec.ofNat 8 n :: rest) 0 = n :=
  natAt_u8 h rest

theorem boolOf_byte (b : Bool) : boolOf (if b then 1 else 0) = some b := by
  cases b <;> rfl

theorem laneRuleOf_code (r : LaneRule) : laneRuleOf (BitVec.ofNat 8 r.toCode) = some r := by
  cases r <;> rfl

theorem pitRuleOf_code (r : PitRule) : pitRuleOf (BitVec.ofNat 8 r.toCode) = some r := by
  cases r <;> rfl

theorem pointGateOf_byte (g : Option Gate) :
    pointGateOf (match g with | some g => gateByte g | none => 0) = some g := by
  cases g with
  | none => rfl
  | some g =>
    have nonzero : gateByte g ≠ 0 := by
      revert g
      decide
    simp only [pointGateOf, nonzero, if_false, gateOf_gateByte, Option.map_some]

/-! ## The point count (R82) -/

/-- What SET_POINT_COUNT does with its payload. -/
def pointCountRequest (payload : List Byte) (u : State) : Served :=
  if !u.race.state.configurable then refuse .refusedState u
  else ok (u8 (clamp 2 12 (natAt payload 0)))
    (if clamp 2 12 (natAt payload 0) = u.pointCount then u else u.resizeCourse (clamp 2 12 (natAt payload 0)))

theorem exec_setPointCount (p : PortId) (tag : Byte) (payload : List Byte) (s : State) :
    exec (.setPointCount p tag payload) s = s.serve p 0x10 tag payload true 1 (pointCountRequest payload) := rfl

theorem RaceState.configurable_of {r : RaceState} (h : r = .idle ∨ r = .practice) : r.configurable = true := by
  rcases h with h | h <;> rw [h] <;> rfl

theorem pointCountRequest_legal (hs : s.race.state = .idle ∨ s.race.state = .practice) (b : Byte) :
    pointCountRequest [b] s = ok (u8 (clamp 2 12 b.toNat))
      (if clamp 2 12 b.toNat = s.pointCount then s else s.resizeCourse (clamp 2 12 b.toNat)) := by
  unfold pointCountRequest
  rw [RaceState.configurable_of hs]
  rfl

/-! ## A course point (R83) -/

/-- What SET_COURSE_POINT does with its payload. -/
def coursePointRequest (payload : List Byte) (u : State) : Served :=
  match pointGateOf (byteAt payload 1), boolOf (byteAt payload 2), boolOf (byteAt payload 3) with
  | some gate, some serving, some pit =>
    if natAt payload 0 < u.pointCount then u.setPointChecked (natAt payload 0) ⟨gate, serving, pit⟩
    else refuse .badArgument u
  | _, _, _ => refuse .badArgument u

theorem exec_setCoursePoint (p : PortId) (tag : Byte) (payload : List Byte) (s : State) :
    exec (.setCoursePoint p tag payload) s = s.serve p 0x11 tag payload true 4 (coursePointRequest payload) := rfl

theorem coursePointRequest_legal {i : Nat} (hi : i < 256) (hp : i < s.course.points.length) (q : CoursePoint) :
    coursePointRequest [BitVec.ofNat 8 i, (match q.gate with | some g => gateByte g | none => 0),
      if q.serving then 1 else 0, if q.pit then 1 else 0] s = s.setPointChecked i q := by
  unfold coursePointRequest
  simp only [byteAt, List.getD_cons_succ, List.getD_cons_zero, pointGateOf_byte, boolOf_byte, natAt_byte hi]
  exact if_pos hp

theorem State.gateElsewhere_not {i : Nat} {g : Gate}
    (h : ∀ j q, s.course.points[j]? = some q → q.gate = some g → j = i) : s.gateElsewhere i g = false := by
  refine List.any_eq_false.mpr (fun a ha => ?_)
  have here := h a.2 a.1 (List.mem_zipIdx_iff_getElem?.mp ha)
  simp only [Bool.and_eq_true, decide_eq_true_eq, not_and, not_not]
  exact here

theorem State.setPointChecked_legal {i : Nat} {q : CoursePoint}
    (hs : s.race.state = .idle ∨ s.race.state = .practice)
    (hg : ∀ g, q.gate = some g → s.bus.heads[g].state ≠ .off ∧
      ∀ j p, s.course.points[j]? = some p → p.gate = some g → j = i) :
    s.setPointChecked i q = ok [] (s.writePoint i q) := by
  simp only [State.setPointChecked, RaceState.configurable_of hs, Bool.not_true, Bool.false_eq_true, if_false]
  cases h : q.gate with
  | none => rfl
  | some g =>
    obtain ⟨on, only⟩ := hg g h
    simp only [State.gateElsewhere_not only, Bool.false_eq_true, if_false, on]

theorem setPoint_self {l : List CoursePoint} {i : Nat} (h : i < l.length) (q : CoursePoint) :
    (setPoint l i q)[i]? = some q := by
  unfold setPoint
  refine List.getElem?_set_self ?_
  split
  · rwa [List.length_map]
  · exact h

theorem setPoint_other {l : List CoursePoint} {i j : Nat} (h : j ≠ i) (q : CoursePoint) :
    (setPoint l i q)[j]? = (l[j]?).map (fun x => if q.serving then { x with serving := false } else x) := by
  unfold setPoint
  rw [List.getElem?_set_ne h.symm]
  cases q.serving <;> simp

/-- A point written: the map, and on a change of its gate the effects of a structural edit. -/
theorem State.writePoint_eq (s : State) (i : Nat) (q : CoursePoint) : s.writePoint i q =
    if (s.course.points[i]?).map CoursePoint.gate = some q.gate then
      { s with course.points := setPoint s.course.points i q }
    else ({ s with course.points := setPoint s.course.points i q } : State).structuralEdit := rfl

/-! ## A section (R84, R85) -/

/-- What SET_SECTION does with its payload. -/
def sectionRequest (payload : List Byte) (u : State) : Served :=
  match sectorOf payload with
  | some t => if natAt payload 0 < u.pointCount then u.writeSector (natAt payload 0) t else refuse .badArgument u
  | none => refuse .badArgument u

theorem exec_setSection (p : PortId) (tag : Byte) (payload : List Byte) (s : State) :
    exec (.setSection p tag payload) s = s.serve p 0x12 tag payload true 9 (sectionRequest payload) := rfl

theorem sectorOf_payload {b : Byte} (lane : LaneRule) (pit : PitRule) {mn nom pm : Nat} (hmn : mn < 65536)
    (hnom : nom < 65536) (hpm : pm < 65536) :
    sectorOf ([b, BitVec.ofNat 8 lane.toCode, BitVec.ofNat 8 pit.toCode] ++ u16 mn ++ u16 nom ++ u16 pm) =
      some ⟨lane, pit, mn, max 1 nom, pm⟩ := by
  obtain ⟨p, hp⟩ : ∃ p, p = [b, BitVec.ofNat 8 lane.toCode, BitVec.ofNat 8 pit.toCode] ++ u16 mn ++ u16 nom ++ u16 pm :=
    ⟨_, rfl⟩
  have first : byteAt p 1 = BitVec.ofNat 8 lane.toCode := by rw [hp]; rfl
  have second : byteAt p 2 = BitVec.ofNat 8 pit.toCode := by rw [hp]; rfl
  have least : wordAt p 3 = mn := by rw [hp]; exact wordAt_u16 hmn (u16 nom ++ u16 pm)
  have nominal : wordAt p 5 = nom := by rw [hp]; exact wordAt_u16 hnom (u16 pm)
  have last : wordAt p 7 = pm := by rw [hp]; exact wordAt_u16 hpm []
  have range : clamp 1 65535 nom = max 1 nom := by
    simp only [clamp]
    omega
  rw [← hp, sectorOf, first, second, laneRuleOf_code, pitRuleOf_code, least, nominal, last, range]
  rfl

theorem sectionRequest_legal {i : Nat} (hi : i < 256) (hp : i < s.course.points.length) (lane : LaneRule)
    (pit : PitRule) {mn nom pm : Nat} (hmn : mn < 65536) (hnom : nom < 65536) (hpm : pm < 65536) :
    sectionRequest ([BitVec.ofNat 8 i, BitVec.ofNat 8 lane.toCode, BitVec.ofNat 8 pit.toCode] ++ u16 mn ++ u16 nom ++
      u16 pm) s = s.writeSector i ⟨lane, pit, mn, max 1 nom, pm⟩ := by
  have index : natAt ([BitVec.ofNat 8 i, BitVec.ofNat 8 lane.toCode, BitVec.ofNat 8 pit.toCode] ++ u16 mn ++ u16 nom ++
      u16 pm) 0 = i := natAt_byte hi _
  unfold sectionRequest
  rw [sectorOf_payload lane pit hmn hnom hpm, index]
  exact if_pos hp

theorem State.writeSector_applied (hs : s.race.state = .idle ∨ s.race.state = .practice) (i : Nat) (t : Sector) :
    s.writeSector i t = ok [0] { s with course.sectors := s.course.sectors.set i t } := by
  unfold State.writeSector
  rcases hs with h | h <;> simp only [h]

theorem State.writeSector_pending (hs : s.race.state.racing = true) (i : Nat) (t : Sector) :
    s.writeSector i t = ok [1] (s.writeShadow i t) := by
  unfold State.writeSector
  cases h : s.race.state <;> simp_all [RaceState.racing]

theorem State.writeSector_refused (hs : ¬ (s.race.state = .idle ∨ s.race.state = .practice))
    (hr : ¬ s.race.state.racing = true) (i : Nat) (t : Sector) : s.writeSector i t = refuse .refusedState s := by
  unfold State.writeSector
  cases h : s.race.state <;> simp_all [RaceState.racing]

end Sys2Proof.Machine

open Sys2Proof Sys2Proof.Machine

/-- Settles O25: the three edits of the course, each by what it writes. -/
theorem courseEdits : Obligations.CourseEdits := by
  refine ⟨fun s tag b n h hs hn => ?_, fun s tag i gate serving pit payload hpl h hs hi hp hg => ?_,
    fun s tag i lane pit mn nom pm payload hpl h hi hp hmn hnom hpm => ?_⟩
  · obtain rfl : clamp 2 12 b.toNat = n := hn.symm
    have body (p q : Port) := pointCountRequest_legal (s := s.withPorts p q) hs b
    rw [exec_setPointCount]
    by_cases he : clamp 2 12 b.toNat = s.course.points.length
    · simp only [if_pos he]
      exact State.serve_unchanged h (fun _ => rfl) rfl (fun p q => (body p q).trans (congrArg (ok _) (if_pos he)))
    · simp only [if_neg he]
      refine State.serve_does (fun u => u.resizeCourse (clamp 2 12 b.toNat)) h (onlyA := true) (fun _ => rfl) rfl
        (fun p q => (body p q).trans (congrArg (ok _) (if_neg he)))
        (fun p q => (State.resizeCourse_works _ _).toMoves) (fun p q e f => ⟨rfl, ?_, rfl⟩)
      exact State.carsMapped_of (x := s) rfl rfl
  · subst hpl
    rw [exec_setCoursePoint]
    refine State.serve_does (fun u => u.writePoint i ⟨gate, serving, pit⟩) h (onlyA := true) (fun _ => rfl) rfl
      (fun p q => (coursePointRequest_legal (s := s.withPorts p q) (by omega) hp ⟨gate, serving, pit⟩).trans
        (State.setPointChecked_legal (s := s.withPorts p q) hs hg))
      (fun p q => (State.writePoint_works _ _ _).toMoves) (fun p q e f => ?_)
    have points : ((s.withPorts p q).writePoint i ⟨gate, serving, pit⟩).course =
        { s.course with points := setPoint s.course.points i ⟨gate, serving, pit⟩ } := by
      rw [State.writePoint_eq]
      split <;> rfl
    refine ⟨?_, fun j hj => ?_, ?_, ?_, ?_⟩
    · rw [← setPoint_self hp ⟨gate, serving, pit⟩]
      exact congrArg (fun c => c.points[i]?) points
    · rw [← setPoint_other hj ⟨gate, serving, pit⟩]
      exact congrArg (fun c => c.points[j]?) points
    · exact points.trans (congrArg (fun l => { s.course with points := l }) (congrArg Course.points points).symm)
    · by_cases hsame : (s.course.points[i]?).map CoursePoint.gate = some gate
      · rw [if_pos hsame, State.writePoint_eq, if_pos (by exact hsame)]
      · rw [if_neg hsame, State.writePoint_eq, if_neg (by exact hsame)]
        exact State.carsMapped_of (x := s) rfl rfl
    · rw [State.writePoint_eq]
      split <;> rfl
  · subst hpl
    rw [exec_setSection]
    have body (p q : Port) := sectionRequest_legal (s := s.withPorts p q) (by omega : i < 256) hp lane pit hmn hnom hpm
    obtain ⟨v, hv⟩ : ∃ v : Sector, v = ⟨lane, pit, mn, max 1 nom, pm⟩ := ⟨_, rfl⟩
    rw [← hv] at body ⊢
    by_cases hs : s.race.state = .idle ∨ s.race.state = .practice
    · simp only [if_pos hs]
      exact State.serve_does (fun u => { u with course.sectors := u.course.sectors.set i v }) h (onlyA := true)
        (fun _ => rfl) rfl (fun p q => (body p q).trans (State.writeSector_applied (s := s.withPorts p q) hs i v))
        (fun p q => State.Works.toMoves .of_frame) (fun p q e f => ⟨rfl, rfl⟩)
    · by_cases hr : s.race.state.racing = true
      · simp only [if_neg hs, if_pos hr]
        exact State.serve_does
          (fun u => { u with course.shadow := some ((u.course.shadow.getD u.course.sectors).set i v) }) h (onlyA := true) (fun _ => rfl) rfl
          (fun p q => (body p q).trans (State.writeSector_pending (s := s.withPorts p q) hr i v))
          (fun p q => State.Works.toMoves .of_frame) (fun p q e f => ⟨rfl, rfl⟩)
      · simp only [if_neg hs, if_neg hr]
        exact State.serve_unchanged h (fun _ => rfl) rfl
          (fun p q => (body p q).trans (State.writeSector_refused (s := s.withPorts p q) hs hr i v))
end

section
/-! PROOFS. Settings, start program and schedule: what the requests read, store and answer (O26, O27). -/

set_option Elab.async false

namespace Sys2Proof.Machine

open Sys2Proof

variable {s t u : State}

/-! ## Enumerations (R199, R200) -/

theorem raceModeOf_code (m : RaceMode) : raceModeOf (BitVec.ofNat 8 m.toCode) = some m := by
  cases m <;> rfl

theorem gridPositionOf_code (g : GridPosition) : gridPositionOf (BitVec.ofNat 8 g.toCode) = some g := by
  cases g <;> rfl

theorem deslotActionOf_code (d : DeslotAction) : deslotActionOf (BitVec.ofNat 8 d.toCode) = some d := by
  cases d <;> rfl

theorem jumpActionOf_code (j : JumpAction) : jumpActionOf (BitVec.ofNat 8 j.toCode) = some j := by
  cases j <;> rfl

theorem outcomeOf_code (o : PenaltyOutcome) : outcomeOf (BitVec.ofNat 8 o.toCode) = some o := by
  cases o <;> rfl

theorem reviewModeOf_code (m : ReviewMode) : reviewModeOf (BitVec.ofNat 8 m.toCode) = some m := by
  cases m <;> rfl

theorem automaticKindOf_byte (k : Fin 6) : automaticKindOf (BitVec.ofNat 8 k.val) = some k := by
  revert k
  decide

theorem stepIndexOf_byte (i : Fin 16) : stepIndexOf (BitVec.ofNat 8 i.val) = some i := by
  revert i
  decide

/-- A byte above a code is not that code. -/
theorem byte_ne {b : Byte} {n : Nat} (h : n < b.toNat) (c : Byte) (hc : c.toNat ≤ n) : b ≠ c := by
  rintro rfl
  exact Nat.not_lt.mpr hc h

theorem twoCodes_none {α : Type} {b : Byte} (h : 1 < b.toNat) (x y : α) :
    (if b = 0 then some x else if b = 1 then some y else none) = none := by
  rw [if_neg (byte_ne h 0 (by decide)), if_neg (byte_ne h 1 (by decide))]

theorem outcomeOf_none {b : Byte} (h : 5 < b.toNat) : outcomeOf b = none := by
  rw [outcomeOf, if_neg (byte_ne h 0 (by decide)), if_neg (byte_ne h 1 (by decide)), if_neg (byte_ne h 2 (by decide)),
    if_neg (byte_ne h 3 (by decide)), if_neg (byte_ne h 4 (by decide)), if_neg (byte_ne h 5 (by decide))]

theorem reviewModeOf_none {b : Byte} (h : 2 < b.toNat) : reviewModeOf b = none := by
  rw [reviewModeOf, if_neg (byte_ne h 0 (by decide)), if_neg (byte_ne h 1 (by decide)), if_neg (byte_ne h 2 (by decide))]

/-! ## Race settings (R87) -/

/-- Settings read with every enumeration in range. -/
theorem settingsOf_of {p : List Byte} {mode : RaceMode} {grid : GridPosition} {deslot : DeslotAction}
    {jump : JumpAction} (hm : raceModeOf (byteAt p 0) = some mode) (hg : gridPositionOf (byteAt p 4) = some grid)
    (hd : deslotActionOf (byteAt p 8) = some deslot) (hj : jumpActionOf (byteAt p 9) = some jump) :
    settingsOf p = some {
      mode := mode, limit := clampLimit mode (wordAt p 1), finishWindow := clamp 5 255 (natAt p 3)
      gridPosition := grid, missTolerance := clamp 0 3 (natAt p 5), silenceLimit := clamp 10 255 (natAt p 6)
      rearm := clamp 1 255 (natAt p 7), deslot := deslot, jump := jump, cautionCap := clamp 0 63 (natAt p 10)
      driveCap := clamp 0 63 (natAt p 11), pitCap := clamp 0 63 (natAt p 12), coolCap := clamp 0 63 (natAt p 13)
      practiceCap := clamp 0 63 (natAt p 14), laneCount := clamp 2 6 (natAt p 15) } := by
  rw [settingsOf, hm, hg, hd, hj]
  rfl

/-- A byte outside its enumeration makes the settings unreadable. -/
theorem settingsOf_none {p : List Byte} (h : 1 < (byteAt p 0).toNat ∨ 1 < (byteAt p 4).toNat
    ∨ 1 < (byteAt p 8).toNat ∨ 1 < (byteAt p 9).toNat) : settingsOf p = none := by
  refine Option.eq_none_iff_forall_ne_some.mpr (fun v hv => ?_)
  simp only [settingsOf, Option.bind_eq_bind, Option.bind_eq_some_iff] at hv
  obtain ⟨mode, hm, grid, hg, deslot, hd, jump, hj, -⟩ := hv
  rcases h with h | h | h | h
  · rw [raceModeOf, twoCodes_none h] at hm
    cases hm
  · rw [gridPositionOf, twoCodes_none h] at hg
    cases hg
  · rw [deslotActionOf, twoCodes_none h] at hd
    cases hd
  · rw [jumpActionOf, twoCodes_none h] at hj
    cases hj

/-- What SET_RACE_SETTINGS does with its payload. -/
def settingsRequest (payload : List Byte) (u : State) : Served :=
  match settingsOf payload with
  | some t => if u.race.state.configurable then ok t.encode (u.putSettings t) else refuse .refusedState u
  | none => refuse .badArgument u

theorem exec_setRaceSettings (p : PortId) (tag : Byte) (payload : List Byte) (s : State) :
    exec (.setRaceSettings p tag payload) s = s.serve p 0x0F tag payload true 16 (settingsRequest payload) := rfl

theorem settingsRequest_legal {payload : List Byte} {v : Settings} (hv : settingsOf payload = some v)
    (hs : s.race.state = .idle ∨ s.race.state = .practice) :
    settingsRequest payload s = ok v.encode (s.putSettings v) := by
  unfold settingsRequest
  rw [hv]
  exact if_pos (RaceState.configurable_of hs)

theorem settingsRequest_bad {payload : List Byte} (h : settingsOf payload = none) (s : State) :
    settingsRequest payload s = refuse .badArgument s := by
  unfold settingsRequest
  rw [h]

/-! ## The start program (R117) -/

/-- The steps of a payload. -/
def stepsOf (p : List Byte) : Vector ProgramStep 16 :=
  #v[stepOf p 0, stepOf p 1, stepOf p 2, stepOf p 3, stepOf p 4, stepOf p 5, stepOf p 6, stepOf p 7, stepOf p 8,
    stepOf p 9, stepOf p 10, stepOf p 11, stepOf p 12, stepOf p 13, stepOf p 14, stepOf p 15]

theorem stepsOf_getElem (p : List Byte) (i : Fin 16) : (stepsOf p)[i] = stepOf p i.val := by
  fin_cases i <;> rfl

theorem programOf_of {p : List Byte} {g0 g1 c0 c1 : Fin 16} (h0 : stepIndexOf (byteAt p 64) = some g0)
    (h1 : stepIndexOf (byteAt p 65) = some g1) (k0 : stepIndexOf (byteAt p 66) = some c0)
    (k1 : stepIndexOf (byteAt p 67) = some c1) (hb : ∀ i < 16, (byteAt p (4 * i))[6] = false) (hg : g0 ≤ g1)
    (hc : c0 ≤ c1) : programOf p = some ⟨stepsOf p, g0, g1, c0, c1⟩ := by
  have bits : (List.range 16).any (fun i => (byteAt p (4 * i))[6]) = false :=
    List.any_eq_false.mpr (fun i hi => by simp [hb i (List.mem_range.mp hi)])
  rw [programOf, h0, h1, k0, k1]
  simp only [Option.bind_eq_bind, Option.bind_some, bits, decide_eq_false (not_lt.mpr hg),
    decide_eq_false (not_lt.mpr hc), Bool.or_self, Bool.false_eq_true, if_false]
  rfl

theorem stepIndexOf_some {b : Byte} {i : Fin 16} (h : stepIndexOf b = some i) : b.toNat = i.val := by
  unfold stepIndexOf at h
  split at h
  · cases h
    rfl
  · cases h

theorem stepIndexOf_none {b : Byte} (h : 15 < b.toNat) : stepIndexOf b = none := dif_neg (by omega)

/-- A range that runs backwards or ends above 15, or a pattern with bit 6 set, makes the program unreadable. -/
theorem programOf_none {p : List Byte} (h : 15 < (byteAt p 65).toNat ∨ 15 < (byteAt p 67).toNat
    ∨ (byteAt p 65).toNat < (byteAt p 64).toNat ∨ (byteAt p 67).toNat < (byteAt p 66).toNat
    ∨ ∃ i : Fin 16, (byteAt p (4 * i.val)).getLsbD 6 = true) : programOf p = none := by
  refine Option.eq_none_iff_forall_ne_some.mpr (fun v hv => ?_)
  simp only [programOf, Option.bind_eq_bind, Option.bind_eq_some_iff] at hv
  obtain ⟨g0, h0, g1, h1, c0, k0, c1, k1, hv⟩ := hv
  split at hv
  · cases hv
  · rename_i hno
    simp only [Bool.or_eq_true, decide_eq_true_eq, List.any_eq_true, List.mem_range, not_or, not_exists, not_and,
      not_lt] at hno
    obtain ⟨⟨bits, hg⟩, hc⟩ := hno
    have e0 := stepIndexOf_some h0
    have e1 := stepIndexOf_some h1
    have f0 := stepIndexOf_some k0
    have f1 := stepIndexOf_some k1
    rcases h with h | h | h | h | ⟨i, h⟩
    · rw [stepIndexOf_none h] at h1
      cases h1
    · rw [stepIndexOf_none h] at k1
      cases k1
    · rw [e0, e1] at h
      exact absurd hg (not_le.mpr h)
    · rw [f0, f1] at h
      exact absurd hc (not_le.mpr h)
    · exact bits i.val i.isLt h

/-- What SET_START_PROGRAM does with its payload. -/
def programRequest (payload : List Byte) (u : State) : Served :=
  match programOf payload with
  | some t => if u.race.state.configurable then ok t.encode { u with race.program := t } else refuse .refusedState u
  | none => refuse .badArgument u

theorem exec_setStartProgram (p : PortId) (tag : Byte) (payload : List Byte) (s : State) :
    exec (.setStartProgram p tag payload) s = s.serve p 0x0E tag payload true 68 (programRequest payload) := rfl

theorem programRequest_legal {payload : List Byte} {v : StartProgram} (hv : programOf payload = some v)
    (hs : s.race.state = .idle ∨ s.race.state = .practice) :
    programRequest payload s = ok v.encode { s with race.program := v } := by
  unfold programRequest
  rw [hv]
  exact if_pos (RaceState.configurable_of hs)

theorem programRequest_bad {payload : List Byte} (h : programOf payload = none) (s : State) :
    programRequest payload s = refuse .badArgument s := by
  unfold programRequest
  rw [h]

/-! ## The schedule (R138) -/

theorem scheduleRowOf_of {p : List Byte} {k : Fin 6} {o : PenaltyOutcome} {m : ReviewMode}
    (hk : automaticKindOf (byteAt p 0) = some k) (ho : outcomeOf (byteAt p 1) = some o)
    (hm : reviewModeOf (byteAt p 3) = some m) : scheduleRowOf p = some (k, {
      outcome := o, amount := clampAmount o (natAt p 2), mode := m, window := natAt p 4
      conversion := clamp 1 255 (natAt p 5) }) := by
  rw [scheduleRowOf, hk, ho, hm]
  rfl

theorem automaticKindOf_none {b : Byte} (h : 5 < b.toNat) : automaticKindOf b = none := dif_neg (by omega)

theorem scheduleRowOf_none {p : List Byte} (h : 5 < (byteAt p 0).toNat ∨ 5 < (byteAt p 1).toNat
    ∨ 2 < (byteAt p 3).toNat) : scheduleRowOf p = none := by
  refine Option.eq_none_iff_forall_ne_some.mpr (fun v hv => ?_)
  simp only [scheduleRowOf, Option.bind_eq_bind, Option.bind_eq_some_iff] at hv
  obtain ⟨k, hk, o, ho, m, hm, -⟩ := hv
  rcases h with h | h | h
  · rw [automaticKindOf_none h] at hk
    cases hk
  · rw [outcomeOf_none h] at ho
    cases ho
  · rw [reviewModeOf_none h] at hm
    cases hm

/-- What SET_SCHEDULE does with its payload. -/
def scheduleRequest (payload : List Byte) (u : State) : Served :=
  match scheduleRowOf payload with
  | some (k, row) =>
    if u.race.state = .idle then
      ok (row.encode k.val) { u with pen.schedule := u.pen.schedule.set k row }
    else refuse .refusedState u
  | none => refuse .badArgument u

theorem exec_setSchedule (p : PortId) (tag : Byte) (payload : List Byte) (s : State) :
    exec (.setSchedule p tag payload) s = s.serve p 0x21 tag payload true 6 (scheduleRequest payload) := rfl

theorem scheduleRequest_legal {payload : List Byte} {k : Fin 6} {v : ScheduleRow}
    (hv : scheduleRowOf payload = some (k, v)) (hs : s.race.state = .idle) :
    scheduleRequest payload s = ok (v.encode k.val) { s with pen.schedule := s.pen.schedule.set k v } := by
  unfold scheduleRequest
  rw [hv]
  exact if_pos hs

theorem scheduleRequest_bad {payload : List Byte} (h : scheduleRowOf payload = none) (s : State) :
    scheduleRequest payload s = refuse .badArgument s := by
  unfold scheduleRequest
  rw [h]

/-! ## What the layouts write (R198) -/

theorem natAt_u8_at {p : List Byte} {i n : Nat} (h : byteAt p i = BitVec.ofNat 8 n) (hn : n < 256) :
    natAt p i = n := by
  rw [natAt, h, BitVec.toNat_ofNat]
  omega

theorem wordAt_u16_at {p : List Byte} {i n : Nat} (h : byteAt p i = BitVec.ofNat 8 n)
    (k : byteAt p (i + 1) = BitVec.ofNat 8 (n / 256)) (hn : n < 65536) : wordAt p i = n := by
  rw [wordAt, natAt, natAt, h, k, BitVec.toNat_ofNat, BitVec.toNat_ofNat]
  omega

theorem clamp_id {lo hi n : Nat} (h : lo ≤ n) (k : n ≤ hi) : clamp lo hi n = n := by
  simp only [clamp]
  omega

theorem clampLimit_lt (m : RaceMode) (n : Nat) : clampLimit m n < 65536 := by
  cases m <;> simp only [clampLimit, clamp] <;> omega

theorem clampAmount_lt (o : PenaltyOutcome) (n : Nat) : clampAmount o n < 256 := by
  cases o <;> simp only [clampAmount, clamp] <;> omega

theorem stepBytes_length (l : List ProgramStep) : (l.flatMap ProgramStep.encode).length = 4 * l.length := by
  induction l with
  | nil => rfl
  | cons a l ih =>
    rw [List.flatMap_cons, List.length_append, ih, List.length_cons, show a.encode.length = 4 from rfl]
    omega

/-- A field of a step is read from the four bytes written for it. -/
theorem byteAt_flatMap {l : List ProgramStep} {i : Nat} (hi : i < l.length) {k : Nat} (hk : k < 4)
    (rest : List Byte) :
    byteAt (l.flatMap ProgramStep.encode ++ rest) (4 * i + k) = byteAt l[i].encode k := by
  induction l generalizing i with
  | nil => simp at hi
  | cons a l ih =>
    have four : a.encode.length = 4 := rfl
    cases i with
    | zero =>
      simp only [byteAt, List.flatMap_cons, List.append_assoc, List.getD_eq_getElem?_getD, Nat.mul_zero, Nat.zero_add,
        List.getElem_cons_zero]
      rw [List.getElem?_append_left (by omega)]
    | succ i =>
      have rest' := ih (i := i) (Nat.lt_of_succ_lt_succ hi)
      simp only [byteAt, List.flatMap_cons, List.append_assoc, List.getD_eq_getElem?_getD] at rest' ⊢
      rw [List.getElem?_append_right (by omega), four, show 4 * (i + 1) + k - 4 = 4 * i + k by omega, rest']
      rfl

/-- The four bytes of a step hold its pattern, its times and its jump watch. -/
theorem ProgramStep.encode_pattern (p : BitVec 6) (j : Bool) :
    (BitVec.ofNat 8 (p.toNat + if j then 0x80 else 0)).setWidth 6 = p ∧
      (BitVec.ofNat 8 (p.toNat + if j then 0x80 else 0))[6] = false ∧
      (BitVec.ofNat 8 (p.toNat + if j then 0x80 else 0))[7] = j := by
  revert p j
  decide

/-- A step is read from the four bytes written for it. -/
theorem stepOf_written {p : List Byte} {i : Nat} {q : ProgramStep}
    (head : byteAt p (4 * i) = BitVec.ofNat 8 (q.pattern.toNat + if q.jumpWatch then 0x80 else 0))
    (low : byteAt p (4 * i + 1) = BitVec.ofNat 8 q.duration)
    (high : byteAt p (4 * i + 1 + 1) = BitVec.ofNat 8 (q.duration / 256))
    (extra : byteAt p (4 * i + 3) = BitVec.ofNat 8 q.extension) (hd : q.duration < 65536) (he : q.extension < 256) :
    stepOf p i = q := by
  obtain ⟨setWidth, -, watch⟩ := ProgramStep.encode_pattern q.pattern q.jumpWatch
  rw [stepOf, wordAt_u16_at low high hd, natAt_u8_at extra he]
  simp only [head, setWidth, watch]

end Sys2Proof.Machine

open Sys2Proof Sys2Proof.Machine

/-- Settles O26: what the settings requests decode is stored and sent back; a byte out of range is refused. -/
theorem settingsRequests : Obligations.SettingsRequests := by
  refine ⟨fun s tag payload v h hl hv hs => ?_, fun s tag payload v h hl hv hs => ?_,
    fun s tag payload k v h hl hv hs => ?_, ?_, ?_, fun s tag payload h hl hbad => ?_,
    fun s tag payload h hl hbad => ?_, fun s tag payload h hl hbad => ?_⟩
  · rw [exec_setRaceSettings]
    refine State.serve_does (fun u => u.putSettings v) h (onlyA := true) (fun _ => rfl) hl
      (fun a b => settingsRequest_legal hv hs) (fun a b => (State.putSettings_works _ v).toMoves)
      (fun a b e f => ?_)
    by_cases hc : v.caps = s.course.settings.caps
    · have eq : (s.withPorts a b).putSettings v = { s.withPorts a b with course.settings := v } := if_pos hc
      rw [eq]
      exact ⟨rfl, (if_pos hc).mpr rfl, rfl, rfl⟩
    · have eq : (s.withPorts a b).putSettings v =
          ({ s.withPorts a b with course.settings := v } : State).recomputeAll := if_neg hc
      rw [eq]
      obtain ⟨u, hu⟩ : ∃ u : State, u = { s.withPorts a b with course.settings := v } := ⟨_, rfl⟩
      rw [← hu]
      have rows : u.recomputeAll.power = { s.power with
          rows := u.recomputeAll.power.rows, epoch := u.recomputeAll.power.epoch } := by
        rw [State.recomputeAll, u.putRows_power, hu]
      refine ⟨?_, (if_neg hc).mpr (fun d => ?_), ?_, ?_⟩
      · rw [State.withPorts, State.recomputeAll_course, hu]
      · exact (u.recomputeAll_row d).trans
          (State.rowOf_congr (by simp) (by simp) (by simp) (by simp) (by simp) d).symm
      · have enable : u.recomputeAll.power.trackEnable = s.power.trackEnable := by rw [rows]
        exact rows.trans (congrArg (fun e => { s.power with
          rows := u.recomputeAll.power.rows, epoch := u.recomputeAll.power.epoch, trackEnable := e }) enable.symm)
      · subst hu
        exact State.ext_blocks
  · rw [exec_setStartProgram]
    exact State.serve_does (fun u => { u with race.program := v }) h (onlyA := true) (fun _ => rfl) hl
      (fun a b => programRequest_legal hv hs) (fun a b => State.Moves.of_frame id) (fun a b e f => rfl)
  · rw [exec_setSchedule]
    exact State.serve_does (fun u => { u with pen.schedule := u.pen.schedule.set k v }) h (onlyA := true)
      (fun _ => rfl) hl (fun a b => scheduleRequest_legal hv hs) (fun a b => State.Works.toMoves .of_frame)
      (fun a b e f => rfl)
  · intro m l h w gp mt sl re de ju cc dc pc co pr lc mode grid deslot jump hm hg hd hj
    subst hm hg hd hj
    refine (settingsOf_of (p := [_, l, h, w, _, mt, sl, re, _, _, cc, dc, pc, co, pr, lc]) (raceModeOf_code mode)
      (gridPositionOf_code grid) (deslotActionOf_code deslot) (jumpActionOf_code jump)).trans ?_
    simp only [clamp_zero_le]
    cases mode <;> rfl
  · intro kb ob a mb w cv k o m hk ho hm
    subst hk ho hm
    refine (scheduleRowOf_of (p := [_, _, a, _, w, cv]) (automaticKindOf_byte k) (outcomeOf_code o)
      (reviewModeOf_code m)).trans ?_
    cases o <;> rfl
  · exact State.serve_unchanged h (fun _ => rfl) hl (fun a b => settingsRequest_bad (settingsOf_none hbad) _)
  · exact State.serve_unchanged h (fun _ => rfl) hl (fun a b => programRequest_bad (programOf_none hbad) _)
  · exact State.serve_unchanged h (fun _ => rfl) hl (fun a b => scheduleRequest_bad (scheduleRowOf_none hbad) _)

/-- Settles O27: each field is read from the bytes its layout writes it to, and stands within its clamp. -/
theorem settingsRoundTrip : Obligations.SettingsRoundTrip := by
  refine ⟨fun v hl fw1 fw2 mt sl1 sl2 re1 re2 cc dc pc co pr lc1 lc2 => ⟨rfl, ?_⟩, fun v hsteps hg hc => ?_,
    fun k v ha hw h1 h2 => ⟨rfl, ?_⟩⟩
  · obtain ⟨p, hp⟩ : ∃ p, p = [BitVec.ofNat 8 v.mode.toCode, BitVec.ofNat 8 v.limit, BitVec.ofNat 8 (v.limit / 256),
      BitVec.ofNat 8 v.finishWindow, BitVec.ofNat 8 v.gridPosition.toCode, BitVec.ofNat 8 v.missTolerance,
      BitVec.ofNat 8 v.silenceLimit, BitVec.ofNat 8 v.rearm, BitVec.ofNat 8 v.deslot.toCode,
      BitVec.ofNat 8 v.jump.toCode, BitVec.ofNat 8 v.cautionCap, BitVec.ofNat 8 v.driveCap, BitVec.ofNat 8 v.pitCap,
      BitVec.ofNat 8 v.coolCap, BitVec.ofNat 8 v.practiceCap, BitVec.ofNat 8 v.laneCount] := ⟨_, rfl⟩
    have written : v.encode = p := hp.symm
    have limit : wordAt p 1 = v.limit := wordAt_u16_at (by rw [hp]; rfl) (by rw [hp]; rfl)
      (hl ▸ clampLimit_lt v.mode v.limit)
    have field {i n : Nat} (h : byteAt p i = BitVec.ofNat 8 n) {lo hi : Nat} (h1 : lo ≤ n) (h2 : n ≤ hi)
        (hhi : hi ≤ 255) : clamp lo hi (natAt p i) = n := by
      rw [natAt_u8_at h (by omega), clamp_id h1 h2]
    rw [written, settingsOf_of (p := p) (mode := v.mode) (grid := v.gridPosition) (deslot := v.deslot) (jump := v.jump)
      (by rw [hp]; exact raceModeOf_code v.mode) (by rw [hp]; exact gridPositionOf_code v.gridPosition)
      (by rw [hp]; exact deslotActionOf_code v.deslot) (by rw [hp]; exact jumpActionOf_code v.jump), limit, ← hl,
      field (n := v.finishWindow) (by rw [hp]; rfl) fw1 fw2 (by decide),
      field (n := v.missTolerance) (by rw [hp]; rfl) (Nat.zero_le _) mt (by decide),
      field (n := v.silenceLimit) (by rw [hp]; rfl) sl1 sl2 (by decide),
      field (n := v.rearm) (by rw [hp]; rfl) re1 re2 (by decide),
      field (n := v.cautionCap) (by rw [hp]; rfl) (Nat.zero_le _) cc (by decide),
      field (n := v.driveCap) (by rw [hp]; rfl) (Nat.zero_le _) dc (by decide),
      field (n := v.pitCap) (by rw [hp]; rfl) (Nat.zero_le _) pc (by decide),
      field (n := v.coolCap) (by rw [hp]; rfl) (Nat.zero_le _) co (by decide),
      field (n := v.practiceCap) (by rw [hp]; rfl) (Nat.zero_le _) pr (by decide),
      field (n := v.laneCount) (by rw [hp]; rfl) lc1 lc2 (by decide)]
  · obtain ⟨last, hlast⟩ : ∃ l, l = u8 v.g0.val ++ u8 v.g1.val ++ u8 v.c0.val ++ u8 v.c1.val := ⟨_, rfl⟩
    have split : v.encode = v.steps.toList.flatMap ProgramStep.encode ++ last := by simp [StartProgram.encode, hlast]
    have long := stepBytes_length v.steps.toList
    rw [Vector.length_toList] at long
    have field (i : Fin 16) {k : Nat} (hk : k < 4) :
        byteAt v.encode (4 * i.val + k) = byteAt v.steps[i].encode k := by
      rw [split, byteAt_flatMap (by simp) hk]
      simp
    have range (k : Nat) : byteAt v.encode (64 + k) = byteAt last k := by
      simp only [split, byteAt, List.getD_eq_getElem?_getD]
      rw [List.getElem?_append_right (by omega), long]
      congr 3
      omega
    have steps : stepsOf v.encode = v.steps := Vector.ext (fun i hi => by
      obtain ⟨duration, extension⟩ := hsteps ⟨i, hi⟩
      exact (stepsOf_getElem v.encode ⟨i, hi⟩).trans (stepOf_written (field ⟨i, hi⟩ (k := 0) (by decide))
        (field ⟨i, hi⟩ (k := 1) (by decide)) (field ⟨i, hi⟩ (k := 2) (by decide))
        (field ⟨i, hi⟩ (k := 3) (by decide)) duration extension))
    refine ⟨?_, ?_⟩
    · rw [split, List.length_append, long, hlast]
      rfl
    · rw [programOf_of (g0 := v.g0) (g1 := v.g1) (c0 := v.c0) (c1 := v.c1) ?_ ?_ ?_ ?_ ?_ hg hc, steps]
      · rw [range 0, hlast]
        exact stepIndexOf_byte v.g0
      · rw [range 1, hlast]
        exact stepIndexOf_byte v.g1
      · rw [range 2, hlast]
        exact stepIndexOf_byte v.c0
      · rw [range 3, hlast]
        exact stepIndexOf_byte v.c1
      · intro i hi
        have head : byteAt v.encode (4 * i) = BitVec.ofNat 8 _ := field ⟨i, hi⟩ (k := 0) (by decide)
        simp only [head]
        exact (ProgramStep.encode_pattern _ _).2.1
  · rw [scheduleRowOf_of (p := v.encode k.val) (k := k) (o := v.outcome) (m := v.mode) (automaticKindOf_byte k)
      (outcomeOf_code v.outcome) (reviewModeOf_code v.mode),
      natAt_u8_at (n := v.amount) rfl (ha ▸ clampAmount_lt v.outcome v.amount), ha,
      natAt_u8_at (n := v.window) rfl hw, natAt_u8_at (n := v.conversion) rfl (by omega), clamp_id h1 h2]
end

section
/-! PROOFS. Events on a penalty record: decisions, waivers and deadlines (O37, O38, O39). -/

set_option Elab.async false

namespace Sys2Proof.Machine

open Sys2Proof

variable {s t u v : State}

/-! ## What the penalty unit's work leaves of the machine -/

/-- Of the roster, the penalty unit changes what cars are charged. -/
theorem State.Charges.roster (h : s.Charges t) : t.roster = { s.roster with slots := t.roster.slots } := by
  have cars := h.cars
  rw [State.mapCars_roster, State.mapCars_roster] at cars
  have learning := congrArg Roster.learning cars
  have ageLimit := congrArg Roster.ageLimit cars
  have aging := congrArg Roster.aging cars
  have learned := congrArg Roster.tallyLearned cars
  have refused := congrArg Roster.tallyLearnRefused cars
  have aged := congrArg Roster.tallyAged cars
  dsimp only at learning ageLimit aging learned refused aged
  show t.roster = ⟨t.roster.slots, s.roster.learning, s.roster.ageLimit, s.roster.aging, s.roster.tallyLearned,
    s.roster.tallyLearnRefused, s.roster.tallyAged⟩
  rw [← learning, ← ageLimit, ← aging, ← learned, ← refused, ← aged]

theorem State.raceMs_congr (ht : t.time = s.time) (hr : t.race = s.race) : t.raceMs = s.raceMs := by
  simp only [State.raceMs, State.raceClock, State.neutral, ht, hr]

/-! ## An event on one record (R159) -/

theorem State.penalty_id {id : Nat} {r : Penalty} (h : s.penalty id = some r) : r.id = id := by
  simpa using List.find?_some h

theorem State.penalty_mem {id : Nat} {r : Penalty} (h : s.penalty id = some r) : r ∈ s.pen.list :=
  List.mem_of_find?_eq_some h

theorem State.finishEvent_pen (s : State) (k : PenaltyCause) (r : Penalty) (b : Bool) :
    (s.finishEvent k r b).pen = { s.pen with list := withRecord s.pen.list r } := by
  rw [State.finishEvent, State.handOn_pen, State.noticePenalty_pen, State.putPenalty_pen]
  rfl

/-- The record stands in its place after the event. -/
theorem State.finishEvent_penalty_self {r : Penalty} (h : r.id ∈ s.pen.list.map Penalty.id) (k : PenaltyCause)
    (b : Bool) : (s.finishEvent k r b).penalty r.id = some r := by
  rw [State.penalty_eq, State.finishEvent_pen]
  exact recordIn_withRecord_self h

theorem State.finishEvent_penalty_other {r : Penalty} {id : Nat} (h : id ≠ r.id) (k : PenaltyCause) (b : Bool) :
    (s.finishEvent k r b).penalty id = s.penalty id := by
  rw [State.penalty_eq, State.finishEvent_pen]
  exact recordIn_withRecord_other h _

theorem State.resort_unformed (h : s.stand.formed = false) (k : LeaderCause) : s.resort k = s := by
  simp [State.resort, h]

/-- With no standings to re-sort, the event hands on the row of the car alone. -/
theorem State.handOn_row {b : Bool} (h : b = false ∨ s.stand.formed = false) (k : PenaltyCause) (c : Code) :
    s.handOn k c b = s.recomputeCar c := by
  unfold State.handOn
  cases b with
  | false => rfl
  | true =>
    have unformed : (s.recomputeCar c).stand.formed = false := by simpa using h
    exact State.resort_unformed unformed _

theorem State.finishEvent_journal {b : Bool} (h : b = false ∨ s.stand.formed = false) (k : PenaltyCause)
    (r : Penalty) : (s.finishEvent k r b).journal =
      s.journal.added s.raceMs (.penalty k (s.numberOf r.code) r) := by
  rw [State.finishEvent, State.handOn_row (by simpa using h)]
  simp only [State.recomputeCar_journal]
  rfl

/-- An event that changes no totals leaves the standings, the roster and the rest of the machine. -/
theorem State.finishEvent_frame (s : State) (k : PenaltyCause) (r : Penalty) : ∃ w j a b,
    s.finishEvent k r false = { s with
      pen.list := withRecord s.pen.list r, power := w, journal := j, portA := a, portB := b } := by
  refine ⟨(s.finishEvent k r false).power, (s.finishEvent k r false).journal, (s.finishEvent k r false).portA,
    (s.finishEvent k r false).portB, ?_⟩
  have stand : (s.finishEvent k r false).stand = s.stand := by
    rw [State.finishEvent, State.handOn_row (.inl rfl)]
    simp
  exact State.ext_blocks (pen := by rw [State.finishEvent_pen]) (stand := stand)

/-! ## Confirmation (R147, R148) -/

theorem State.confirmedAs_code (s : State) (d : Decider) (r : Penalty) : (s.confirmedAs d r).code = r.code := by
  unfold State.confirmedAs
  repeat' split
  all_goals rfl

theorem State.paid_code (s : State) (r : Penalty) (x : Car) : (s.paid r x).code = x.code := rfl

theorem deciderOf_eq (p : PortId) : deciderOf p = (match p with | .A => .portA | .B => .portB) := by
  cases p <;> rfl

theorem State.numberOf_of_car {c : Code} {x : Car} (h : s.car c = some x) : s.numberOf c = x.number := by
  simp [State.numberOf, h]

/-- What the penalty unit charges is not the car's number. -/
theorem State.Charges.numberOf (h : s.Charges t) (c : Code) : t.numberOf c = s.numberOf c := by
  have number (x : Car) : x.uncharged.number = x.number := rfl
  have cars := congrArg (·.bind Car.number) (h.car_map c)
  simp only [Option.bind_map, Function.comp_def, number] at cars
  exact cars

/-- A record in REVIEW decided with this confirmation (R145, R147). -/
def State.confirmedBy (s : State) (d : Decider) (k : PenaltyCause) (r : Penalty) : State :=
  (s.confirmRecord d r).1.finishEvent k (s.confirmRecord d r).2.1 (s.confirmRecord d r).2.2

theorem State.confirmedBy_works (s : State) (d : Decider) (k : PenaltyCause) (r : Penalty) :
    s.Works (s.confirmedBy d k r) :=
  .after (State.finishEvent_works _ _ _ _) (s.confirmRecord_works d r)

theorem State.confirmedBy_charges (s : State) (d : Decider) (k : PenaltyCause) (r : Penalty) :
    s.Charges (s.confirmedBy d k r) :=
  .after (State.finishEvent_charges _ _ _ _) (s.confirmRecord_charges d r)

theorem State.confirmedBy_list (s : State) (d : Decider) (k : PenaltyCause) (r : Penalty) :
    (s.confirmedBy d k r).pen.list = withRecord s.pen.list (s.confirmedAs d r) := by
  rw [State.confirmedBy, State.finishEvent_pen, State.confirmRecord_record, State.confirmRecord_state, State.modCar_pen]

theorem State.confirmedBy_self {d : Decider} {r : Penalty} (h : r.id ∈ s.pen.list.map Penalty.id)
    (k : PenaltyCause) : (s.confirmedBy d k r).penalty r.id = some (s.confirmedAs d r) := by
  have id := State.confirmedAs_id (s := s) d r
  rw [State.penalty_eq, State.confirmedBy_list, ← id]
  exact recordIn_withRecord_self (id ▸ h)

theorem State.confirmedBy_other {d : Decider} {r : Penalty} {id : Nat} (h : id ≠ r.id) (k : PenaltyCause) :
    (s.confirmedBy d k r).penalty id = s.penalty id := by
  rw [State.penalty_eq, State.confirmedBy_list]
  exact recordIn_withRecord_other (by rwa [State.confirmedAs_id]) _

theorem State.confirmedBy_carSet {r : Penalty} {x : Car} (h : s.car r.code = some x) (d : Decider)
    (k : PenaltyCause) : s.carSet (s.confirmedBy d k r) r.code (s.paid r x) := by
  refine State.carSet_congr (u := s.modCar r.code (s.paid r)) ?_ (State.modCar_carSet (s.paid_code r) h)
  rw [State.confirmedBy, State.finishEvent_roster, State.confirmRecord_state]

/-! ## CONFIRM (R145) -/

/-- What CONFIRM does with its payload. -/
def confirmRequest (p : PortId) (payload : List Byte) (u : State) : Served :=
  match idOf (byteAt payload 0), overrideOf payload with
  | some id, some o => u.confirm p id o
  | _, _ => refuse .badArgument u

theorem exec_confirm (p : PortId) (tag : Byte) (payload : List Byte) (s : State) :
    exec (.confirm p tag payload) s = s.serve p 0x25 tag payload false 3 (confirmRequest p payload) := rfl

theorem overrideOf_none (b am : Byte) : overrideOf [b, 0xFF, am] = some none := rfl

theorem overrideOf_code (b am : Byte) (o : PenaltyOutcome) :
    overrideOf [b, BitVec.ofNat 8 o.toCode, am] = some (some (o, clampAmount o am.toNat)) := by
  cases o <;> rfl

theorem confirmRequest_legal {b ob am : Byte} {p : PortId} {o : Option (PenaltyOutcome × Nat)} (hb : b ≠ 0)
    (ho : overrideOf [b, ob, am] = some o) : confirmRequest p [b, ob, am] s = s.confirm p b.toNat o := by
  unfold confirmRequest
  rw [ho]
  simp only [byteAt, List.getD_cons_zero, idOf_of_ne hb]

theorem State.confirm_review {p : PortId} {id : Nat} {r : Penalty} {o : Option (PenaltyOutcome × Nat)}
    (hr : s.penalty id = some r) (hs : r.state = .review) :
    s.confirm p id o = ok (s.recordBytes (s.confirmedAs (deciderOf p) (r.overridden o)))
      (s.confirmedBy (deciderOf p) .decision (r.overridden o)) := by
  simp only [State.confirm, hr, hs, if_true]
  rw [← State.confirmRecord_record]
  rfl

theorem State.confirm_decided {p : PortId} {id : Nat} {r : Penalty} {o : Option (PenaltyOutcome × Nat)}
    (hr : s.penalty id = some r) (hs : r.state ≠ .review) : s.confirm p id o =
      answer (if r.decided = some .portA ∨ r.decided = some .portB then .alreadyDecided else .tooLate) r.decision s := by
  simp only [State.confirm, hr, hs, if_false]
  cases hd : r.decided with
  | none => rfl
  | some d => cases d <;> rfl

/-! ## WAIVE (R146, R158) -/

/-- What WAIVE does with its payload. -/
def waiveRequest (p : PortId) (payload : List Byte) (u : State) : Served :=
  match idOf (byteAt payload 0) with
  | some id => u.waive p id
  | none => refuse .badArgument u

theorem exec_waive (p : PortId) (tag : Byte) (payload : List Byte) (s : State) :
    exec (.waive p tag payload) s = s.serve p 0x26 tag payload false 1 (waiveRequest p payload) := rfl

theorem waiveRequest_legal {b : Byte} (hb : b ≠ 0) (p : PortId) : waiveRequest p [b] s = s.waive p b.toNat := by
  simp only [waiveRequest, byteAt, List.getD_cons_zero, idOf_of_ne hb]

theorem State.waive_review {p : PortId} {id : Nat} {r : Penalty} (hr : s.penalty id = some r)
    (hs : r.state = .review) :
    s.waive p id = ok [] (s.finishEvent .decision (r.waivedBy (deciderOf p)) false) := by
  simp only [State.waive, hr, hs, if_true]

theorem State.waive_B {id : Nat} {r : Penalty} (hr : s.penalty id = some r) (hs : r.state ≠ .review) :
    s.waive .B id = refuse .refusedPort s := by
  simp only [State.waive, hr, hs, if_false]

theorem State.waive_A {id : Nat} {r : Penalty} (hr : s.penalty id = some r) (hs : r.state ≠ .review) :
    s.waive .A id = s.waiveDecided r := by
  simp only [State.waive, hr, hs, if_false]

/-- Of the machine, the race part of one car has changed. -/
structure State.CarChanged (s v : State) (c : Code) (y : Car) : Prop where
  pen : v.pen = s.pen
  race : v.race = s.race
  time : v.time = s.time
  carSet : s.carSet v c y

theorem State.CarChanged.modRace {c : Code} {x : Car} (h : s.car c = some x) (f : RacePart → RacePart) :
    s.CarChanged (s.modRace c f) c { x with race := f x.race } where
  pen := by simp
  race := by simp
  time := by simp
  carSet := State.modCar_carSet (f := fun x => { x with race := f x.race }) (fun _ => rfl) h

/-- What a waiver after review takes back of the time penalty total. -/
def Penalty.timeBack (r : Penalty) : Nat :=
  if r.state = .converted then r.conversion else if r.state = .served ∧ r.outcome = .time then r.amount else 0

/-- What a waiver after review takes back of the deductions. -/
def Penalty.lapsBack (r : Penalty) : Nat := if r.state = .served ∧ r.outcome = .lapDeduct then r.amount else 0

/-- A waiver after review takes back what the record did to its car (R158). -/
theorem State.waiveDecided_reverses {r : Penalty} {x : Car} (hx : s.car r.code = some x)
    (hr : r.state = .confirmed ∨ r.state = .serving ∨ r.state = .converted
      ∨ r.state = .served ∧ r.outcome.isServe = false) :
    ∃ v b y, s.waiveDecided r = v.reverse r b ∧ s.CarChanged v r.code y ∧
      y.race.timePenalty = x.race.timePenalty - r.timeBack ∧ y.race.deductions = x.race.deductions - r.lapsBack := by
  have unchanged : s.CarChanged s r.code x := ⟨rfl, rfl, rfl, hx, fun _ _ => rfl⟩
  rcases hr with h | h | h | ⟨h, ho⟩
  · exact ⟨s, false, x, by simp only [State.waiveDecided, h], unchanged, by simp [Penalty.timeBack, h],
      by simp [Penalty.lapsBack, h]⟩
  · by_cases stopGo : r.outcome = .stopGo
    · refine ⟨s.restartSilence r.code, false, _, by simp only [State.waiveDecided, h, stopGo, if_true],
        State.CarChanged.modRace hx _, ?_, ?_⟩
      · simp only [Penalty.timeBack, h, reduceCtorEq, false_and, if_false, Nat.sub_zero]
        split <;> rfl
      · simp only [Penalty.lapsBack, h, reduceCtorEq, false_and, if_false, Nat.sub_zero]
        split <;> rfl
    · exact ⟨s, false, x, by simp only [State.waiveDecided, h, stopGo, if_false], unchanged,
        by simp [Penalty.timeBack, h], by simp [Penalty.lapsBack, h]⟩
  · exact ⟨s.subTime r.code r.conversion, true, _, by simp only [State.waiveDecided, h],
      State.CarChanged.modRace hx _, by simp [Penalty.timeBack, h], by simp [Penalty.lapsBack, h]⟩
  · cases hout : r.outcome <;> simp only [hout, PenaltyOutcome.isServe, reduceCtorEq] at ho
    · exact ⟨s.subTime r.code r.amount, true, _, by simp only [State.waiveDecided, h, hout],
        State.CarChanged.modRace hx _, by simp [Penalty.timeBack, h, hout], by simp [Penalty.lapsBack, h, hout]⟩
    · exact ⟨s.subDeduct r.code r.amount, true, _, by simp only [State.waiveDecided, h, hout],
        State.CarChanged.modRace hx _, by simp [Penalty.timeBack, h, hout], by simp [Penalty.lapsBack, h, hout]⟩
    · exact ⟨s, false, x, by simp only [State.waiveDecided, h, hout], unchanged,
        by simp [Penalty.timeBack, h, hout], by simp [Penalty.lapsBack, h, hout]⟩

/-! ## Deadlines (R144, R152) -/

theorem State.raceDue_of {d : Nat} (hr : s.race.state.clockRuns = true) (h : d ≤ s.raceClock) :
    s.raceDue (some d) = true := by
  simp [State.raceDue, hr, h]

theorem exec_reviewDeadline {id : Nat} {r : Penalty} (hr : s.penalty id = some r) (hs : r.state = .review)
    (hd : s.raceDue r.review = true) : exec (.reviewDeadlineExpiry id) s = .next (s.endReview r).transmit := by
  refine congrArg Host.Outcome.next ?_
  simp only [hr, hs, hd, and_self, if_true]

theorem exec_stopGoEnd {id : Nat} {r : Penalty} (hr : s.penalty id = some r) (hs : r.state = .serving)
    (hd : s.raceDue r.stopGoEnd = true) : exec (.stopGoEnd id) s =
      .next ((s.restartSilence r.code).finishEvent .serveEnd r.servedNow false).transmit := by
  refine congrArg Host.Outcome.next ?_
  simp only [hr, hs, hd, and_self, if_true]

theorem State.endReview_waived {r : Penalty} (h : r.mode = some .autoWaive) :
    s.endReview r = s.finishEvent .reviewEnd (r.waivedBy .auto) false := by
  simp only [State.endReview, State.decideByMode, h]

theorem State.endReview_confirmed {r : Penalty} (h : r.mode ≠ some .autoWaive) :
    s.endReview r = s.confirmedBy .auto .reviewEnd r := by
  have decided : s.decideByMode r = s.confirmRecord .auto r := by
    unfold State.decideByMode
    split
    · contradiction
    · rfl
  rw [State.endReview, decided]
  rfl

end Sys2Proof.Machine

open Sys2Proof Sys2Proof.Machine

/-- Settles O37: the confirmation of a record in REVIEW with its own or the overriding terms, and the answer about a
decided one. -/
theorem confirmDecides : Obligations.ConfirmDecides := by
  refine ⟨fun p s tag b ob am r r' h hb hr hs ho => ?_, fun p s tag b r h hb hr hs => ?_⟩
  · obtain ⟨o, hov, rfl⟩ : ∃ o, overrideOf [b, ob, am] = some o ∧ r' = r.overridden o := by
      rcases ho with ⟨rfl, rfl⟩ | ⟨o, rfl, rfl⟩
      · exact ⟨none, overrideOf_none b am, rfl⟩
      · exact ⟨some (o, clampAmount o am.toNat), overrideOf_code b am o, rfl⟩
    obtain ⟨q, hq⟩ : ∃ q, q = r.overridden o := ⟨_, rfl⟩
    have qid : q.id = b.toNat := by
      rw [hq, ← State.penalty_id hr]
      cases o <;> rfl
    have qcode : q.code = r.code := by
      rw [hq]
      cases o <;> rfl
    have mem : q.id ∈ s.pen.list.map Penalty.id := by
      rw [qid, ← State.penalty_id hr]
      exact List.mem_map_of_mem (State.penalty_mem hr)
    have body (x y : Port) : confirmRequest p [b, ob, am] (s.withPorts x y) =
        ((s.withPorts x y).confirmedBy (deciderOf p) .decision q,
          some ⟨.ok, (s.confirmedAs (deciderOf p) q).encodeAt (s.numberOf r.code)⟩) := by
      rw [confirmRequest_legal hb hov, State.confirm_review (s := s.withPorts x y) hr hs, ← hq, State.recordBytes,
        State.confirmedAs_code, qcode]
      rfl
    rw [exec_confirm, ← hq]
    obtain ⟨x, y, e, f, ht, ha⟩ := State.serve_done (f := fun u => u.confirmedBy (deciderOf p) .decision q) h
      (onlyA := false) (len := 3) (by simp) rfl body (fun x y => (State.confirmedBy_works _ _ _ q).toMoves)
    have charges := (s.withPorts x y).confirmedBy_charges (deciderOf p) .decision q
    have self := State.confirmedBy_self (s := s.withPorts x y) (d := deciderOf p) mem .decision
    rw [qid] at self
    refine ⟨_, ht, self, ha, fun z hz => ?_, fun id hid => ?_, charges.race, charges.time⟩
    · rw [← qcode] at hz ⊢
      exact State.confirmedBy_carSet (s := s.withPorts x y) hz _ _
    · exact State.confirmedBy_other (s := s.withPorts x y) (qid ▸ hid) _
  · rw [exec_confirm]
    obtain ⟨t, ht, ha, ho⟩ := State.serve_unchanged h (onlyA := false) (by simp) rfl
      (fun x y => (confirmRequest_legal hb (overrideOf_none b 0)).trans
        (State.confirm_decided (s := s.withPorts x y) hr hs))
    exact ⟨t, ht, ho, ha⟩

/-- Settles O38: a waiver in review, and after it what the record did to its car taken back. -/
theorem waiveReverses : Obligations.WaiveReverses := by
  refine ⟨fun p s tag b r h hb hr hs => ?_, fun s tag b r h hb hr hs => ?_, fun s tag b r x h hb hr hx hs => ?_,
    fun s tag b r h hb hr hs => ?_⟩
  · have mem : r.id ∈ s.pen.list.map Penalty.id := List.mem_map_of_mem (State.penalty_mem hr)
    rw [exec_waive]
    refine State.serve_does (fun u => u.finishEvent .decision (r.waivedBy (deciderOf p)) false) h (onlyA := false)
      (by simp) rfl (fun x y => (waiveRequest_legal hb p).trans (State.waive_review (s := s.withPorts x y) hr hs))
      (fun x y => (State.finishEvent_works _ _ _ _).toMoves) (fun x y e f => ⟨?_, ?_⟩)
    · rw [← State.penalty_id hr]
      exact State.finishEvent_penalty_self (s := s.withPorts x y) (r := r.waivedBy (deciderOf p)) mem _ _
    · obtain ⟨w, j, c, d, eq⟩ := (s.withPorts x y).finishEvent_frame .decision (r.waivedBy (deciderOf p))
      rw [eq]
      exact ⟨rfl, rfl, rfl⟩
  · rw [exec_waive]
    exact State.serve_unchanged h (onlyA := false) (by simp) rfl
      (fun x y => (waiveRequest_legal hb .B).trans (State.waive_B (s := s.withPorts x y) hr hs))
  · have notReview : r.state ≠ .review := by
      rcases hs with h | h | h | ⟨h, -⟩ <;> rw [h] <;> decide
    have mem : r.id ∈ s.pen.list.map Penalty.id := List.mem_map_of_mem (State.penalty_mem hr)
    have body (a b' : Port) : waiveRequest .A [b] (s.withPorts a b') =
        (((s.withPorts a b').waiveDecided r).1, some ⟨.ok, []⟩) := by
      obtain ⟨v, k, y, eq, -⟩ := State.waiveDecided_reverses (s := s.withPorts a b') hx hs
      rw [waiveRequest_legal hb, State.waive_A (s := s.withPorts a b') hr notReview, eq]
      rfl
    rw [exec_waive]
    obtain ⟨a, b', e, f, ht, ha⟩ := State.serve_done (f := fun u => (u.waiveDecided r).1) h (onlyA := false) (by simp)
      rfl body (fun a b' => (State.waiveDecided_serves _ r).toMoves)
    obtain ⟨v, k, y, eq, changed, time, laps⟩ := State.waiveDecided_reverses (s := s.withPorts a b') hx hs
    have done : ((s.withPorts a b').waiveDecided r).1 = v.finishEvent .reversal (r.waivedBy .portA) k := by
      rw [eq]
      rfl
    have cars (c : Code) : (v.finishEvent .reversal (r.waivedBy .portA) k).car c = v.car c :=
      State.car_congr (State.finishEvent_roster _ _ _ _) c
    obtain ⟨self, other⟩ := changed.carSet
    rw [done] at ht ha
    refine ⟨_, y, ht, ha, ?_, (cars _).trans self, time, laps, fun c hc => (cars c).trans (other c hc),
      (State.finishEvent_race _ _ _ _).trans changed.race, (State.finishEvent_time _ _ _ _).trans changed.time⟩
    rw [← State.penalty_id hr]
    exact State.finishEvent_penalty_self (r := r.waivedBy .portA) (changed.pen ▸ mem) _ _
  · have notReview : r.state ≠ .review := by
      rcases hs with h | ⟨h, -⟩ <;> rw [h] <;> decide
    have body (a b' : Port) : waiveRequest .A [b] (s.withPorts a b') =
        answer (if r.state = .waived then .already else .tooLate) (u8 r.state.toCode) (s.withPorts a b') := by
      rw [waiveRequest_legal hb, State.waive_A (s := s.withPorts a b') hr notReview]
      rcases hs with h | ⟨h, ho⟩
      · simp only [State.waiveDecided, h, if_true]
      · cases hout : r.outcome <;> simp only [hout, PenaltyOutcome.isServe, reduceCtorEq] at ho <;>
          simp only [State.waiveDecided, h, hout, reduceCtorEq, if_false]
    rw [exec_waive]
    obtain ⟨t, ht, ha, ho⟩ := State.serve_unchanged h (onlyA := false) (by simp) rfl body
    exact ⟨t, ht, ho, ha⟩

/-- Settles O39: the end of a review by its mode, and the end of a stop-go. -/
theorem penaltyDeadlines : Obligations.PenaltyDeadlines := by
  refine ⟨fun s id d r hr hs hd hrun hle => ?_, fun s id d r x hr hs hd hrun hle hx => ?_⟩
  · have mem : r.id ∈ s.pen.list.map Penalty.id := List.mem_map_of_mem (State.penalty_mem hr)
    obtain rfl := State.penalty_id hr
    have run := exec_reviewDeadline hr hs (by rw [hd]; exact State.raceDue_of hrun hle)
    by_cases hm : r.mode = some .autoWaive
    · rw [State.endReview_waived hm] at run
      simp only [if_pos hm]
      obtain ⟨w, j, a, b, frame⟩ := s.finishEvent_frame .reviewEnd (r.waivedBy .auto)
      refine State.transmit_does run (fun e f => ⟨?_, fun x hx => ?_, fun k hk => ?_, ?_, ?_⟩)
      · exact State.finishEvent_penalty_self (r := r.waivedBy .auto) mem _ _
      · exact State.carSet_congr (u := s) (State.finishEvent_roster _ _ _ _) ⟨hx, fun _ _ => rfl⟩
      · exact State.finishEvent_penalty_other (r := r.waivedBy .auto) hk _ _
      · exact State.finishEvent_race _ _ _ _
      · exact State.finishEvent_time _ _ _ _
    · rw [State.endReview_confirmed hm] at run
      simp only [if_neg hm]
      have charges := s.confirmedBy_charges .auto .reviewEnd r
      exact State.transmit_does run (fun e f => ⟨State.confirmedBy_self mem _,
        fun x hx => State.confirmedBy_carSet hx _ _, fun k hk => State.confirmedBy_other hk _, charges.race,
        charges.time⟩)
  · have mem : r.id ∈ s.pen.list.map Penalty.id := List.mem_map_of_mem (State.penalty_mem hr)
    obtain rfl := State.penalty_id hr
    refine State.transmit_does (exec_stopGoEnd hr hs (by rw [hd]; exact State.raceDue_of hrun hle))
      (fun e f => ⟨?_, fun k hk => ?_, ?_, ?_, ?_⟩)
    · exact State.finishEvent_penalty_self (s := s.restartSilence r.code) (r := r.servedNow)
        (by rw [State.restartSilence, State.modRace_pen]; exact mem) _ _
    · refine (State.finishEvent_penalty_other (s := s.restartSilence r.code) (r := r.servedNow) hk _ _).trans ?_
      rw [State.penalty_eq, State.restartSilence, State.modRace_pen]
      rfl
    · have car := State.CarChanged.modRace hx (fun r =>
        if r.state = .running then { r with silence := some (s.raceClock + s.silenceTicks) } else r)
      have silence : (if x.race.state = .running then
          ({ x.race with silence := some (s.raceClock + s.silenceTicks) } : RacePart) else x.race) =
          { x.race with
            silence := if x.race.state = .running then some (s.raceClock + s.course.settings.silenceLimit * 10000)
              else x.race.silence } := by
        split <;> rfl
      rw [silence] at car
      exact State.carSet_congr (State.finishEvent_roster _ _ _ _) car.carSet
    · exact (State.finishEvent_race _ _ _ _).trans (State.modRace_race _ _ _)
    · exact (State.finishEvent_time _ _ _ _).trans (State.modRace_time _ _ _)
end

section
/-! PROOFS. Calls from a console and automatic calls (O36, O40). -/

set_option Elab.async false

namespace Sys2Proof.Machine

open Sys2Proof

variable {s t u v : State}

/-! ## Room in the list (R141) -/

theorem PenaltyState.isFinal_iff (p : PenaltyState) :
    p.isFinal = true ↔ p = .served ∨ p = .waived ∨ p = .converted := by
  cases p <;> simp [PenaltyState.isFinal]

/-- The state with room made for one record. -/
def State.roomMade (s : State) : State :=
  { s with
    pen.list := roomIn s.pen.list
    pen.tallyEvicted := s.pen.tallyEvicted + (if s.pen.list.length < 32 then 0 else 1) }

theorem State.makeRoom_roomMade (h : s.pen.list.length < 32 ∨
    ∃ r ∈ s.pen.list, r.state = .served ∨ r.state = .waived ∨ r.state = .converted) :
    s.makeRoom = some s.roomMade := by
  unfold State.makeRoom State.roomMade roomIn
  by_cases hl : s.pen.list.length < 32
  · simp [hl]
  · obtain ⟨r, hr, hf⟩ := h.resolve_left hl
    have final : s.pen.list.any (fun r => r.state.isFinal) = true :=
      List.any_eq_true.mpr ⟨r, hr, r.state.isFinal_iff.mpr hf⟩
    simp only [hl, if_false, final, if_true]

theorem State.makeRoom_none (hl : 32 ≤ s.pen.list.length)
    (h : ∀ r ∈ s.pen.list, r.state = .review ∨ r.state = .confirmed ∨ r.state = .serving) : s.makeRoom = none := by
  have final : s.pen.list.any (fun r => r.state.isFinal) = false := by
    refine List.any_eq_false.mpr (fun r hr => ?_)
    rcases h r hr with e | e | e <;> simp [e, PenaltyState.isFinal]
  simp only [State.makeRoom, Nat.not_lt.mpr hl, if_false, final, Bool.false_eq_true]

theorem State.roomMade_charges (s : State) : s.Charges s.roomMade :=
  ⟨rfl, rfl, rfl, rfl, rfl, rfl, rfl, rfl, rfl, rfl, rfl⟩

/-- The identifier a new record takes with room made (R140). -/
theorem State.roomMade_takesId (hl : s.pen.list.length ≤ 32) (h1 : 1 ≤ s.pen.nextId) (h255 : s.pen.nextId ≤ 255) :
    takesId s.pen.nextId ((roomIn s.pen.list).map Penalty.id) s.roomMade.newPenaltyId := by
  have short : (roomIn s.pen.list).length ≤ s.pen.list.length := by
    unfold roomIn
    split
    · exact Nat.le_refl _
    · exact (List.eraseP_sublist).length_le
  exact freeId_takes (by rw [List.length_map]; omega) h1 h255

/-! ## A record joins (R142) -/

theorem State.joinRecord_pen (s : State) (r : Penalty) (b : Bool) : (s.joinRecord r b).pen = { s.pen with
    list := s.pen.list ++ [r], nextId := nextIdAfter r.id, tallyRaised := s.pen.tallyRaised + 1 } := by
  rw [State.joinRecord, State.handOn_pen, State.noticePenalty_pen]

/-- With no standings formed the RAISED notice is the one notice. -/
theorem State.joinRecord_journal (h : s.stand.formed = false) (r : Penalty) (b : Bool) :
    (s.joinRecord r b).journal = s.journal.added s.raceMs (.penalty .raised (s.numberOf r.code) r) := by
  rw [State.joinRecord, State.handOn_row (.inr (by simpa using h)), State.recomputeCar_journal]
  rfl

/-- A record made from this new one joins the list it was made room in. -/
theorem State.roomMade_joined {d : State} {r : Penalty} (hd : d.pen = s.roomMade.pen) (b : Bool) :
    (d.joinRecord r b).pen = { s.pen with
      list := roomIn s.pen.list ++ [r]
      nextId := if r.id = 255 then 1 else r.id + 1
      tallyRaised := s.pen.tallyRaised + 1
      tallyEvicted := s.pen.tallyEvicted + (if s.pen.list.length < 32 then 0 else 1) } := by
  rw [State.joinRecord_pen, hd]
  rfl

/-! ## CALL (R149) -/

/-- What CALL does with its payload. -/
def callRequest (p : PortId) (payload : List Byte) (u : State) : Served :=
  match carCodeOf payload 0, outcomeOf (byteAt payload 2) with
  | some c, some o => u.callCar p c o (clampAmount o (natAt payload 3))
  | _, _ => refuse .badArgument u

theorem exec_call (p : PortId) (tag : Byte) (payload : List Byte) (s : State) :
    exec (.call p tag payload) s = s.serve p 0x24 tag payload false 4 (callRequest p payload) := rfl

theorem callRequest_legal {c : Code} (hc : validCode c = true) (p : PortId) (o : PenaltyOutcome) (am : Byte) :
    callRequest p (codeBytes c ++ [BitVec.ofNat 8 o.toCode, am]) s = s.callCar p c o (clampAmount o am.toNat) := by
  have second : byteAt (codeBytes c ++ [BitVec.ofNat 8 o.toCode, am]) 2 = BitVec.ofNat 8 o.toCode := rfl
  unfold callRequest
  rw [carCodeOf_codeBytes hc, second, outcomeOf_code]
  rfl

theorem RaceState.callable_of {r : RaceState} (h : r.racing = true ∨ r = .closed) : r.callable = true := by
  rcases h with h | h
  · simp [RaceState.callable, h]
  · rw [h]
    rfl

/-- An accepted CALL: the MANUAL record confirmed and joined. -/
def State.called (s : State) (p : PortId) (c : Code) (o : PenaltyOutcome) (amount : Nat) : State :=
  State.joinRecord (s.roomMade.confirmRecord (deciderOf p) (s.roomMade.manualRecord c o amount)).1
    (s.roomMade.confirmedAs (deciderOf p) (s.roomMade.manualRecord c o amount))
    (s.roomMade.confirmRecord (deciderOf p) (s.roomMade.manualRecord c o amount)).2.2

theorem State.callCar_accepted {c : Code} {x : Car} (hs : s.race.state.racing = true ∨ s.race.state = .closed)
    (hx : s.car c = some x) (he : x.entered = true) (hr : s.makeRoom = some s.roomMade) (p : PortId)
    (o : PenaltyOutcome) (amount : Nat) : s.callCar p c o amount =
      ok ((s.roomMade.confirmedAs (deciderOf p) (s.roomMade.manualRecord c o amount)).encodeAt x.number)
        (s.called p c o amount) := by
  have number : s.roomMade.numberOf c = x.number := State.numberOf_of_car hx
  simp only [State.callCar, RaceState.callable_of hs, Bool.not_true, Bool.false_eq_true, if_false, hx, he, if_true, hr]
  rw [State.raiseManual_eq _ p c o amount rfl, State.confirmRecord_record, State.recordBytes, State.confirmedAs_code]
  rw [show (s.roomMade.manualRecord c o amount).code = c from rfl, number]
  rfl

/-- What an accepted CALL leaves. -/
theorem State.called_spec {c : Code} {x : Car} (hx : s.car c = some x) (p : PortId) (o : PenaltyOutcome)
    (amount : Nat) : s.carSet (s.called p c o amount) c (s.paid (s.roomMade.manualRecord c o amount) x) ∧
      (s.called p c o amount).pen = { s.pen with
        list := roomIn s.pen.list ++ [s.roomMade.confirmedAs (deciderOf p) (s.roomMade.manualRecord c o amount)]
        nextId := if s.roomMade.newPenaltyId = 255 then 1 else s.roomMade.newPenaltyId + 1
        tallyRaised := s.pen.tallyRaised + 1
        tallyEvicted := s.pen.tallyEvicted + (if s.pen.list.length < 32 then 0 else 1) } ∧
      (s.called p c o amount).race = s.race ∧ (s.called p c o amount).time = s.time := by
  obtain ⟨r, hr⟩ : ∃ r, r = s.roomMade.manualRecord c o amount := ⟨_, rfl⟩
  have id : (s.roomMade.confirmedAs (deciderOf p) r).id = s.roomMade.newPenaltyId := by
    rw [State.confirmedAs_id, hr]
    rfl
  have code : r.code = c := by
    rw [hr]
    rfl
  have charges : s.Charges (s.called p c o amount) :=
    .after (State.joinRecord_charges _ _ _) (.after (State.confirmRecord_charges _ _ _) s.roomMade_charges)
  rw [← hr]
  refine ⟨?_, ?_, charges.race, charges.time⟩
  · refine State.carSet_congr (u := s.roomMade.modCar c (s.roomMade.paid r)) ?_
      (State.modCar_carSet (s := s.roomMade) (s.roomMade.paid_code r) hx)
    rw [State.called, ← hr, State.joinRecord_roster, State.confirmRecord_state, code]
  · rw [State.called, ← hr, State.roomMade_joined (by rw [State.confirmRecord_state, State.modCar_pen]), id]

theorem State.callCar_full {c : Code} {x : Car} (hs : s.race.state.racing = true ∨ s.race.state = .closed)
    (hx : s.car c = some x) (he : x.entered = true) (hr : s.makeRoom = none) (p : PortId) (o : PenaltyOutcome)
    (amount : Nat) : s.callCar p c o amount = refuse .full s := by
  simp only [State.callCar, RaceState.callable_of hs, Bool.not_true, Bool.false_eq_true, if_false, hx, he, if_true, hr]

/-! ## Automatic calls (R142, R143) -/

/-- The record a review step leaves and what its car pays (R143). -/
theorem State.reviewStep_confirms {w : Nat} {r : Penalty}
    (h : r.mode = some .immediate ∨ r.mode = some .autoConfirm ∧ w = 0) :
    s.reviewStep w r = s.confirmRecord .auto r := by
  unfold State.reviewStep
  rcases h with h | ⟨h, rfl⟩ <;> simp only [h, if_true]

theorem State.reviewStep_waives {r : Penalty} (h : r.mode = some .autoWaive) :
    s.reviewStep 0 r = (s, r.waivedBy .auto, false) := by
  simp only [State.reviewStep, h, if_true]

theorem State.reviewStep_waits {w : Nat} {r : Penalty} (h : r.mode = some .autoConfirm ∨ r.mode = some .autoWaive)
    (hw : w ≠ 0) :
    s.reviewStep w r = (s, { r with review := some (s.raceClock + w * 10000) }, false) := by
  unfold State.reviewStep
  rcases h with h | h <;> simp only [h, hw, if_false] <;> rfl

/-- The penalty unit at work, as a frame of the machine. -/
theorem State.Charges.frame (h : s.Charges t) : t = { s with
    roster.slots := t.roster.slots, pen := t.pen, power := t.power, stand := t.stand, journal := t.journal
    portA := t.portA, portB := t.portB } :=
  State.ext_blocks (time := h.time) (bus := h.bus) (former := h.former) (roster := h.roster) (course := h.course)
    (race := h.race) (pending := h.pending)

theorem State.raiseCall_full {k : Fin 6} (h : s.makeRoom = none) (c : Code) (q : Nat) (l : Option Lane) :
    s.raiseCall k c q l = { s.append (.listFull (kindOfRow k) c (s.numberOf c) q l) with
      pen.tallyDropped := s.pen.tallyDropped + 1 } := by
  simp only [State.raiseCall, h]
  rfl

/-- What an automatic call leaves, once its review step is known. -/
theorem State.raiseCall_raised {k : Fin 6} {c : Code} {q : Nat} {l : Option Lane} {x y : Car} {d : State}
    {r : Penalty} {b : Bool} (hroom : s.makeRoom = some s.roomMade)
    (step : s.roomMade.reviewStep s.pen.schedule[k].window (s.roomMade.callRecord k c q l) = (d, r, b))
    (hpen : d.pen = s.roomMade.pen) (hcar : s.carSet d c y) (hstand : d.stand = s.stand)
    (hjournal : d.journal = s.journal) (hid : r.id = s.roomMade.newPenaltyId) (hcode : r.code = c)
    (hnumber : y.number = x.number) :
    s.carSet (s.raiseCall k c q l) c y ∧
      (s.raiseCall k c q l).pen = { s.pen with
        list := roomIn s.pen.list ++ [r]
        nextId := if s.roomMade.newPenaltyId = 255 then 1 else s.roomMade.newPenaltyId + 1
        tallyRaised := s.pen.tallyRaised + 1
        tallyEvicted := s.pen.tallyEvicted + (if s.pen.list.length < 32 then 0 else 1) } ∧
      (s.stand.formed = false →
        (s.raiseCall k c q l).journal = s.journal.added s.raceMs (.penalty .raised x.number r)) := by
  have charges : s.Charges d := by
    have := s.roomMade.reviewStep_charges s.pen.schedule[k].window (s.roomMade.callRecord k c q l)
    rw [step] at this
    exact s.roomMade_charges.trans this
  have number : d.numberOf r.code = x.number := by
    rw [hcode, State.numberOf_of_car hcar.1, hnumber]
  rw [State.raiseCall_of_room hroom k c q l step.symm]
  refine ⟨State.carSet_congr (by simp) hcar, hid ▸ State.roomMade_joined hpen b, fun h => ?_⟩
  rw [State.joinRecord_journal (by rw [hstand]; exact h), hjournal, number,
    State.raceMs_congr charges.time charges.race]

end Sys2Proof.Machine

open Sys2Proof Sys2Proof.Machine

/-- Settles O36: room, the first free identifier, the confirmation by the port, or FULL. -/
theorem callRaised : Obligations.CallRaised := by
  refine ⟨fun p s tag am c o x payload hpl h hc hs hx he hl h1 h255 hroom => ?_,
    fun p s tag am c o x payload hpl h hc hs hx he hl hopen => ?_⟩
  · subst hpl
    obtain ⟨r0, hr0⟩ : ∃ r, r = s.roomMade.manualRecord c o (clampAmount o am.toNat) := ⟨_, rfl⟩
    have body (a b : Port) : callRequest p (codeBytes c ++ [BitVec.ofNat 8 o.toCode, am]) (s.withPorts a b) =
        ((s.withPorts a b).called p c o (clampAmount o am.toNat),
          some ⟨.ok, (s.confirmedAs (deciderOf p) r0).encodeAt x.number⟩) := by
      rw [callRequest_legal hc, State.callCar_accepted (s := s.withPorts a b) hs hx he
        (State.makeRoom_roomMade (s := s.withPorts a b) hroom), hr0]
      rfl
    have moves (a b : Port) : (s.withPorts a b).Moves ((s.withPorts a b).called p c o (clampAmount o am.toNat)) := by
      have works := (s.withPorts a b).callCar_serves p c o (clampAmount o am.toNat)
      rw [State.callCar_accepted (s := s.withPorts a b) hs hx he
        (State.makeRoom_roomMade (s := s.withPorts a b) hroom)] at works
      exact works.toMoves
    rw [exec_call]
    obtain ⟨a, b, e, f, ht, ha⟩ := State.serve_done (f := fun u => u.called p c o (clampAmount o am.toNat)) h
      (onlyA := false) (len := 4) (by simp) rfl body moves
    obtain ⟨cars, pen, race, time⟩ := State.called_spec (s := s.withPorts a b) hx p o (clampAmount o am.toNat)
    exact ⟨_, r0, s.confirmedAs (deciderOf p) r0, s.roomMade.newPenaltyId, ht, State.roomMade_takesId hl h1 h255, hr0,
      rfl, hr0 ▸ cars, ha, hr0 ▸ pen, race, time⟩
  · subst hpl
    rw [exec_call]
    exact State.serve_unchanged h (onlyA := false) (by simp) rfl (fun a b => (callRequest_legal hc p o am).trans
      (State.callCar_full (s := s.withPorts a b) hs hx he (State.makeRoom_none (s := s.withPorts a b) hl hopen) p o _))

/-- Settles O40: an automatic call by the three outcomes of its review step. -/
theorem automaticCalls : Obligations.AutomaticCalls := by
  refine ⟨rfl, fun s t k c q l ht hl hopen => ?_, fun s k c q l x row hx hl h1 h255 hroom hrow => ?_⟩
  · rw [ht, State.raiseCall_full (State.makeRoom_none hl hopen)]
    exact ⟨rfl, rfl, rfl⟩
  · obtain ⟨r0, hr0⟩ : ∃ r, r = s.roomMade.callRecord k c q l := ⟨_, rfl⟩
    have room := State.makeRoom_roomMade hroom
    have takes := State.roomMade_takesId hl h1 h255
    have frame := (s.raiseCall_charges k c q l).frame
    have same : s.carSet s.roomMade c x := ⟨hx, fun _ _ => rfl⟩
    have mode : r0.mode = some row.mode := by
      rw [hr0, hrow]
      rfl
    have code : r0.code = c := by
      rw [hr0]
      rfl
    have id : r0.id = s.roomMade.newPenaltyId := by
      rw [hr0]
      rfl
    have shape : r0 = ⟨s.roomMade.newPenaltyId, kindOfRow k, c, some (q, l), s.raceMs, .review, row.outcome, row.amount,
        some row.mode, row.conversion, none, none, none, none, none⟩ := by
      rw [hr0, hrow]
      rfl
    have raised (y : Car) (d : State) (r : Penalty) (b : Bool)
        (step : s.roomMade.reviewStep row.window r0 = (d, r, b)) :=
      State.raiseCall_raised (y := y) (x := x) (r := r) room (by rw [← hr0, ← hrow]; exact step)
    by_cases now : row.mode = .immediate ∨ row.mode = .autoConfirm ∧ row.window = 0
    · obtain ⟨d, r, b, hv, state, record⟩ : ∃ d r b, s.roomMade.confirmRecord .auto r0 = (d, r, b) ∧
          d = s.roomMade.modCar r0.code (s.roomMade.paid r0) ∧ r = s.roomMade.confirmedAs .auto r0 :=
        ⟨_, _, _, rfl, s.roomMade.confirmRecord_state .auto r0, s.roomMade.confirmRecord_record .auto r0⟩
      have step := (State.reviewStep_confirms (s := s.roomMade) (r := r0) (w := row.window)
        (by simpa [mode] using now)).trans hv
      have cars : s.carSet d c (s.paid r0 x) := by
        rw [state, code]
        exact State.modCar_carSet (s := s.roomMade) (s.roomMade.paid_code r0) hx
      obtain ⟨cars, pen, journal⟩ := raised (s.paid r0 x) d r b step (by rw [state, State.modCar_pen]) cars
        (by rw [state, State.modCar_stand]; rfl) (by rw [state, State.modCar_journal]; rfl)
        (by rw [record, State.confirmedAs_id, id]) (by rw [record, State.confirmedAs_code, code]) rfl
      refine ⟨_, r0, r, _, rfl, takes, shape, ?_, pen, journal, frame⟩
      rw [if_pos now]
      exact ⟨record, cars⟩
    · by_cases hw : row.window = 0
      · have waive : r0.mode = some .autoWaive := by
          rw [mode]
          cases hm : row.mode
          · exact absurd (.inl hm) now
          · exact absurd (.inr ⟨hm, hw⟩) now
          · rfl
        have step : s.roomMade.reviewStep row.window r0 = (s.roomMade, r0.waivedBy .auto, false) :=
          hw ▸ State.reviewStep_waives waive
        obtain ⟨cars, pen, journal⟩ := raised x _ _ _ step rfl same rfl rfl id code rfl
        refine ⟨_, r0, r0.waivedBy .auto, _, rfl, takes, shape, ?_, pen, journal, frame⟩
        simp only [if_neg now, if_pos hw]
        exact ⟨by rw [shape]; rfl, cars⟩
      · have waits : r0.mode = some .autoConfirm ∨ r0.mode = some .autoWaive := by
          rw [mode]
          cases hm : row.mode
          · exact absurd (.inl hm) now
          · exact .inl rfl
          · exact .inr rfl
        have step := State.reviewStep_waits (s := s.roomMade) waits hw
        obtain ⟨cars, pen, journal⟩ := raised x _ _ _ step rfl same rfl rfl id code rfl
        refine ⟨_, r0, _, _, rfl, takes, shape, ?_, pen, journal, frame⟩
        simp only [if_neg now, if_neg hw]
        exact ⟨rfl, cars⟩
end

section
/-! PROOFS. The serve queue and its triggers (O41). -/

set_option Elab.async false

namespace Sys2Proof.Machine

open Sys2Proof

variable {s t u v : State} {c : Code} {r : Penalty}

/-! ## The head of the queue (R140) -/

theorem Penalty.queued_iff (r : Penalty) :
    r.queued = true ↔ r.outcome.isServe = true ∧ (r.state = .confirmed ∨ r.state = .serving) := by
  simp [Penalty.queued]

theorem State.mem_of_queueHead (h : s.queueHead c = some r) : r ∈ s.serveQueue c := by
  unfold State.queueHead at h
  split at h
  · cases h
    exact List.mem_of_find?_eq_some ‹_›
  · exact List.mem_of_head? h

/-- With no record serving, the head is the first CONFIRMED record of the queue. -/
theorem State.queueHead_confirmed (idle : ∀ q ∈ s.serveQueue c, q.state ≠ .serving) :
    s.queueHead c = s.pen.list.find? (fun q => q.code == c && q.outcome.isServe && q.state == .confirmed) := by
  have search : (s.serveQueue c).find? (fun r => r.state == .serving) = none :=
    List.find?_eq_none.mpr (fun q hq e => idle q hq (eq_of_beq e))
  rw [State.queueHead, search, State.serveQueue, List.head?_filter]
  refine List.find?_congr (fun q hq => Bool.eq_iff_iff.mpr ?_)
  simp only [Bool.and_eq_true, beq_iff_eq, q.queued_iff, and_assoc]
  refine and_congr_right (fun hc => and_congr_right (fun ho => ⟨fun hs => ?_, .inl⟩))
  exact hs.resolve_right (idle q (State.mem_serveQueue.mpr ⟨hq, hc, q.queued_iff.mpr ⟨ho, hs⟩⟩))

theorem State.queueHead_cases (h : s.queueHead c = some r) : r.state = .serving ∨ r.state = .confirmed ∧
    ∀ q ∈ s.serveQueue c, q.state ≠ .serving := by
  obtain ⟨-, -, queued⟩ := State.mem_serveQueue.mp (State.mem_of_queueHead h)
  unfold State.queueHead at h
  split at h
  · rename_i search
    cases h
    have serving := List.find?_some search
    exact .inl (eq_of_beq serving)
  · rename_i search
    have idle : ∀ q ∈ s.serveQueue c, q.state ≠ .serving := fun q hq e =>
      List.find?_eq_none.mp search q hq (beq_iff_eq.mpr e)
    exact .inr ⟨(r.queued_iff.mp queued).2.resolve_right (idle r (List.mem_of_head? h)), idle⟩

theorem State.servingRecord_spec (h : s.servingRecord c = some r) :
    r ∈ s.pen.list ∧ r.code = c ∧ r.state = .serving := by
  refine ⟨List.mem_of_find?_eq_some h, ?_⟩
  simpa using List.find?_some h

/-! ## Records changed in place -/

/-- A record changed in place, without a notice. -/
theorem State.putPenalty_spec {q : Penalty} (mem : r ∈ s.pen.list) (hid : q.id = r.id) :
    (s.putPenalty q).penalty r.id = some q ∧ (∀ id : Nat, id ≠ r.id → (s.putPenalty q).penalty id = s.penalty id) ∧
      s.putPenalty q = { s with pen.list := (s.putPenalty q).pen.list } := by
  refine ⟨?_, fun id h => recordIn_withRecord_other (hid ▸ h) _, rfl⟩
  rw [← hid]
  exact recordIn_withRecord_self (hid ▸ List.mem_map_of_mem mem)

/-- An event on a record of the list that changes no totals. -/
theorem State.finishEvent_spec {q : Penalty} (mem : r ∈ s.pen.list) (hid : q.id = r.id) (hcode : q.code = c)
    (k : PenaltyCause) : (s.finishEvent k q false).penalty r.id = some q ∧
      (∀ id : Nat, id ≠ r.id → (s.finishEvent k q false).penalty id = s.penalty id) ∧
      (s.finishEvent k q false).journal = s.journal.added s.raceMs (.penalty k (s.numberOf c) q) ∧
      s.finishEvent k q false = { s with
        pen.list := (s.finishEvent k q false).pen.list, power := (s.finishEvent k q false).power
        journal := (s.finishEvent k q false).journal, portA := (s.finishEvent k q false).portA
        portB := (s.finishEvent k q false).portB } := by
  obtain ⟨w, j, a, b, frame⟩ := s.finishEvent_frame k q
  refine ⟨?_, fun id h => State.finishEvent_penalty_other (hid ▸ h) _ _, ?_, ?_⟩
  · rw [← hid]
    exact State.finishEvent_penalty_self (hid ▸ List.mem_map_of_mem mem) _ _
  · rw [State.finishEvent_journal (.inl rfl), hcode]
  · rw [frame]

/-- Of the roster, a changed record touches its slot. -/
theorem State.modCar_frame (s : State) (c : Code) (f : Car → Car) :
    (s.modCar c f).roster = { s.roster with slots := (s.modCar c f).roster.slots } := by
  unfold State.modCar
  split <;> rfl

/-! ## The row of a car (R167) -/

/-- The row of an entered car's drive slot, once it has been recomputed. -/
theorem State.recomputeCar_row {x : Car} (hx : s.car c = some x) (he : x.entered = true) (a b : Port) (d : DriveIx)
    (hd : d.val + 1 = x.drive) :
    ((s.recomputeCar c).withPorts a b).power.rows[d] = ((s.recomputeCar c).withPorts a b).rowOf d := by
  have eq : s.recomputeCar c = s.recomputeDrive x.drive := by simp only [State.recomputeCar, hx, he, if_true]
  rw [eq]
  exact (State.recomputeDrive_rows rfl x.drive a b d).trans (if_pos hd)

theorem State.finishEvent_row {q : Penalty} {x : Car} (hx : s.car q.code = some x) (he : x.entered = true)
    (k : PenaltyCause) (d : DriveIx) (hd : d.val + 1 = x.drive) :
    (s.finishEvent k q false).power.rows[d] = (s.finishEvent k q false).rowOf d := by
  obtain ⟨w, hw⟩ : ∃ w : State, w = (s.putPenalty q).noticePenalty k q := ⟨_, rfl⟩
  have eq : s.finishEvent k q false = (w.recomputeCar q.code).withPorts (w.recomputeCar q.code).portA
      (w.recomputeCar q.code).portB := by
    rw [State.finishEvent, State.handOn_row (.inl rfl), ← hw]
  have car : w.car q.code = some x := by
    rw [← hx, hw]
    exact State.car_congr (by simp) _
  rw [eq]
  exact State.recomputeCar_row car he _ _ d hd

/-! ## A serving-point passage (R103, R151) -/

/-- A passage at a serving point of the course. -/
theorem State.stageServing_begins {x : Passage} {q : CoursePoint} (hq : s.course.points[x.point]? = some q)
    (hserving : q.serving = true) (hr : s.race.state.racing = true) (hpit : q.pit = true → x.lane = some 6) :
    s.stageServing x = s.beginStopGo x.code := by
  have lane : (!q.pit || decide (x.lane = some pitLane)) = true := by
    cases h : q.pit with
    | false => rfl
    | true => simp [hpit h, pitLane]
  simp only [State.stageServing, hq, hserving, hr, lane, Bool.and_self, if_true]

/-- A record that begins its stop-go. -/
theorem State.beginStopGo_of (h : s.queueHead c = some r) (hs : r.state = .confirmed) (ho : r.outcome = .stopGo) :
    s.beginStopGo c = (s.modRace c (fun x => { x with silence := none, serving := true })).finishEvent .serveBegin
      { r with state := .serving, stopGoEnd := some (s.raceClock + r.amount * 100000) } false := by
  simp only [State.beginStopGo, h, hs, ho, and_self, if_true]
  rfl

theorem State.beginStopGo_none (h : ∀ r, s.queueHead c = some r → r.state ≠ .confirmed ∨ r.outcome ≠ .stopGo) :
    s.beginStopGo c = s := by
  unfold State.beginStopGo
  split
  · rename_i r hr
    refine if_neg (fun both => ?_)
    rcases h r hr with hs | ho
    · exact hs both.1
    · exact ho both.2
  · rfl

/-! ## The serve triggers (R153) -/

theorem State.serveProgress_ends (h : s.servingRecord c = some r)
    (ho : r.outcome = .driveThrough ∨ r.outcome = .lockout ∧ r.lockoutLeft.getD 0 ≤ 1) :
    s.serveProgress c = s.finishEvent .serveEnd r.servedNow false := by
  unfold State.serveProgress
  rcases ho with ho | ⟨ho, hn⟩
  · simp only [h, ho]
  · simp only [h, ho, hn, if_true]

theorem State.serveProgress_counts {n : Nat} (h : s.servingRecord c = some r) (ho : r.outcome = .lockout)
    (hn : r.lockoutLeft = some (n + 2)) :
    s.serveProgress c = s.putPenalty { r with lockoutLeft := some (n + 1) } := by
  have more : ¬ (n + 2 ≤ 1) := by omega
  unfold State.serveProgress
  simp only [h, ho, hn, Option.getD_some, more, if_false]
  rfl

theorem State.serveProgress_none
    (h : ∀ r, s.servingRecord c = some r → r.outcome ≠ .driveThrough ∧ r.outcome ≠ .lockout) :
    s.serveProgress c = s := by
  unfold State.serveProgress
  split
  · rename_i r hr
    obtain ⟨h1, h2⟩ := h r hr
    split
    · contradiction
    · contradiction
    · rfl
  · rfl

theorem State.serveBegin_of {q : Penalty} (h : s.queueHead c = some r) (hs : r.state = .confirmed)
    (hq : r.outcome = .driveThrough ∧ q = { r with state := .serving }
      ∨ r.outcome = .lockout ∧ q = { r with state := .serving, lockoutLeft := some r.amount }) :
    s.serveBegin c = s.finishEvent .serveBegin q false := by
  unfold State.serveBegin
  rcases hq with ⟨ho, rfl⟩ | ⟨ho, rfl⟩ <;> simp only [h, hs, ho, if_true]

theorem State.serveBegin_none (h : ∀ r, s.queueHead c = some r → r.state ≠ .confirmed ∨ r.outcome = .stopGo) :
    s.serveBegin c = s := by
  unfold State.serveBegin
  split
  · rename_i r hr
    rcases h r hr with hs | ho
    · exact if_neg hs
    · simp only [ho, ite_self]
  · rfl

theorem State.serveCount_counts (h : s.queueHead c = some r) (hs : r.state = .confirmed)
    (hn : r.lapsAsHead.getD 0 < 2) :
    s.serveCount c = s.putPenalty { r with lapsAsHead := some (r.lapsAsHead.getD 0 + 1) } := by
  simp only [State.serveCount, h, hs, if_true, Nat.not_le.mpr hn, if_false]

theorem State.serveCount_converts (h : s.queueHead c = some r) (hs : r.state = .confirmed)
    (hn : 2 ≤ r.lapsAsHead.getD 0) :
    s.serveCount c = (s.addTime c r.conversion).finishEvent .deadline r.converted true := by
  simp only [State.serveCount, h, hs, if_true, hn]

theorem State.serveCount_none (h : ∀ r, s.queueHead c = some r → r.state ≠ .confirmed) : s.serveCount c = s := by
  unfold State.serveCount
  split
  · rename_i r hr
    exact if_neg (h r hr)
  · rfl

end Sys2Proof.Machine

open Sys2Proof Sys2Proof.Machine

/-- Settles O41: the head of the queue, the begin of a stop-go, and the three triggers with what each leaves alone. -/
theorem servingPenalties : Obligations.ServingPenalties := by
  refine ⟨fun s c r h => ?_, fun s t x y q r r1 ht hy hq hserving hrace hpit h hs ho hr1 => ?_, fun s x h => ?_,
    fun _ _ => rfl, fun s t c r r1 ht h ho hr1 => ?_, fun s t c r n ht h ho hn => ?_,
    fun s c h => State.serveProgress_none h, fun s t c r r1 ht h hs hr1 => ?_, fun s c h => State.serveBegin_none h,
    fun s t c r ht h hs hn => ?_, fun s t c y r r1 ht hy h hs hn hr1 => ?_, fun s c h => State.serveCount_none h⟩
  · obtain ⟨mem, code, queued⟩ := State.mem_serveQueue.mp (State.mem_of_queueHead h)
    refine ⟨mem, code, (r.queued_iff.mp queued).1, ?_⟩
    rcases State.queueHead_cases h with hs | ⟨hs, idle⟩
    · exact .inl hs
    · refine .inr ⟨hs, fun q hq hc ho hserving => ?_, (State.queueHead_confirmed idle).symm.trans h⟩
      exact idle q (State.mem_serveQueue.mpr ⟨hq, hc, q.queued_iff.mpr ⟨ho, .inr hserving⟩⟩) hserving
  · obtain ⟨mem, code, -⟩ := State.mem_serveQueue.mp (State.mem_of_queueHead h)
    have changed := State.CarChanged.modRace hy (fun x => { x with silence := none, serving := true })
    obtain ⟨v, hv⟩ : ∃ v, v = s.modRace x.code (fun x => { x with silence := none, serving := true }) := ⟨_, rfl⟩
    rw [State.stageServing_begins hq hserving hrace hpit, State.beginStopGo_of h hs ho, ← hr1, ← hv] at ht
    rw [← hv] at changed
    have id : r1.id = r.id := by rw [hr1]
    have code1 : r1.code = x.code := by rw [hr1]; exact code
    obtain ⟨here, other, journal, frame⟩ :=
      State.finishEvent_spec (s := v) (changed.pen ▸ mem) id code1 .serveBegin
    have number : v.numberOf x.code = y.number := by rw [State.numberOf_of_car changed.carSet.1]
    have roster : t.roster = v.roster := by rw [ht, State.finishEvent_roster]
    have row (he : y.entered = true) (d : DriveIx) (hd : d.val + 1 = y.drive) : t.power.rows[d] = t.rowOf d := by
      have car := changed.carSet.1
      rw [← code1] at car
      simp only [ht]
      exact State.finishEvent_row car he _ d hd
    obtain ⟨w, j, a, b, eq⟩ := v.finishEvent_frame .serveBegin r1
    rw [← ht] at here other journal eq
    refine ⟨State.carSet_congr roster changed.carSet, here, fun id hne => ?_, ?_, row, ?_⟩
    · rw [other id hne, State.penalty_eq, changed.pen, State.penalty_eq]
    · rw [journal, number, hv, State.modRace_journal]
      rw [State.raceMs_congr (s := s) (by simp) (by simp)]
    · rw [eq, hv]
      refine State.ext_blocks (roster := ?_)
      exact State.modCar_frame _ _ _
  · unfold State.stageServing
    split
    · rename_i q hq
      rcases h with h | h | h
      · simp [h]
      · rcases h q hq with hs | ⟨hp, hl⟩
        · simp [hs]
        · simp [hp, hl, pitLane]
      · rw [State.beginStopGo_none h]
        exact ite_self _
    · rfl
  · obtain ⟨mem, code, -⟩ := State.servingRecord_spec h
    have served : r.servedNow = r1 := by rw [hr1]; rfl
    have id : r1.id = r.id := by rw [hr1]
    have code1 : r1.code = c := by rw [hr1]; exact code
    rw [State.serveProgress_ends h ho, served] at ht
    have spec := State.finishEvent_spec mem id code1 .serveEnd
    rw [← ht] at spec
    exact spec
  · obtain ⟨mem, -, -⟩ := State.servingRecord_spec h
    rw [State.serveProgress_counts h ho hn] at ht
    subst ht
    exact State.putPenalty_spec mem rfl
  · obtain ⟨mem, code, -⟩ := State.mem_serveQueue.mp (State.mem_of_queueHead h)
    rw [State.serveBegin_of h hs hr1] at ht
    have id : r1.id = r.id := by rcases hr1 with ⟨-, rfl⟩ | ⟨-, rfl⟩ <;> rfl
    have code1 : r1.code = c := by rcases hr1 with ⟨-, rfl⟩ | ⟨-, rfl⟩ <;> exact code
    have spec := State.finishEvent_spec mem id code1 .serveBegin
    rw [← ht] at spec
    exact spec
  · obtain ⟨mem, -, -⟩ := State.mem_serveQueue.mp (State.mem_of_queueHead h)
    rw [State.serveCount_counts h hs hn] at ht
    subst ht
    exact State.putPenalty_spec mem rfl
  · obtain ⟨mem, code, -⟩ := State.mem_serveQueue.mp (State.mem_of_queueHead h)
    rw [State.serveCount_converts h hs hn] at ht
    subst ht
    have id : r1.id = r.id := by rw [hr1]
    have conv : r.converted = r1 := by rw [hr1]; rfl
    have code1 : r1.code = c := by rw [hr1]; exact code
    have mem' : r1.id ∈ (s.addTime c r.conversion).pen.list.map Penalty.id := by
      rw [id, State.addTime_pen]
      exact List.mem_map_of_mem mem
    have changed := State.CarChanged.modRace hy (fun x => { x with timePenalty := min 65535 (x.timePenalty + r.conversion) })
    have number : (s.addTime c r.conversion).numberOf c = y.number := by
      rw [State.addTime, State.numberOf_of_car changed.carSet.1]
    rw [conv]
    refine ⟨id ▸ State.finishEvent_penalty_self mem' _ _, fun k hk => ?_, ?_, fun h => ?_⟩
    · refine (State.finishEvent_penalty_other (id ▸ hk) _ _).trans ?_
      rw [State.penalty_eq, State.addTime_pen, State.penalty_eq]
    · exact State.carSet_congr (State.finishEvent_roster _ _ _ _) changed.carSet
    · rw [State.finishEvent_journal (.inr (by simpa using h)), code1, number, State.addTime_journal,
        State.raceMs_congr (s := s) (by simp) (by simp)]
end

section
/-! PROOFS. LT frames as they are built and as a receiver checks them (R168, R185, R198), and the troubles of the power
link (O49, O44). -/

set_option Elab.async false

namespace Sys2Proof.Machine

open Sys2Proof

variable {s t : State}

/-! ## A frame and its checks (R185, R198) -/

theorem byteSum_concat (l : List Byte) (b : Byte) : byteSum (l ++ [b]) = byteSum l + b := by
  simp [byteSum, List.foldl_append]

/-- The bytes a frame's SUM is taken over (R198). -/
def frameBody (kind tag : Byte) (payload : List Byte) : List Byte :=
  BitVec.ofNat 8 payload.length :: kind :: tag :: payload

theorem ltFrame_eq (kind tag : Byte) (payload : List Byte) :
    ltFrame kind tag payload = syncByte :: frameBody kind tag payload ++ [-byteSum (frameBody kind tag payload)] := rfl

theorem ltFrame_dropLast (kind tag : Byte) (payload : List Byte) :
    (ltFrame kind tag payload).dropLast = syncByte :: frameBody kind tag payload := by
  rw [ltFrame_eq, List.dropLast_concat]

theorem ltFrame_getLast (kind tag : Byte) (payload : List Byte) (h : ltFrame kind tag payload ≠ []) :
    (ltFrame kind tag payload).getLast h = -byteSum (frameBody kind tag payload) := by
  simp only [ltFrame_eq, List.getLast_concat]

/-- A whole frame with last byte `b` and bytes after it: good when the sum is 0, else of a wrong SUM. -/
theorem checkFrame_body (kind tag b : Byte) (payload rest : List Byte) (h : payload.length ≤ 240) :
    checkFrame (syncByte :: frameBody kind tag payload ++ b :: rest)
      = if byteSum (frameBody kind tag payload) + b = 0 then .valid kind tag payload rest else .badSum := by
  have len : (BitVec.ofNat 8 payload.length).toNat = payload.length := by
    rw [BitVec.toNat_ofNat]; omega
  have all : (payload ++ b :: rest).take (payload.length + 1) = payload ++ [b] := by
    simp [List.take_append]
  have sum : byteSum (BitVec.ofNat 8 payload.length :: kind :: tag :: (payload ++ [b]))
      = byteSum (frameBody kind tag payload) + b := byteSum_concat (frameBody kind tag payload) b
  have long : ¬ (payload ++ b :: rest).length < payload.length + 1 := by simp
  have short : ¬ 240 < payload.length := by omega
  have after : (payload ++ b :: rest).drop (payload.length + 1) = rest := by simp [List.drop_append]
  simp only [frameBody, List.cons_append, checkFrame, len, if_neg short, if_neg long, all, sum, after,
    List.take_left]
  rfl

theorem byteSum_wrong {l : List Byte} {b : Byte} (h : b ≠ -byteSum l) : byteSum l + b ≠ 0 :=
  fun zero => h (eq_neg_of_add_eq_zero_right zero)

theorem checkFrame_ltFrame (kind tag : Byte) (payload rest : List Byte) (h : payload.length ≤ 240) :
    checkFrame (ltFrame kind tag payload ++ rest) = .valid kind tag payload rest := by
  rw [ltFrame_eq, List.append_assoc, List.singleton_append, checkFrame_body _ _ _ _ _ h]
  exact if_pos (BitVec.add_right_neg _)

/-- A frame with another last byte is of a wrong SUM. -/
theorem checkFrame_wrongSum {kind tag b : Byte} {payload : List Byte} (rest : List Byte) (h : payload.length ≤ 240)
    (hb : b ≠ -byteSum (frameBody kind tag payload)) :
    checkFrame ((ltFrame kind tag payload).dropLast ++ b :: rest) = .badSum := by
  rw [ltFrame_dropLast, checkFrame_body _ _ _ _ _ h, if_neg (byteSum_wrong hb)]

theorem checkFrame_ltFrame_self {kind tag : Byte} {payload : List Byte} (h : payload.length ≤ 240) :
    checkFrame (ltFrame kind tag payload) = .valid kind tag payload [] := by
  rw [← checkFrame_ltFrame kind tag payload [] h, List.append_nil]

/-- A frame whose last byte is off by a sum that is not 0 is of a wrong SUM. -/
theorem checkFrame_spoilt {kind tag sum : Byte} {payload : List Byte} (h : payload.length ≤ 240) (hs : sum ≠ 0)
    (some : ltFrame kind tag payload ≠ []) :
    checkFrame ((ltFrame kind tag payload).dropLast ++ [(ltFrame kind tag payload).getLast some + sum]) = .badSum :=
  checkFrame_wrongSum [] h (by simpa [ltFrame_getLast] using hs)

theorem checkFrame_long {len : Byte} (tail : List Byte) (h : 240 < len.toNat) :
    checkFrame (0xC3 :: len :: tail) = .badLen := if_pos h

/-! ## Receivers -/

/-- Bytes that begin with a SYNC are all kept. -/
theorem hunt_sync (l : List Byte) : hunt (0xC3 :: l) = 0xC3 :: l := rfl

theorem hunt_ltFrame (kind tag : Byte) (payload : List Byte) :
    hunt (ltFrame kind tag payload) = ltFrame kind tag payload := rfl

theorem hunt_spoilt (kind tag b : Byte) (payload : List Byte) :
    hunt ((ltFrame kind tag payload).dropLast ++ [b]) = (ltFrame kind tag payload).dropLast ++ [b] := by
  rw [ltFrame_dropLast]; rfl

@[simp] theorem Receiver.holding_bytes (l : List Byte) (at_ : Time) : (Receiver.holding l at_).bytes = l := by
  unfold Receiver.holding
  split
  · exact (List.isEmpty_iff.mp ‹_›).symm
  · rfl

theorem rescan_bytes (l : List Byte) (at_ : Time) : (rescan l at_).bytes = hunt (l.drop 1) :=
  Receiver.holding_bytes _ _

/-- A receiver with no frame in progress hunts. -/
theorem Receiver.extended_of_empty {r : Receiver} (h : r.bytes = []) (l : List Byte) : r.extended l = hunt l := by
  simp [Receiver.extended, h]

/-- No further bytes leave the bytes of a frame in progress as they are. -/
theorem Receiver.extended_nil {r : Receiver} (h : r.bytes ≠ []) : r.extended [] = r.bytes := by
  simp [Receiver.extended, h]

theorem gapPassed_of {held : List Byte} {now at_ : Time} (h : held ≠ []) (hc : checkFrame held = .partly)
    (hg : 200 < (now - at_).toNat) : gapPassed held now at_ = true :=
  Bool.and_eq_true_iff.mpr ⟨Bool.and_eq_true_iff.mpr ⟨by simpa using h, decide_eq_true hc⟩, decide_eq_true hg⟩

/-- A receiver with no frame in progress completes any frame of a legal length, and has none then. -/
theorem Receiver.completes_of_empty {r : Receiver} (h : r.bytes = []) {payload : List Byte}
    (hl : payload.length ≤ 240) (frame : List Byte) : r.completes payload frame = true := by
  simp [Receiver.completes, Receiver.accepts, h, hl]

theorem Receiver.taken_of_empty {r : Receiver} (h : r.bytes = []) (frame : List Byte) : (r.taken frame).bytes = [] := by
  simp [Receiver.taken, h, hunt]

/-! ## Frames of the power link that are no poll (R168) -/

/-- A frame dropped by the power link: counted, and its bytes hunted again. -/
theorem exec_powerLinkFrameDrop_dropped {bytes : List Byte} (hr : s.power.rx.bytes = []) (hh : hunt bytes = bytes)
    (hc : checkFrame bytes = .badLen ∨ checkFrame bytes = .badSum) :
    ∃ t, exec (.powerLinkFrameDrop bytes) s = .next t ∧ t.power.rx.bytes = hunt (bytes.drop 1) ∧
      t = { s with power.rx := t.power.rx, power.tallyBadFrames := s.power.tallyBadFrames + 1 } := by
  refine ⟨State.badFrame { s with
    power.rx := rescan bytes (latestByte s.power.rx bytes s.time.session) }, ?_, rescan_bytes _ _, rfl⟩
  rcases hc with hc | hc <;>
    simp only [exec, execPowerLinkFrameDrop, Receiver.extended_of_empty hr, hh, hc]

/-- A payload that is no base status (R168). -/
theorem pollStatusOf_none {payload : List Byte} (h : payload.length ≠ 1 ∨ 2 < (payload.getD 0 0).toNat) :
    pollStatusOf payload = none := by
  match payload with
  | [] => rfl
  | _ :: _ :: _ => rfl
  | [b] =>
    have hb : 2 < b.toNat := by simpa using h
    have n0 : b ≠ 0 := fun e => absurd hb (by rw [e]; decide)
    have n1 : b ≠ 1 := fun e => absurd hb (by rw [e]; decide)
    have n2 : b ≠ 2 := fun e => absurd hb (by rw [e]; decide)
    simp only [pollStatusOf, baseStatusOf, if_neg n0, if_neg n1, if_neg n2]

theorem isPoll_false {kind : Byte} {payload : List Byte}
    (h : kind ≠ 0x60 ∨ payload.length ≠ 1 ∨ 2 < (payload.getD 0 0).toNat) : isPoll kind payload = false := by
  rcases h with h | h
  · exact Bool.and_eq_false_iff.mpr (.inl (decide_eq_false h))
  · simp [isPoll, pollStatusOf_none h]

/-- A good frame that is no poll is discarded whole. -/
theorem exec_powerLinkFrameDrop_discarded {kind tag : Byte} {payload : List Byte} (hr : s.power.rx.bytes = [])
    (hl : payload.length ≤ 240) (h : isPoll kind payload = false) :
    ∃ t, exec (.powerLinkFrameDrop (ltFrame kind tag payload)) s = .next t ∧ t.power.rx.bytes = [] ∧
      t = { s with power.rx := t.power.rx, power.tallyBadFrames := s.power.tallyBadFrames + 1 } := by
  let at_ := latestByte s.power.rx (ltFrame kind tag payload) s.time.session
  refine ⟨State.badFrame { s with power.rx := Receiver.holding (hunt []) at_ }, ?_, Receiver.holding_bytes _ _, rfl⟩
  simp only [exec, execPowerLinkFrameDrop, Receiver.extended_of_empty hr, hunt_ltFrame, checkFrame_ltFrame_self hl, h]
  rfl

/-- A poll whose payload is no status is discarded whole. -/
theorem exec_pbPoll_discarded (tag : Byte) {payload : List Byte} (hr : s.power.rx.bytes = [])
    (hl : payload.length ≤ 240) (h : pollStatusOf payload = none) :
    ∃ t, exec (.pbPoll tag payload) s = .next t ∧ t.power.rx.bytes = [] ∧
      t = { s with power.rx := t.power.rx, power.tallyBadFrames := s.power.tallyBadFrames + 1 } :=
  ⟨State.badFrame { s with power.rx := s.power.rx.taken (ltFrame kindPoll tag payload) },
    by simp only [exec, execPbPoll, Receiver.completes_of_empty hr hl, h, if_true],
    Receiver.taken_of_empty hr _, rfl⟩

/-! ## A trouble reported to the race (R122, R125, R171, R172) -/

/-- The race has met a trouble with this reason: suspended, a countdown aborted, or as it was. -/
def State.Troubled (s t : State) (r : StateReason) : Prop :=
  (∀ v, (s.race.state = .green ∧ v = .green ∨ s.race.state = .caution ∧ v = .caution
      ∨ s.race.state = .chequered ∧ v = .chequered s.race.held) → s.suspendedWith t r v) ∧
    (s.race.state = .countdown → s.abortedWith t r) ∧
    (s.race.state = .idle ∨ s.race.state = .practice ∨ s.race.state = .grid ∨ s.race.state = .suspended
      ∨ s.race.state = .closed → t = { s with power := t.power, portA := t.portA, portB := t.portB })

/-- The saved return state is the state left. -/
theorem State.returnState_of {v : SavedState} (h : s.race.state = .green ∧ v = .green ∨
    s.race.state = .caution ∧ v = .caution ∨ s.race.state = .chequered ∧ v = .chequered s.race.held) :
    s.returnState = v := by
  rcases h with ⟨hs, rfl⟩ | ⟨hs, rfl⟩ | ⟨hs, rfl⟩ <;> simp only [State.returnState, hs]

theorem State.reportTrouble_suspends (h : s.race.state = .green ∨ s.race.state = .caution ∨
    s.race.state = .chequered) (r : StateReason) : s.reportTrouble r = s.suspendRace r := by
  rcases h with h | h | h <;> simp only [State.reportTrouble, h]

theorem State.reportTrouble_aborts (h : s.race.state = .countdown) (r : StateReason) :
    s.reportTrouble r = s.abortToGrid r := by
  simp only [State.reportTrouble, h]

theorem State.reportTrouble_idle (h : s.race.state = .idle ∨ s.race.state = .practice ∨ s.race.state = .grid ∨
    s.race.state = .suspended ∨ s.race.state = .closed) (r : StateReason) : s.reportTrouble r = s := by
  rcases h with h | h | h | h | h <;> simp only [State.reportTrouble, h]

/-- A trouble is met as the race state before it says, whatever the power link's state has become. -/
theorem State.reportTrouble_troubled (s : State) (w : Power) (r : StateReason) :
    s.Troubled (State.reportTrouble { s with power := w } r) r := by
  refine ⟨fun v h => ?_, fun h => ?_, fun h => ?_⟩
  · have live : s.race.state = .green ∨ s.race.state = .caution ∨ s.race.state = .chequered :=
      h.imp And.left (Or.imp And.left And.left)
    rw [State.reportTrouble_suspends (s := { s with power := w }) live, ← s.returnState_of h]
    exact State.suspendRace_suspended (s := { s with power := w }) live r s.portA s.portB _ _
  · rw [State.reportTrouble_aborts (s := { s with power := w }) h]
    exact State.abortToGrid_aborted (s := { s with power := w }) h r s.portA s.portB _ _
  · rw [State.reportTrouble_idle (s := { s with power := w }) h]

/-- The same state with this in the transmitter of the power link, and these ports. -/
abbrev State.withReply (t : State) (f : Option (List Byte)) (w : Option Byte) (n : BitVec 32) (c d : Port) : State :=
  { t with power.sending := f, power.slot := w, power.tallyUnanswered := n, portA := c, portB := d }

/-- The power link's transmitter and the ports show nothing of the race. -/
theorem State.Troubled.withReply {r : StateReason} (h : s.Troubled t r) (f : Option (List Byte)) (w : Option Byte)
    (n : BitVec 32) (c d : Port) : s.Troubled (t.withReply f w n c d) r := by
  obtain ⟨suspends, aborts, stands⟩ := h
  refine ⟨fun v k => ?_, fun k => ?_, fun k => ?_⟩
  · obtain ⟨race, time, shown, journal, frame⟩ := suspends v k
    exact ⟨race, time, shown, journal, congrArg (State.withReply · f w n c d) frame⟩
  · obtain ⟨race, step, shown, journal, frame⟩ := aborts k
    exact ⟨race, step, shown, journal, congrArg (State.withReply · f w n c d) frame⟩
  · exact congrArg (State.withReply · f w n c d) (stands k)

/-- A trouble touches only rows, epoch and track-enable line of the power link. -/
theorem State.reportTrouble_powerKept (s : State) (r : StateReason) : s.powerKept (s.reportTrouble r) := by
  unfold State.reportTrouble
  split
  · exact s.suspendRace_powerKept r s.portA s.portB _ _
  · exact s.suspendRace_powerKept r s.portA s.portB _ _
  · exact s.suspendRace_powerKept r s.portA s.portB _ _
  · exact State.showState_powerKept (by simp [State.beginStep]) _ _
  · rfl

/-- A trouble leaves the track-enable line low while the link is down. -/
theorem State.reportTrouble_trackEnable (down : s.power.linkUp = false) (low : s.power.trackEnable = false)
    (r : StateReason) : (s.reportTrouble r).power.trackEnable = false := by
  have kept : (s.reportTrouble r).power.linkUp = false := by rw [s.reportTrouble_powerKept r, ← down]
  have shownLow {x : State} (h : x.showState.power.linkUp = false) : x.showState.power.trackEnable = false := by
    rw [x.showState_shown.2.1, h, Bool.and_false]
  unfold State.reportTrouble at kept ⊢
  split at kept
  · exact shownLow kept
  · exact shownLow kept
  · exact shownLow kept
  · exact shownLow kept
  · exact low

/-! ## Link silence (R171) -/

/-- The power link once its link is DOWN. -/
def State.downPower (s : State) : Power := { s.power with
  linkUp := false, silence := none, tallyLinkLosses := s.power.tallyLinkLosses + 1
  trackEnable := s.race.state.clockRuns && false }

theorem State.linkLost_eq (s : State) : s.linkLost = State.reportTrouble { s with power := s.downPower } .link := rfl

/-- The power link of a lost link: DOWN and low, its silence timed no more, the loss counted. -/
theorem State.linkLost_power (s : State) : s.linkLost.power.linkUp = false ∧ s.linkLost.power.silence = none ∧
    s.linkLost.power.tallyLinkLosses = s.power.tallyLinkLosses + 1 ∧ s.linkLost.power.trackEnable = false := by
  have kept := State.reportTrouble_powerKept { s with power := s.downPower } .link
  rw [s.linkLost_eq]
  refine ⟨?_, ?_, ?_, State.reportTrouble_trackEnable rfl (Bool.and_false _) _⟩ <;> rw [kept] <;> rfl

end Sys2Proof.Machine

open Sys2Proof Sys2Proof.Machine

/-- Settles O49: the SUM makes the sum of the bytes it is taken over 0, and no other byte does. -/
theorem frameRoundTrip : Obligations.FrameRoundTrip := fun kind tag payload rest hl =>
  ⟨checkFrame_ltFrame kind tag payload rest hl, fun b hb => checkFrame_wrongSum rest hl
    (fun e => hb (by rw [ltFrame_dropLast, e, ltFrame_eq]))⟩

/-- Settles O44. -/
theorem linkTrouble : Obligations.LinkTrouble := by
  refine ⟨fun s w hw hd => ?_, fun s len tail hr hl => ?_, fun s at_ hr hc hg => ?_,
    fun s kind tag sum payload hr hl hs => ?_, fun s kind tag payload hr hl h => ?_, fun s tag payload hr hl h => ?_⟩
  · have runs : exec .linkSilenceDeadline s = .next s.linkLost.transmit := by
      simp [exec, execLinkSilenceDeadline, hw, timerDue, Timer.due_of_reached hd]
    refine State.transmit_does runs (fun c d => ?_)
    obtain ⟨down, untimed, counted, low⟩ := s.linkLost_power
    obtain ⟨suspends, aborts, stands⟩ := (s.reportTrouble_troubled s.downPower .link).withReply
      s.linkLost.power.sending s.linkLost.power.slot s.linkLost.power.tallyUnanswered c d
    refine ⟨down, untimed, counted, low, suspends, aborts, fun h => ⟨stands h, ?_⟩⟩
    rw [s.linkLost_eq, State.reportTrouble_idle (s := { s with power := s.downPower }) h]
    rfl
  · exact exec_powerLinkFrameDrop_dropped hr (hunt_sync _) (.inl (checkFrame_long tail hl))
  · refine ⟨State.badFrame { s with power.rx := rescan s.power.rx.bytes s.power.rx.lastAt }, ?_, rescan_bytes _ _, rfl⟩
    simp only [exec, execPowerLinkGap, Receiver.extended_nil hr, latestByte, if_true, gapPassed_of hr hc hg]
  · exact exec_powerLinkFrameDrop_dropped hr (hunt_spoilt _ _ _ _) (.inr (checkFrame_spoilt hl hs _))
  · exact exec_powerLinkFrameDrop_discarded hr hl (isPoll_false h)
  · exact exec_pbPoll_discarded tag hr hl (pollStatusOf_none h)
end

section
/-! PROOFS. Permit rows (R164 to R167) and the polls of the power base (R168 to R172): O42 and O43. -/

set_option Elab.async false

namespace Sys2Proof.Machine

open Sys2Proof

variable {s t : State}

/-! ## The row of a drive slot (R164 to R166) -/

theorem State.stateCap_eq (s : State) : s.stateCap = (match s.race.state with
    | .practice => s.course.settings.practiceCap
    | .green => 63
    | .caution => s.course.settings.cautionCap
    | .chequered => if s.race.held then s.course.settings.cautionCap else 63
    | .idle | .grid | .countdown | .suspended | .closed => 0) := by
  unfold State.stateCap
  cases s.race.state <;> rfl

theorem State.carCap_eq (s : State) (k : CarState) : s.carCap k = (match k with
    | .idle | .running | .offTrack => 63
    | .finished => s.course.settings.coolCap
    | .grid | .retired => 0) := by
  cases k <;> rfl

theorem State.servingCap_eq (s : State) (r : Option Penalty) : s.servingCap r = (match r.map Penalty.outcome with
    | some .stopGo => 0
    | some .driveThrough => s.course.settings.driveCap
    | _ => 63) := by
  cases r with
  | none => rfl
  | some r => simp only [State.servingCap, Option.map_some]; cases r.outcome <;> rfl

theorem State.pitCap_eq (s : State) (r : RacePart) : s.pitCap r =
    (if (s.race.state = .green ∨ s.race.state = .caution ∨ s.race.state = .chequered)
      ∧ r.last.bind LastPassage.lane = some 6 then s.course.settings.pitCap else 63) := by
  unfold State.pitCap
  cases s.race.state <;> simp [pitLane] <;> rfl

theorem State.laneAllowed_iff (s : State) (x : Car) (serving : Option Penalty) :
    s.laneAllowed x serving = true ↔ x.race.state = .running ∧
      (s.race.state = .practice ∨ s.race.state = .green ∨ s.race.state = .chequered ∧ s.race.held = false) ∧
      ∀ r, serving = some r → r.outcome ≠ .lockout ∧ r.outcome ≠ .stopGo := by
  have race : (match s.race.state with
      | .practice | .green => true
      | .chequered => !s.race.held
      | _ => false) = true ↔
      (s.race.state = .practice ∨ s.race.state = .green ∨ s.race.state = .chequered ∧ s.race.held = false) := by
    cases s.race.state <;> simp
  have free : (match serving with
      | some r => decide (r.outcome ≠ .lockout) && decide (r.outcome ≠ .stopGo)
      | none => true) = true ↔ ∀ r, serving = some r → r.outcome ≠ .lockout ∧ r.outcome ≠ .stopGo := by
    cases serving <;> simp
  refine (Bool.and_eq_true_iff.trans
    ((Bool.and_eq_true_iff.trans (race.and decide_eq_true_iff)).and free)).trans ?_
  rw [and_comm (a := _ ∨ _), and_assoc]

theorem State.hasCalled_iff (s : State) (c : Code) :
    s.hasCalled c = true ↔ ∃ r ∈ s.pen.list, r.code = c ∧ (r.state = .review ∨ r.state = .confirmed) := by
  simp [State.hasCalled]

theorem State.rowFlag_eq (s : State) (x : Car) (serving : Option Penalty) : s.rowFlag x serving =
    (if x.race.state = .finished then .finished
      else if serving.isSome then .serving
      else if ∃ r ∈ s.pen.list, r.code = x.code ∧ (r.state = .review ∨ r.state = .confirmed) then .called
      else .none) := by
  simp only [State.rowFlag, State.hasCalled_iff]

theorem State.rowOf_driven {d : DriveIx} {x : Car} (h : s.driver d = some x) : s.rowOf d = s.occupiedRow x := by
  simp only [State.rowOf, h]

theorem State.driver_none {d : DriveIx} (h : ∀ x ∈ s.cars, x.entered = true → x.drive ≠ d.val + 1) :
    s.driver d = none :=
  List.find?_eq_none.mpr fun x hx => by
    simpa using h x hx

/-- New rows are the rows, and the epoch counts a change (R167). -/
theorem State.putRows_counts (s : State) (rows : Vector PermitRow 32) : (s.putRows rows).power.rows = rows ∧
    (s.putRows rows).power.epoch = if rows = s.power.rows then s.power.epoch else s.power.epoch + 1 := by
  refine ⟨s.putRows_rows rows, ?_⟩
  by_cases h : rows = s.power.rows
  · simp only [State.putRows, if_pos (congrArg Vector.toList h), if_pos h]
  · have other : rows.toList ≠ s.power.rows.toList := fun e => h (Vector.toList_inj.mp e)
    simp only [State.putRows, if_neg other, if_neg h]

/-! ## A poll (R168 to R172) -/

/-- The power link once a poll has been taken. -/
def State.polledPower (s : State) : Power := { s.power with
  tallyPolls := s.power.tallyPolls + 1, silence := some (s.timer linkSilenceTicks), lastPoll := some s.time.session
  linkUp := true, trackEnable := if s.power.linkUp then s.power.trackEnable else s.race.state.clockRuns && true }

theorem State.pollTaken_eq (s : State) : s.pollTaken = { s with power := s.polledPower } := by
  cases up : s.power.linkUp <;> simp [State.pollTaken, State.polledPower, up, State.setTrackEnable]

/-- Only a status leaving NORMAL is a trouble (R172). -/
theorem statusTrouble_eq (o : Option BaseStatus) (v : BaseStatus) : statusTrouble o v =
    if o = some .normal ∧ v ≠ .normal then some (if v = .overload then .power else .base) else none := by
  cases o with
  | none => rfl
  | some o => cases o <;> cases v <;> rfl

/-- The power link with this base status kept. -/
abbrev State.statusPower (s : State) (v : BaseStatus) : Power := { s.power with status := some v }

theorem State.baseStatus_troubles {v : BaseStatus} (h : s.power.status = some .normal ∧ v ≠ .normal) :
    s.baseStatus v = State.reportTrouble { s with power := s.statusPower v }
      (if v = .overload then .power else .base) := by
  simp only [State.baseStatus, statusTrouble_eq, if_pos h]

theorem State.baseStatus_keeps {v : BaseStatus} (h : ¬ (s.power.status = some .normal ∧ v ≠ .normal)) :
    s.baseStatus v = { s with power := s.statusPower v } := by
  simp only [State.baseStatus, statusTrouble_eq, if_neg h]

/-- A status kept touches only rows, epoch and track-enable line besides. -/
theorem State.baseStatus_power (s : State) (v : BaseStatus) : (s.baseStatus v).power = { s.statusPower v with
    rows := (s.baseStatus v).power.rows, epoch := (s.baseStatus v).power.epoch
    trackEnable := (s.baseStatus v).power.trackEnable } := by
  by_cases h : s.power.status = some .normal ∧ v ≠ .normal
  · rw [State.baseStatus_troubles h]
    exact State.reportTrouble_powerKept { s with power := s.statusPower v } _
  · rw [State.baseStatus_keeps h]

/-- What a valid poll leaves before its reply is placed. -/
def State.polled (s : State) (rx : Receiver) (v : BaseStatus) : State :=
  State.baseStatus (State.pollTaken { s with power.rx := rx }) v

/-- The power link after a valid poll, but for its rows, epoch and track-enable line. -/
theorem State.polled_power (s : State) (rx : Receiver) (v : BaseStatus) : (s.polled rx v).power = { s.power with
    rx := rx, tallyPolls := s.power.tallyPolls + 1, silence := some ⟨s.time.session, 10000⟩
    lastPoll := some s.time.session, linkUp := true, status := some v, rows := (s.polled rx v).power.rows
    epoch := (s.polled rx v).power.epoch, trackEnable := (s.polled rx v).power.trackEnable } := by
  unfold State.polled
  rw [State.pollTaken_eq]
  exact State.baseStatus_power _ v

/-- A status leaving NORMAL is a trouble of the race; any other leaves race and journal. -/
theorem State.polled_race (s : State) (rx : Receiver) (v : BaseStatus) :
    if s.power.status = some .normal ∧ v ≠ .normal
      then s.Troubled (s.polled rx v) (if v = .overload then .power else .base)
      else (s.polled rx v).race = s.race ∧ (s.polled rx v).journal = s.journal := by
  obtain ⟨w, hw, kept⟩ : ∃ w, State.pollTaken { s with power.rx := rx } = { s with power := w } ∧
      w.status = s.power.status := ⟨_, State.pollTaken_eq _, rfl⟩
  unfold State.polled
  rw [hw]
  split
  next h =>
    rw [State.baseStatus_troubles (s := { s with power := w }) (kept ▸ h)]
    exact s.reportTrouble_troubled _ _
  next h =>
    rw [State.baseStatus_keeps (s := { s with power := w }) (kept ▸ h)]
    exact ⟨rfl, rfl⟩

/-- The reply of a poll is sent at once, waits, or displaces the one that waits. -/
theorem State.placePermits_eq (s : State) (tag : Byte) : s.placePermits tag = (match s.power.sending, s.power.slot with
    | none, _ => s.withReply (some (permitsFrame tag s.power.epoch s.power.rows)) none s.power.tallyUnanswered
        s.portA s.portB
    | some f, w => s.withReply (some f) (some tag) (s.power.tallyUnanswered + (if w.isSome then 1 else 0))
        s.portA s.portB) := by
  unfold State.placePermits
  cases hf : s.power.sending <;> cases hw : s.power.slot <;> simp [State.sendPermits, State.withReply, ← hf]

/-- The transmitter of the power link once a reply has been placed. -/
theorem State.placePermits_sent (s : State) (tag : Byte) (c d : Port) :
    ∃ f w n, (s.placePermits tag).withPorts c d = s.withReply f w n c d ∧
      (match s.power.sending, s.power.slot with
        | none, _ => f = some (permitsFrame tag s.power.epoch s.power.rows) ∧ w = none
        | some g, v => f = some g ∧ w = some tag ∧
          n = s.power.tallyUnanswered + (if v.isSome then 1 else 0)) := by
  rw [s.placePermits_eq tag]
  cases s.power.sending with
  | none => exact ⟨_, _, _, rfl, rfl, rfl⟩
  | some g => exact ⟨_, _, _, rfl, rfl, rfl, rfl⟩

theorem exec_pbPoll_valid {tag b : Byte} {v : BaseStatus} (h : s.power.rx.completes [b] (ltFrame 0x60 tag [b]) = true)
    (hv : baseStatusOf b = some v) : exec (.pbPoll tag [b]) s
      = .next ((s.polled (s.power.rx.taken (ltFrame 0x60 tag [b])) v).placePermits tag).transmit := by
  have fits : s.power.rx.completes [b] (ltFrame kindPoll tag [b]) = true := h
  simp only [exec, execPbPoll, fits, if_true, pollStatusOf, hv]
  rfl

end Sys2Proof.Machine

open Sys2Proof Sys2Proof.Machine

/-- Settles O42. -/
theorem permitRows : Obligations.PermitRows := by
  refine ⟨fun s d x st car serving pit hx hst hcar hserving hpit => ?_, fun s d h => ?_, State.putRows_counts⟩
  · subst hst hcar hserving hpit
    rw [State.rowOf_driven hx]
    exact ⟨s.stateCap_eq, congrArg₂ min (congrArg₂ min s.stateCap_eq (s.carCap_eq _))
      (congrArg₂ min (s.servingCap_eq _) (s.pitCap_eq _)), s.laneAllowed_iff x _, s.rowFlag_eq x _⟩
  · simp only [State.rowOf, State.driver_none h, State.freeRow]

/-- Settles O43: a reply placed and the transmitters touch neither the race nor what the poll left. -/
theorem powerPoll : Obligations.PowerPoll := by
  refine ⟨fun s tag b v h hv => ?_, fun s f hf hw => ?_, fun s f tag hf hw => ?_⟩
  · refine State.transmit_does (exec_pbPoll_valid h hv) (fun c d => ?_)
    have power := s.polled_power (s.power.rx.taken (ltFrame 0x60 tag [b])) v
    have race := s.polled_race (s.power.rx.taken (ltFrame 0x60 tag [b])) v
    obtain ⟨x, hx⟩ : ∃ x, x = s.polled (s.power.rx.taken (ltFrame 0x60 tag [b])) v := ⟨_, rfl⟩
    rw [← hx] at power race ⊢
    obtain ⟨f, w, n, placed, sent⟩ := x.placePermits_sent tag c d
    have sending : x.power.sending = s.power.sending := by rw [power]
    have slot : x.power.slot = s.power.slot := by rw [power]
    have unanswered : x.power.tallyUnanswered = s.power.tallyUnanswered := by rw [power]
    rw [sending, slot, unanswered] at sent
    rw [placed]
    refine ⟨?_, ?_, ?_, ?_, ?_, sent, ?_⟩
    · exact congrArg Power.tallyPolls power
    · exact congrArg Power.silence power
    · exact congrArg Power.lastPoll power
    · exact congrArg Power.linkUp power
    · exact congrArg Power.status power
    · split at race
      next left =>
        rw [if_pos left]
        obtain ⟨suspends, aborts, stands⟩ := State.Troubled.withReply race f w n c d
        exact ⟨suspends, aborts, fun idle => ⟨by rw [stands idle], by rw [stands idle]⟩⟩
      next kept =>
        rw [if_neg kept]
        exact race
  · simp only [exec, execPermits, hf, hw]
  · simp only [exec, execPermits, hf, hw, State.sendPermits]
end

section
/-! PROOFS. The console ports (R185 to R191, R195 to R197): frames a port does not serve, the transmitter's choices,
holds, queries and port authority (O45 to O48). -/

set_option Elab.async false

namespace Sys2Proof.Machine

open Sys2Proof

variable {s t : State} {p : PortId}

/-! ## What an idle transmitter chooses (R189, R195) -/

section
variable {q : Port} {j : Journal}

theorem Port.choose_sending (h : q.tx ≠ none) : q.choose j = q := by
  obtain ⟨f, hf⟩ := Option.ne_none_iff_exists'.mp h
  simp only [Port.choose, hf]

theorem Port.choose_of_busy {tag : Byte} {rest : List Byte} (idle : q.tx = none) (h : q.busyList = tag :: rest) :
    q.choose j = { q with busyList := rest, tx := some ⟨.busy, busyFrame tag⟩ } := by
  simp only [Port.choose, idle, h]

theorem Port.choose_of_reply {r : List Byte} (idle : q.tx = none) (h : q.busyList = []) (hr : q.reply = some r) :
    q.choose j = { q with reply := none, tx := some ⟨.reply, r⟩ } := by
  simp only [Port.choose, idle, h, hr]

/-- No busy TAG and no reply wait. -/
theorem Port.choose_of_quiet (idle : q.tx = none) (h : q.busyList = []) (hr : q.reply = none) :
    q.choose j = if q.hold.isSome || q.cursor == j.next then q
      else if 0 < q.lost then { q with
        lost := 0, tx := some ⟨.gap, gapFrame q.lost q.cursor⟩
        counters := { q.counters with gapsSent := q.counters.gapsSent + 1 } }
      else match j.ring.find? (fun r => r.seq == q.cursor) with
        | some r => { q with
            cursor := q.cursor + 1, tx := some ⟨.notice, noticeFrame r⟩
            counters := { q.counters with noticesSent := q.counters.noticesSent + 1 } }
        | none => q := by
  unfold Port.choose
  rw [idle, h, hr] <;> rfl

theorem Port.choose_of_gap (idle : q.tx = none) (h : q.busyList = []) (hr : q.reply = none) (free : q.hold = none)
    (unsent : q.cursor ≠ j.next) (lost : 0 < q.lost) : q.choose j = { q with
      lost := 0, tx := some ⟨.gap, gapFrame q.lost q.cursor⟩
      counters := { q.counters with gapsSent := q.counters.gapsSent + 1 } } := by
  simp [Port.choose_of_quiet idle h hr, free, unsent, lost]

theorem Port.choose_of_notice {n : NoticeRec} (idle : q.tx = none) (h : q.busyList = []) (hr : q.reply = none)
    (free : q.hold = none) (unsent : q.cursor ≠ j.next) (lost : q.lost = 0)
    (hn : j.ring.find? (fun m => m.seq == q.cursor) = some n) : q.choose j = { q with
      cursor := q.cursor + 1, tx := some ⟨.notice, noticeFrame n⟩
      counters := { q.counters with noticesSent := q.counters.noticesSent + 1 } } := by
  simp [Port.choose_of_quiet idle h hr, free, unsent, lost, hn]

/-- A hold, or no notice unsent, leaves the transmitter idle. -/
theorem Port.choose_of_held (idle : q.tx = none) (h : q.busyList = []) (hr : q.reply = none)
    (held : q.hold ≠ none ∨ q.cursor = j.next) : q.choose j = q := by
  rw [Port.choose_of_quiet idle h hr]
  refine if_pos ?_
  rcases held with held | held
  · simp [Option.isSome_iff_ne_none, held]
  · simp [held]

/-- A choice counts nothing but the frames it begins. -/
theorem Port.choose_counters (q : Port) (j : Journal) : (q.choose j).counters = { q.counters with
    noticesSent := (q.choose j).counters.noticesSent, gapsSent := (q.choose j).counters.gapsSent } := by
  unfold Port.choose
  repeat' split
  all_goals rfl

end

/-! ## Frames dropped (R185) -/

/-- A frame dropped: the receiver hunts again, and one of its counters has grown. -/
theorem State.modPort_dropped {o : Host.Outcome State Fault Refusal} {rx : Receiver} {l : List Byte}
    {f : PortCounters → PortCounters} (ho : o = .next (s.modPort p (fun q => { q with
      rx := rx, counters := f q.counters }))) (hx : rx.bytes = l) :
    ∃ t, o = .next t ∧ (t.port p).rx.bytes = l ∧ (t.port p).counters = f (s.port p).counters ∧
      t = s.modPort p (fun q => { q with rx := (t.port p).rx, counters := (t.port p).counters }) := by
  refine ⟨_, ho, ?_, ?_, ?_⟩
  · rw [State.modPort_port_self]; exact hx
  · rw [State.modPort_port_self]
  · cases p <;> rfl

theorem exec_consoleFrameDrop_long {bytes : List Byte} (hr : (s.port p).rx.bytes = []) (hh : hunt bytes = bytes)
    (hc : checkFrame bytes = .badLen) : exec (.consoleFrameDrop p bytes) s = .next (s.modPort p (fun q => { q with
      rx := rescan bytes (latestByte (s.port p).rx bytes s.time.session)
      counters := { q.counters with droppedLen := q.counters.droppedLen + 1 } })) := by
  simp only [exec, execConsoleFrameDrop, Receiver.extended_of_empty hr, hh, hc]

theorem exec_consoleFrameDrop_wrongSum {bytes : List Byte} (hr : (s.port p).rx.bytes = []) (hh : hunt bytes = bytes)
    (hc : checkFrame bytes = .badSum) : exec (.consoleFrameDrop p bytes) s = .next (s.modPort p (fun q => { q with
      rx := rescan bytes (latestByte (s.port p).rx bytes s.time.session)
      counters := { q.counters with droppedSum := q.counters.droppedSum + 1 } })) := by
  simp only [exec, execConsoleFrameDrop, Receiver.extended_of_empty hr, hh, hc]

theorem exec_consoleGap_passed {at_ : Time} (hr : (s.port p).rx.bytes ≠ [])
    (hc : checkFrame (s.port p).rx.bytes = .partly) (hg : 200 < (s.time.session - (s.port p).rx.lastAt).toNat) :
    exec (.consoleGap p [] at_) s = .next (s.modPort p (fun q => { q with
      rx := rescan (s.port p).rx.bytes (s.port p).rx.lastAt
      counters := { q.counters with droppedGap := q.counters.droppedGap + 1 } })) := by
  simp only [exec, execConsoleGap, Receiver.extended_nil hr, latestByte, if_true, gapPassed_of hr hc hg]

/-! ## Frames taken while engaged, and of an unknown KIND (R186, R188) -/

/-- The port once a frame taken while it is engaged waits for its BUSY. -/
def Port.busied (q : Port) (tag : Byte) (frame : List Byte) : Port := { q with
  rx := q.rx.taken frame, busyList := q.busyList ++ [tag]
  counters := { q.counters with framesTaken := q.counters.framesTaken + 1, busy := q.counters.busy + 1 } }

/-- A frame taken while the port is engaged joins the BUSY list. -/
theorem exec_busy_engaged {kind tag : Byte} {payload : List Byte} (he : (s.port p).engaged = true)
    (hc : (s.port p).rx.completes payload (ltFrame kind tag payload) = true) (hl : (s.port p).busyList.length < 50) :
    exec (.busy p kind tag payload) s
      = .next (s.modPort p (fun q => q.busied tag (ltFrame kind tag payload))).transmit := by
  have room : ¬ 50 ≤ ((s.frameTaken p (ltFrame kind tag payload)).port p).busyList.length := by
    simpa [State.frameTaken] using hl
  simp only [exec, execBusy, he, hc, Bool.and_self, if_true, State.answerBusy, if_neg room]
  cases p <;> rfl

theorem isRequestKind_false {kind : Byte} (h : kind = 0 ∨ 0x34 < kind.toNat) : isRequestKind kind = false := by
  rcases h with rfl | h
  · rfl
  · exact decide_eq_false (by omega)

/-- A frame taken and answered by its own rule is a request of the length it has. -/
theorem State.takeFrame_eq_serve (s : State) (p : PortId) (kind tag : Byte) (payload : List Byte)
    (body : State → Served) :
    s.takeFrame p kind tag payload body = s.serve p kind tag payload false payload.length body :=
  congrArg (s.takeFrame p kind tag payload) (funext fun u => (judge_eitherPort rfl body u).symm)

/-! ## HOLD (R196) -/

/-- The hold of a HOLD of n units. -/
def State.holdFor (s : State) (n : Nat) : Option Timer := if n = 0 then none else some (s.timer (n * centiTicks))

/-- The work of a HOLD. -/
def holdRequest (p : PortId) (payload : List Byte) (u : State) : Served :=
  ok (u16 (clamp 0 6000 (wordAt payload 0))) (u.modPort p (fun q => { q with
    hold := u.holdFor (clamp 0 6000 (wordAt payload 0)) }))

theorem exec_hold (tag : Byte) (payload : List Byte) :
    exec (.hold p tag payload) s = s.serve p 0x27 tag payload false 2 (holdRequest p payload) := rfl

theorem holdRequest_eq {n : Nat} (hn : n < 65536) (u : State) : holdRequest p (u16 n) u =
    ok (u16 (min 6000 n)) (u.modPort p (fun q => { q with hold := u.holdFor (min 6000 n) })) := by
  have word : clamp 0 6000 (wordAt (u16 n) 0) = min 6000 n := by
    rw [← List.append_nil (u16 n), wordAt_u16 hn, clamp_zero_le, min_comm]
  rw [holdRequest, word]

end Sys2Proof.Machine

open Sys2Proof Sys2Proof.Machine

/-- Settles O45. -/
theorem consoleDrops : Obligations.ConsoleDrops := by
  refine ⟨fun p s len tail hr hl => ?_, fun p s kind tag sum payload hr hl hs => ?_, fun p s at_ hr hc hg => ?_,
    fun p s kind tag payload he hc hl => ?_, fun p s kind tag payload h hk => ?_⟩
  · exact State.modPort_dropped (f := fun k => { k with droppedLen := k.droppedLen + 1 })
      (exec_consoleFrameDrop_long hr (hunt_sync _) (checkFrame_long tail hl)) (rescan_bytes _ _)
  · exact State.modPort_dropped (f := fun k => { k with droppedSum := k.droppedSum + 1 })
      (exec_consoleFrameDrop_wrongSum hr (hunt_spoilt _ _ _ _) (checkFrame_spoilt hl hs _)) (rescan_bytes _ _)
  · exact State.modPort_dropped (f := fun k => { k with droppedGap := k.droppedGap + 1 })
      (exec_consoleGap_passed hr hc hg) (rescan_bytes _ _)
  · refine ⟨_, exec_busy_engaged he hc hl, State.onlyPorts_trans (s.modPort_onlyPorts p _) (State.transmit_onlyPorts _),
      ?_⟩
    rw [State.transmit_port, State.modPort_port_self]
    obtain ⟨q, hq⟩ : ∃ q, q = (s.port p).busied tag (ltFrame kind tag payload) := ⟨_, rfl⟩
    rw [← hq]
    refine ⟨?_, ?_, ?_, fun sending => ?_, fun idle free => ?_⟩
    · rw [q.choose_counters, hq]; rfl
    · rw [q.choose_counters, hq]; rfl
    · rw [Port.choose_engaged, hq]; exact he
    · rw [Port.choose_sending (by rw [hq]; exact sending), hq]; rfl
    · have only : q.busyList = [tag] := by rw [hq]; exact congrArg (· ++ [tag]) free
      rw [Port.choose_of_busy (by rw [hq]; exact idle) only]
      exact ⟨rfl, rfl⟩
  · have runs : exec (.unknownKind p kind tag payload) s
        = s.serve p kind tag payload false payload.length (refuse .unknownKind) := by
      simp only [exec, execUnknownKind, isRequestKind_false hk, State.takeFrame_eq_serve]
      rfl
    rw [runs]
    exact State.serve_unchanged h (by simp) rfl (fun a b => rfl)

/-- Settles O46. -/
theorem consoleTransmit : Obligations.ConsoleTransmit := by
  refine ⟨fun p s f hf => ?_, fun p s tag n m h hn hm => ?_, fun p s w hw hd => ?_⟩
  · have runs : exec (.transmitEnd p) s = .next (s.modPort p (fun q => q.sent f)).transmit := by
      simp only [exec, execTransmitEnd, hf]
    refine ⟨_, runs, State.onlyPorts_trans (s.modPort_onlyPorts p _) (State.transmit_onlyPorts _), ?_⟩
    rw [State.transmit_port, State.modPort_port_self, State.modPort_journal]
    have idle : ((s.port p).sent f).tx = none := rfl
    refine ⟨Port.choose_engaged _ _, fun tag rest hb => ?_, fun r hb hr => ?_, fun hb hr free unsent lost => ?_,
      fun n hb hr free unsent lost hn => ?_, fun hb hr held => ?_⟩
    · rw [Port.choose_of_busy idle hb]
      exact ⟨rfl, rfl, rfl, rfl⟩
    · rw [Port.choose_of_reply idle hb hr]
      exact ⟨rfl, rfl, rfl⟩
    · rw [Port.choose_of_gap idle hb hr free unsent lost]
      exact ⟨rfl, rfl, rfl⟩
    · rw [Port.choose_of_notice idle hb hr free unsent lost hn]
      exact ⟨rfl, rfl⟩
    · rw [Port.choose_of_held idle hb hr held]
      exact idle
  · subst hm
    have body := holdRequest_eq (p := p) hn ((s.frameTaken p (ltFrame 0x27 tag (u16 n))).engage p)
    obtain ⟨t, ht, answered, only⟩ := State.serve_answered h (onlyA := false) (len := 2) (by simp) rfl body (by simp)
    have served := State.serve_eq_replied h rfl body ht
    refine ⟨t, ht, answered, State.onlyPorts_trans (s.taken_onlyPorts p _)
      (State.onlyPorts_trans (State.modPort_onlyPorts _ p _) only), ?_⟩
    rw [served, State.transmit_port, Port.choose_hold, State.putReply, State.modPort_port_self,
      State.modPort_port_self]
    simp [State.holdFor, State.timer, State.engage, State.frameTaken, centiTicks]
  · have runs : exec (.holdDeadline p) s = .next (s.modPort p (fun q => { q with hold := none })).transmit := by
      simp only [exec, execHoldDeadline, hw, timerDue, Timer.due_of_reached hd, if_true]
    refine ⟨_, runs, ?_, State.onlyPorts_trans (s.modPort_onlyPorts p _) (State.transmit_onlyPorts _)⟩
    rw [State.transmit_port, Port.choose_hold, State.modPort_port_self]
end

section
/-! PROOFS. Queries (R36, R57, R76, R77, R88, R136, R161, R162, R174, R183, R197) and the requests port B may not send
(R191): O47 and O48. -/

set_option Elab.async false

namespace Sys2Proof.Machine

open Sys2Proof

variable {s t : State} {p : PortId}

/-! ## The fields of a query -/

/-- The code of a QUERY_PENALTIES: 0 for every car, or a car's code (R63, R162). -/
theorem Code.queried {c : Code} (h : c = 0 ∨ validCode c = true) : c.toNat ≤ 0xEFFF := by
  rcases h with rfl | h
  · decide
  · exact (of_decide_eq_true h).2

theorem map_indexed_toList {α β : Type} {n : Nat} (v : Vector α n) (f : Nat → α → List β) :
    (indexed 0 v.toList).flatMap (fun x => f x.1 x.2) = (List.finRange n).flatMap (fun k => f k.val v[k]) := by
  have pairs : indexed 0 v.toList = (List.finRange n).map (fun k => (k.val, v[k])) := by
    refine List.ext_getElem (by simp [indexed]) (fun i hi hj => ?_)
    simp [indexed]
  rw [pairs, List.flatMap_map]

/-! ## Queries that look something up -/

/-- The work of a QUERY_GATE. -/
def queryGateRequest (payload : List Byte) (u : State) : Served :=
  match gateOf (byteAt payload 0) with
  | some g => ok (u.gateData g) u
  | none => refuse .badArgument u

theorem exec_queryGate (tag : Byte) (payload : List Byte) :
    exec (.queryGate p tag payload) s = s.serve p 0x28 tag payload false 1 (queryGateRequest payload) := rfl

/-- The work of a QUERY_CAR. -/
def queryCarRequest (payload : List Byte) (u : State) : Served :=
  match carCodeOf payload 0 with
  | some c =>
    match u.roster.find c, u.car c with
    | some i, some x => ok (u8 i.val ++ u.staticBytes x ++ u.raceBytes x.race) u
    | _, _ => refuse .notFound u
  | none => refuse .badArgument u

theorem exec_queryCar (tag : Byte) (payload : List Byte) :
    exec (.queryCar p tag payload) s = s.serve p 0x2A tag payload false 2 (queryCarRequest payload) := rfl

theorem queryCarRequest_found {c : Code} {i : Slot} {x : Car} (hc : validCode c = true)
    (hi : s.roster.find c = some i) (hx : s.roster.slots[i] = some x) : queryCarRequest (codeBytes c) s
      = ok (u8 i.val ++ s.staticBytes x ++ s.raceBytes x.race) s := by
  have code : carCodeOf (codeBytes c) 0 = some c := List.append_nil (codeBytes c) ▸ carCodeOf_codeBytes hc []
  simp only [queryCarRequest, code, hi, (State.car_of_find hi).trans hx]

/-- The work of a QUERY_PENALTY. -/
def queryPenaltyRequest (payload : List Byte) (u : State) : Served :=
  match idOf (byteAt payload 0) with
  | some id =>
    match u.penalty id with
    | some r => ok (u.penaltyBytes r) u
    | none => refuse .notFound u
  | none => refuse .badArgument u

theorem exec_queryPenalty (tag : Byte) (payload : List Byte) :
    exec (.queryPenalty p tag payload) s = s.serve p 0x2F tag payload false 1 (queryPenaltyRequest payload) := rfl

theorem queryPenaltyRequest_found {b : Byte} {r : Penalty} (hb : b ≠ 0) (hr : s.penalty b.toNat = some r) :
    queryPenaltyRequest [b] s = ok (s.penaltyBytes r) s := by
  have id : idOf (byteAt [b] 0) = some b.toNat := idOf_of_ne hb
  simp only [queryPenaltyRequest, id, hr]

theorem exec_queryPenalties (tag : Byte) (payload : List Byte) : exec (.queryPenalties p tag payload) s
    = s.serve p 0x30 tag payload false 3 (fun u => if wordAt payload 0 ≤ 0xEFFF ∧ natAt payload 2 ≤ 31
      then ok (u.penaltiesData (codeAt payload 0) (natAt payload 2)) u else refuse .badArgument u) := rfl

theorem exec_queryRoster (tag : Byte) (payload : List Byte) : exec (.queryRoster p tag payload) s
    = s.serve p 0x2B tag payload false 1 (fun u => if natAt payload 0 ≤ 71
      then ok (u.rosterData (natAt payload 0)) u else refuse .badArgument u) := rfl

theorem exec_queryStandings (tag : Byte) (payload : List Byte) : exec (.queryStandings p tag payload) s
    = s.serve p 0x33 tag payload false 1 (fun u => if 1 ≤ natAt payload 0 ∧ natAt payload 0 ≤ 32
      then ok (u.standData (natAt payload 0)) u else refuse .badArgument u) := rfl

/-- The work of a QUERY_PORT. -/
def queryPortRequest (payload : List Byte) (u : State) : Served :=
  match portOf (byteAt payload 0) with
  | some q => ok (u.portData q) u
  | none => refuse .badArgument u

theorem exec_queryPort (tag : Byte) (payload : List Byte) :
    exec (.queryPort p tag payload) s = s.serve p 0x34 tag payload false 1 (queryPortRequest payload) := rfl

theorem queryPortRequest_of (q : PortId) (u : State) :
    queryPortRequest [match q with | .A => 0 | .B => 1] u = ok (u.portData q) u := by
  cases q <;> rfl

/-- A query whose data depend on the port that serves it. -/
theorem State.serve_reads {kind tag : Byte} {payload : List Byte} {len : Nat} {body : State → Served}
    {data : State → List Byte} (h : s.takes p kind tag payload) (hl : payload.length = len)
    (hb : ∀ u, body u = (u, some ⟨.ok, data u⟩)) :
    ∃ t, s.serve p kind tag payload false len body = .next t ∧
      t.answered p kind tag .ok (data ((s.frameTaken p (ltFrame kind tag payload)).engage p)) ∧ s.onlyPorts t := by
  obtain ⟨t, ht, answered, only⟩ := State.serve_answered h (onlyA := false) (by simp) hl (hb _) (by simp)
  exact ⟨t, ht, answered, State.onlyPorts_trans (s.taken_onlyPorts p _) only⟩

/-! ## Port authority (R191) -/

/-- A request of race control is served on port A alone. -/
theorem raceControlOnly_served {i : Instr} {kind tag : Byte} {payload : List Byte}
    (hi : i.request = some (kind, .B, tag, payload)) (hr : raceControlOnly i = true) (s : State) :
    ∃ len body, exec i s = s.serve .B kind tag payload true len body := by
  cases i <;> cases hi
  case caution | lift | suspend => exact absurd hr Bool.false_ne_true
  case assign | discard | call | confirm | waive | hold => exact absurd hr Bool.false_ne_true
  case queryGate | queryUnattributed | queryCar | queryRoster | queryEntries => exact absurd hr Bool.false_ne_true
  case queryCourse | queryRace | queryPenalty | queryPenalties => exact absurd hr Bool.false_ne_true
  case querySchedule | queryPermits | queryStandings | queryPort => exact absurd hr Bool.false_ne_true
  all_goals exact ⟨_, _, rfl⟩

/-- On port B it is refused, whatever it asks (R186 step 3). -/
theorem State.serve_refusedPort {kind tag : Byte} {payload : List Byte} {len : Nat} {body : State → Served}
    (h : s.takes .B kind tag payload) :
    s.serve .B kind tag payload true len body
      = s.serve .B kind tag payload false payload.length (refuse .refusedPort) := by
  rw [State.serve_of_takes _ _ _ h, State.serve_of_takes _ _ _ h, judge_eitherPort rfl]
  rfl

end Sys2Proof.Machine

open Sys2Proof Sys2Proof.Machine

/-- Settles O48. -/
theorem refusedPort : Obligations.RefusedPort := by
  intro i s kind tag payload hi hr h
  obtain ⟨len, body, served⟩ := raceControlOnly_served hi hr s
  rw [served, State.serve_refusedPort h]
  exact State.serve_unchanged h (by simp) rfl (fun a b => rfl)

/-- Settles O47: the data of every query but QUERY_PORT read nothing of the ports. -/
theorem queriesAnswered : Obligations.QueriesAnswered := by
  intro p s tag
  refine ⟨fun g h => ?_, fun h => ?_, fun c i x h hc hi hx => ?_, fun b h hb => ?_, fun h => ?_, fun h => ?_,
    fun h => ?_, fun b r h hb hr => ?_, fun c b h hc hb => ?_, fun h => ?_, fun h => ?_, fun b h h1 h32 => ?_,
    fun q h => ?_⟩
  · rw [exec_queryGate]
    refine State.serve_unchanged h (by simp) rfl (fun a b => ?_)
    have gate : gateOf (byteAt [gateByte g] 0) = some g := gateOf_gateByte g
    simp only [queryGateRequest, gate]
    rfl
  · exact State.serve_unchanged h (by simp) rfl (fun a b => rfl)
  · rw [exec_queryCar]
    exact State.serve_unchanged h (by simp) rfl (fun a b => queryCarRequest_found (s := s.withPorts a b) hc hi hx)
  · rw [exec_queryRoster]
    exact State.serve_unchanged h (by simp) rfl (fun a b => if_pos hb)
  · exact State.serve_unchanged h (by simp) rfl (fun a b => rfl)
  · exact State.serve_unchanged h (by simp) rfl (fun a b => rfl)
  · exact State.serve_unchanged h (by simp) rfl (fun a b => rfl)
  · rw [exec_queryPenalty]
    exact State.serve_unchanged h (by simp) rfl (fun a b => queryPenaltyRequest_found (s := s.withPorts a b) hb hr)
  · rw [exec_queryPenalties, codeAt_codeBytes, natAt_after_code c [b] 0]
    have code : wordAt (codeBytes c ++ [b]) 0 ≤ 0xEFFF := by
      rw [codeBytes, wordAt_u16 c.isLt]; exact Code.queried hc
    exact State.serve_unchanged h (by simp) rfl (fun _ _ => if_pos ⟨code, hb⟩)
  · refine State.serve_unchanged h (by simp) rfl (fun a b => ?_)
    rw [← map_indexed_toList s.pen.schedule (fun k r => r.encode k)]
    rfl
  · exact State.serve_unchanged h (by simp) rfl (fun a b => rfl)
  · rw [exec_queryStandings]
    exact State.serve_unchanged h (by simp) rfl (fun _ _ => if_pos ⟨h1, h32⟩)
  · rw [exec_queryPort]
    exact State.serve_reads (data := fun u => u.portData q) h rfl (queryPortRequest_of q)
end

section
/-! PROOFS. The re-sort of the standings (R175, R178, R179, R182): O50. -/

set_option Elab.async false

namespace Sys2Proof.Machine

open Sys2Proof

variable {s : State}

/-! ## The order of the standings (R175) -/

/-- An entry that does not stand ahead of another stands behind it or level with it. -/
theorem StandEntry.ahead_false_iff (a b : StandEntry) : b.ahead a = false ↔
    (b.laps < a.laps ∨ a.laps = b.laps ∧ (a.time < b.time ∨ a.time = b.time ∧ a.grid ≤ b.grid)) := by
  unfold StandEntry.ahead
  split_ifs <;> simp only [decide_eq_false_iff_not] <;> omega

theorem StandEntry.ahead_asymm (a b : StandEntry) (h : a.ahead b = true) : b.ahead a = false := by
  rw [StandEntry.ahead_false_iff]
  revert h
  unfold StandEntry.ahead
  split_ifs <;> simp only [decide_eq_true_iff] <;> omega

theorem StandEntry.ahead_trans (a b c : StandEntry) (hab : b.ahead a = false) (hbc : c.ahead b = false) :
    c.ahead a = false := by
  rw [StandEntry.ahead_false_iff] at hab hbc ⊢
  omega

theorem State.resorted_perm (s : State) : s.resorted.Perm (s.stand.list.map s.freshEntry) := sortBy_perm _ _

theorem State.resorted_sorted (s : State) : s.resorted.Pairwise (fun a b => b.laps < a.laps
    ∨ a.laps = b.laps ∧ (a.time < b.time ∨ a.time = b.time ∧ a.grid ≤ b.grid)) :=
  (sortBy_sorted _ StandEntry.ahead_asymm StandEntry.ahead_trans _).imp (fun {a b} h => (a.ahead_false_iff b).mp h)

/-! ## The LEADER notice (R179) -/

/-- A notice appended is a change of the journal. -/
theorem Journal.added_ne (j : Journal) (ms : Nat) (n : Notice) : j.added ms n ≠ j := fun e => by
  have next : j.next + 1 = j.next := congrArg Journal.next e
  exact absurd next (by bv_omega)

/-- The notice follows exactly a change of the car in position 1. -/
theorem State.noticeLeader_journal_iff (before : Option StandEntry) (cause : LeaderCause)
    (h : before.isSome = s.stand.list.head?.isSome) :
    (before.map StandEntry.code = s.stand.list.head?.map StandEntry.code) ↔
      (s.noticeLeader before cause).journal = s.journal := by
  unfold State.noticeLeader
  cases before with
  | none =>
    have empty : s.stand.list.head? = none := by simpa using h.symm
    simp [empty]
  | some old =>
    obtain ⟨new, hn⟩ := Option.isSome_iff_exists.mp h.symm
    simp only [hn, Option.map_some, Option.some.injEq]
    split
    next same => simp [same]
    next other => exact iff_of_false other (Journal.added_ne _ _ _)

/-- The Standings Unit after a re-sort of a formed list (R178, R182). -/
def State.resortedStand (s : State) : Standings := { s.stand with
  list := s.resorted
  amendments := if s.stand.fixed = true ∧ s.stand.list.map s.freshEntry ≠ s.stand.list
    then min 255 (s.stand.amendments + 1) else s.stand.amendments }

theorem State.resort_formed (h : s.stand.formed = true) (cause : LeaderCause) :
    s.resort cause = State.noticeLeader { s with stand := s.resortedStand } s.stand.list.head? cause := by
  simp only [State.resort, if_pos h, State.resortedStand, Bool.and_eq_true_iff, decide_eq_true_iff]

/-- A re-sort keeps the number of entries. -/
theorem State.resorted_head (s : State) : s.stand.list.head?.isSome = s.resorted.head?.isSome := by
  have same : s.resorted.length = s.stand.list.length := by
    rw [s.resorted_perm.length_eq, List.length_map]
  cases hs : s.stand.list with
  | nil =>
    have none_left : s.resorted = [] := List.eq_nil_of_length_eq_zero (by rw [same, hs]; rfl)
    rw [none_left]
  | cons e l =>
    obtain ⟨e', l', hr⟩ := List.exists_cons_of_length_pos (l := s.resorted) (by rw [same, hs]; simp)
    rw [hr]; rfl

end Sys2Proof.Machine

open Sys2Proof Sys2Proof.Machine

/-- Settles O50. -/
theorem resortOrder : Obligations.ResortOrder := by
  refine fun s cause => ⟨fun h => ?_, fun h => ?_⟩
  · have stand : (s.resort cause).stand = s.resortedStand := by
      rw [State.resort_formed h, State.noticeLeader_stand]
    have leader := State.noticeLeader_journal_iff (s := { s with stand := s.resortedStand }) s.stand.list.head? cause
      s.resorted_head
    rw [stand]
    exact ⟨s.resorted_perm, s.resorted_sorted, rfl, by rw [State.resort_formed h]; exact leader⟩
  · simp [State.resort, h]
end

section
/-! PROOFS. What the stages of a passage keep of a car's laps (R89 to R107): the relations a counted lap, a settlement, a
finish and the end of a race stand in to the state before them. -/

set_option Elab.async false

namespace Sys2Proof.Machine

open Sys2Proof

variable {s t u : State} {f g : Car → Car}

/-! ## Rosters that differ in what a view of a car does not show -/

/-- Slot by slot, the cars of the two states show the same view, and the roster's own fields stand. -/
def State.Alike (f : Car → Car) (s t : State) : Prop := (t.mapCars f).roster = (s.mapCars f).roster

theorem State.Alike.of_roster (h : t.roster = s.roster) : s.Alike f t := by
  simp only [State.Alike, State.mapCars_roster, h]

theorem State.Alike.trans (h : s.Alike f t) (k : t.Alike f u) : s.Alike f u := Eq.trans k h

theorem State.Alike.modCar (h : ∀ x, f (g x) = f x) (s : State) (c : Code) : s.Alike f (s.modCar c g) :=
  State.modCar_mapCars s c g f h

theorem State.Alike.mapCars (h : ∀ x, f (g x) = f x) (s : State) : s.Alike f (s.mapCars g) := by
  have same : f ∘ g = f := funext h
  rw [State.Alike, State.mapCars_mapCars, same]

/-- A view keeps what a finer view keeps. -/
theorem State.Alike.coarser (h : s.Alike g t) (k : ∀ x, f (g x) = f x) : s.Alike f t := by
  have same : f ∘ g = f := funext k
  have view := congrArg (fun r => (State.mapCars { s with roster := r } f).roster) (show _ = _ from h)
  have shown (a : State) : (State.mapCars { s with roster := (a.mapCars g).roster } f).roster = (a.mapCars f).roster :=
    show ((a.mapCars g).mapCars f).roster = _ by rw [State.mapCars_mapCars, same]
  rwa [shown, shown] at view

theorem State.Alike.cars (h : s.Alike f t) : t.cars.map f = s.cars.map f := by
  rw [← State.mapCars_cars, ← State.mapCars_cars, State.cars_congr h]

theorem State.Alike.car_map (hf : ∀ x, (f x).code = x.code) (h : s.Alike f t) (c : Code) :
    (t.car c).map f = (s.car c).map f := by
  rw [← State.mapCars_car hf, ← State.mapCars_car hf, State.car_congr h]

/-- A car is still there, and shows the same view. -/
theorem State.Alike.car_some (hf : ∀ x, (f x).code = x.code) (h : s.Alike f t) {c : Code} {x : Car}
    (hx : s.car c = some x) : ∃ y, t.car c = some y ∧ f y = f x := by
  have same := h.car_map hf c
  rw [hx] at same
  simpa using same

/-! ## The laps of a car -/

/-- A race part but for car state, silence, serving flag, finish position and what the car is charged. -/
def RacePart.lapped (r : RacePart) : RacePart := { r with
  state := .idle, silence := none, serving := false, finishPos := none, timePenalty := 0, deductions := 0 }

/-- A car with its laps alone. -/
def Car.lapped (x : Car) : Car := { x with race := x.race.lapped }

/-- The laps of every car, the lap tallies and the clocks a capture is timed by stand. -/
structure State.KeepsLaps (s t : State) : Prop where
  cars : s.Alike Car.lapped t
  tallies : t.course.tallies = s.course.tallies
  green : t.time.green = s.time.green
  session : t.time.session = s.time.session

theorem State.KeepsLaps.refl (s : State) : s.KeepsLaps s := ⟨rfl, rfl, rfl, rfl⟩

theorem State.KeepsLaps.trans (h : s.KeepsLaps t) (k : t.KeepsLaps u) : s.KeepsLaps u :=
  ⟨h.cars.trans k.cars, k.tallies.trans h.tallies, k.green.trans h.green, k.session.trans h.session⟩

theorem State.KeepsLaps.after (k : t.KeepsLaps u) (h : s.KeepsLaps t) : s.KeepsLaps u := h.trans k

theorem State.KeepsLaps.car_some (h : s.KeepsLaps t) {c : Code} {x : Car} (hx : s.car c = some x) :
    ∃ y, t.car c = some y ∧ y.lapped = x.lapped :=
  State.Alike.car_some (f := Car.lapped) (fun _ => rfl) h.cars hx

theorem State.captureMs_congr (green : t.time.green = s.time.green) (session : t.time.session = s.time.session)
    (c : Capture) : t.captureMs c = s.captureMs c := by
  unfold State.captureMs State.beforeGreen State.elapsed State.sinceGreen
  rw [green, session]

theorem State.KeepsLaps.captureMs (h : s.KeepsLaps t) (c : Capture) : t.captureMs c = s.captureMs c :=
  State.captureMs_congr h.green h.session c

/-- Blocks other than these may change freely. -/
theorem State.KeepsLaps.of_frame (roster : t.roster = s.roster := by simp)
    (course : t.course = s.course := by simp) (time : t.time = s.time := by simp) : s.KeepsLaps t :=
  ⟨.of_roster roster, by rw [course], by rw [time], by rw [time]⟩

theorem State.Charges.keepsLaps (h : s.Charges t) : s.KeepsLaps t where
  cars := State.Alike.coarser (g := Car.uncharged) h.cars (fun _ => rfl)
  tallies := by rw [h.course]
  green := by rw [h.time]
  session := by rw [h.time]

theorem State.modRace_keepsLaps (s : State) (c : Code) {e : RacePart → RacePart}
    (h : ∀ r, (e r).lapped = r.lapped) : s.KeepsLaps (s.modRace c e) where
  cars := State.Alike.modCar (fun x => by simp only [Car.lapped, h]) s c
  tallies := by simp
  green := by simp
  session := by simp

/-! ## Serving and settling (R101, R103, R151 to R155) -/

theorem State.markServing_keepsLaps (s : State) (c : Code) : s.KeepsLaps (s.markServing c) :=
  s.modRace_keepsLaps c (fun _ => rfl)

theorem State.beginStopGo_keepsLaps (s : State) (c : Code) : s.KeepsLaps (s.beginStopGo c) := by
  unfold State.beginStopGo
  repeat' split
  · exact .after (State.finishEvent_charges _ _ _ _).keepsLaps (s.modRace_keepsLaps c (fun _ => rfl))
  all_goals exact .refl s

theorem State.stageServing_keepsLaps (s : State) (x : Passage) : s.KeepsLaps (s.stageServing x) := by
  unfold State.stageServing
  repeat' split
  · exact s.beginStopGo_keepsLaps x.code
  all_goals exact .refl s

/-! ## Finishing (R102, R129, R130, R132) -/

theorem State.recordFinish_keepsLaps (s : State) (c : Code) : s.KeepsLaps (s.recordFinish c) := by
  unfold State.recordFinish
  dsimp only
  repeat' split
  · exact .after (State.append_charges _ _).keepsLaps (s.modRace_keepsLaps c (fun _ => rfl))
  · exact s.modRace_keepsLaps c (fun _ => rfl)
  · exact .refl s

theorem State.finishCar_keepsLaps (s : State) (c : Code) : s.KeepsLaps (s.finishCar c) :=
  .after (State.recomputeCar_charges _ c).keepsLaps (.after (State.recordFinish_keepsLaps _ c)
    (s.modRace_keepsLaps c (fun _ => rfl)))

theorem State.closing_keepsLaps (s : State) (r : StateReason) : s.KeepsLaps (s.closing r) where
  cars := by
    have roster : ((s.closedClocks.announce s.race.state r).applyShadow).roster = s.roster := by
      rw [State.applyShadow_roster, State.announce_roster, s.closedClocks_frame]
    exact (State.Alike.of_roster roster).trans (State.Alike.mapCars (f := Car.lapped)
      (g := fun x => { x with race := { x.race with silence := none } }) (fun _ => rfl) _)
  tallies := by rw [State.closing_course]
  green := by rw [State.closing_time]
  session := by rw [State.closing_time]

theorem State.closeRace_keepsLaps (s : State) (r : StateReason) : s.KeepsLaps (s.closeRace r) := by
  have off := (s.closing_keepsLaps r).trans (s.closedOff_charges r).keepsLaps
  rw [State.closeRace_eq]
  exact off.trans (.of_frame)

theorem State.doneTest_keepsLaps (s : State) : s.KeepsLaps s.doneTest := by
  unfold State.doneTest
  split
  · exact s.closeRace_keepsLaps _
  · exact .refl s

theorem State.enterChequered_keepsLaps (s : State) : s.KeepsLaps s.enterChequered :=
  .after (State.doneTest_keepsLaps _) (.of_frame)

theorem State.finishChecks_keepsLaps (s : State) (c : Code) : s.KeepsLaps (s.finishChecks c) := by
  have finished (a : State) : a.KeepsLaps ((a.finishCar c).settleCar c .finish) :=
    (a.finishCar_keepsLaps c).trans (State.settleCar_charges _ _ _).keepsLaps
  unfold State.finishChecks
  repeat' split
  · exact s.enterChequered_keepsLaps.trans (finished _)
  · exact finished s
  all_goals exact .refl s

end Sys2Proof.Machine
end

section
/-! PROOFS. A passage that the phase gate lets through, stage by stage (R89 to R104): what becomes of the laps of its car
and of the lap tallies. -/

set_option Elab.async false

namespace Sys2Proof.Machine

open Sys2Proof

variable {s t u : State} {y : Car} {x : Passage}

/-! ## The phase gate (R90, R91) -/

/-- The phase gate lets this passage of this car through to the stages. -/
structure State.Admits (s : State) (y : Car) (x : Passage) : Prop where
  unfinished : y.race.state ≠ .finished
  unretired : y.race.state ≠ .retired
  point : x.point < s.course.points.length
  later : ∀ l, y.race.last = some l → s.sinceGreen l.capture.time < s.sinceGreen x.capture.time
  begun : s.race.state ≠ .countdown
  since : s.sinceGreen x.capture.time ≤ s.elapsed
  tag : x.capture.tag.race = .green ∨ x.capture.tag.race = .caution ∨ x.capture.tag.race = .suspended ∨
    x.capture.tag.race = .chequered

theorem State.later_of_last {l : LastPassage} (h : y.race.last = some l)
    (later : s.sinceGreen l.capture.time < s.sinceGreen x.capture.time) (k : LastPassage) (hk : y.race.last = some k) :
    s.sinceGreen k.capture.time < s.sinceGreen x.capture.time := by
  rw [h] at hk
  cases hk
  exact later

theorem State.later_of_none (h : y.race.last = none) (k : LastPassage) (hk : y.race.last = some k) :
    s.sinceGreen k.capture.time < s.sinceGreen x.capture.time := by
  rw [h] at hk
  cases hk

/-- A running car's passage in GREEN. -/
theorem State.admits_green (hs : s.race.state = .green) (hr : y.race.state = .running)
    (point : x.point < s.course.points.length)
    (later : ∀ l, y.race.last = some l → s.sinceGreen l.capture.time < s.sinceGreen x.capture.time)
    (since : s.sinceGreen x.capture.time ≤ s.elapsed)
    (tag : x.capture.tag.race = .green ∨ x.capture.tag.race = .caution ∨ x.capture.tag.race = .suspended ∨
      x.capture.tag.race = .chequered) : s.Admits y x :=
  ⟨by simp [hr], by simp [hr], point, later, by simp [hs], since, tag⟩

/-- A passage later than the last one is not late. -/
theorem State.late_false (h : ∀ l, y.race.last = some l → s.sinceGreen l.capture.time < s.sinceGreen x.capture.time) :
    (match y.race.last with
      | some l => !s.laterThan x.capture.time l.capture.time
      | none => false) = false := by
  cases hl : y.race.last with
  | none => rfl
  | some l => simpa [State.laterThan] using h l hl

theorem State.isEarly_false (h : s.Admits y x) : s.isEarly x.capture = false := by
  have before : s.beforeGreen x.capture.time = false := by simpa [State.beforeGreen] using h.since
  rcases h.tag with k | k | k | k <;> simp [State.isEarly, before, k]

theorem State.phaseGate_admits (h : s.Admits y x) : s.phaseGate y x = s.passStages y x := by
  have counting : ¬ (x.capture.tag.race = .countdown ∧ s.race.state.racing = true) := by
    rcases h.tag with k | k | k | k <;> simp [k]
  exact (if_neg h.unfinished).trans ((if_neg h.unretired).trans ((if_neg (Nat.not_le.mpr h.point)).trans
    ((if_neg (Bool.eq_false_iff.mp (State.late_false h.later))).trans ((if_neg h.begun).trans
      ((if_neg counting).trans (if_neg (Bool.eq_false_iff.mp (State.isEarly_false h))))))))

theorem State.processPassage_of (hy : s.car x.code = some y) : s.processPassage x = (s.phaseGate y x).doneTest := by
  simp only [State.processPassage, hy]

theorem State.processPassage_admits (hy : s.car x.code = some y) (h : s.Admits y x) :
    s.processPassage x = (s.passStages y x).doneTest := by
  rw [State.processPassage_of hy, State.phaseGate_admits h]

/-! ## What the stages find of a passage (R93, R94, R97 to R99) -/

/-- The span of a passage. -/
def State.spanOf (s : State) (y : Car) (x : Passage) : Span := s.measure y.race x.point

/-- Its IMPLAUSIBLE mark. -/
def State.markOf (s : State) (y : Car) (x : Passage) : Bool := (s.spanOf y x).implausible y.race x.lane

/-- Where point 0 lies in it. -/
def State.placeOf (s : State) (y : Car) (x : Passage) : LinePlace := linePlace (s.spanOf y x) x.point

/-- The ticks of a timed lap it ends. -/
def State.ticksOf (s : State) (y : Car) (x : Passage) : Option Nat :=
  lapTicks y.race (s.spanOf y x) (s.placeOf y x) x.capture

/-- The flags of a lap it counts. -/
def State.flagsOf (s : State) (y : Car) (x : Passage) : LapFlags :=
  lapFlagsOf y.race (s.spanOf y x) (s.placeOf y x) x (s.isNeutral x.capture) (s.markOf y x) (s.ticksOf y x)

/-- The passage counts a lap: point 0 is reached or missed within the tolerance in an open lap. -/
abbrev State.countsLap (s : State) (y : Car) (x : Passage) : Prop :=
  s.placeOf y x ≠ .neither ∧ y.race.lapState ≠ .closed ∧ (s.spanOf y x).within = true

/-- The passage loses a lap: it does so beyond the tolerance. -/
abbrev State.losesLap (s : State) (y : Car) (x : Passage) : Prop :=
  s.placeOf y x ≠ .neither ∧ y.race.lapState ≠ .closed ∧ (s.spanOf y x).within = false

/-- The laps of a race part after the line. -/
def State.lapsAfter (s : State) (y : Car) (x : Passage) (r : RacePart) : RacePart :=
  if s.countsLap y x then
    (r.turnLap (s.spanOf y x) (s.placeOf y x) x).countLap (s.flagsOf y x) (s.ticksOf y x) (s.captureMs x.capture)
  else r.turnLap (s.spanOf y x) (s.placeOf y x) x

/-- A car after its passage, but for what a settlement, a finish and the penalty unit change. -/
def State.passed (s : State) (y : Car) (x : Passage) : Car := { y with
  lastSeen := x.capture.time
  race := { s.lapsAfter y x y.race with last := some ⟨x.point, x.lane, x.capture, s.captureMs x.capture⟩ } }

theorem RacePart.turnLap_lapped (r : RacePart) (sp : Span) (place : LinePlace) (x : Passage) :
    (r.turnLap sp place x).lapped = (r.lapped.turnLap sp place x).lapped := by
  cases place <;> rfl

theorem RacePart.countLap_lapped (r : RacePart) (f : LapFlags) (ticks : Option Nat) (ms : Nat) :
    (r.countLap f ticks ms).lapped = (r.lapped.countLap f ticks ms).lapped := by
  unfold RacePart.countLap
  dsimp only
  split <;> rfl

/-- A change of laps that reads laps alone, made to two cars of the same laps. -/
theorem Car.lapped_change {z : Car} (h : z.lapped = y.lapped) {e : RacePart → RacePart}
    (he : ∀ r, (e r).lapped = (e r.lapped).lapped) :
    Car.lapped { z with race := e z.race } = Car.lapped { y with race := e y.race } := by
  have shape (a : Car) : Car.lapped { a with race := e a.race } = { a.lapped with race := (e a.lapped.race).lapped } :=
    congrArg (fun r => ({ a with race := r } : Car)) (he a.race)
  rw [shape z, shape y, h]

theorem State.lapsAfter_lapped (s : State) (y : Car) (x : Passage) (r : RacePart) :
    (s.lapsAfter y x r).lapped = (s.lapsAfter y x r.lapped).lapped := by
  unfold State.lapsAfter
  split
  · rw [RacePart.countLap_lapped, RacePart.turnLap_lapped, ← RacePart.countLap_lapped]
  · exact r.turnLap_lapped _ _ _

/-! ## Stages 2 to 4 (R92 to R96) -/

theorem State.rejoin_keepsLaps (s : State) (y : Car) (x : Passage) (mark : Bool) : s.KeepsLaps (s.rejoin y x mark) := by
  have running : s.KeepsLaps (s.modRace x.code (fun r => { r with state := .running })) :=
    s.modRace_keepsLaps x.code (fun _ => rfl)
  unfold State.rejoin
  split
  · exact running.trans (State.recomputeCar_charges _ _).keepsLaps
  · exact running.trans (.after (State.recomputeCar_charges _ _).keepsLaps (State.append_charges _ _).keepsLaps)
  · exact .refl s

theorem State.rejoin_race (s : State) (y : Car) (x : Passage) (mark : Bool) : (s.rejoin y x mark).race = s.race := by
  unfold State.rejoin
  split <;> simp

theorem State.rejoin_of_running (h : y.race.state = .running) (mark : Bool) : s.rejoin y x mark = s := by
  simp only [State.rejoin, h]

/-- The span tallies: a passage beyond the tolerance is a relocation, an implausible one is counted. -/
def State.spanTallied (s : State) (y : Car) (x : Passage) (a : State) : State :=
  let b := if (s.spanOf y x).within then a else a.tallyLap (fun v => { v with relocated := v.relocated + 1 })
  if s.markOf y x then b.tallyLap (fun v => { v with implausible := v.implausible + 1 }) else b

/-- The lap tallies after them. -/
def State.spanTallies (s : State) (y : Car) (x : Passage) : LapTallies := { s.course.tallies with
  relocated := s.course.tallies.relocated + (if (s.spanOf y x).within then 0 else 1)
  implausible := s.course.tallies.implausible + (if s.markOf y x then 1 else 0) }

theorem State.spanTallied_eq {a : State} (h : a.course.tallies = s.course.tallies) :
    s.spanTallied y x a = { a with course := { a.course with tallies := s.spanTallies y x } } := by
  unfold State.spanTallied State.spanTallies
  cases hw : (s.spanOf y x).within <;> cases hm : s.markOf y x <;> simp [State.tallyLap, ← h]

/-- The calls stages 2 and 4 find. -/
def State.callsOf (s : State) (y : Car) (x : Passage) : List (Fin 6) :=
  (if decide (y.race.state = .offTrack) && s.rejoinCall y.race x then [5] else [])
    ++ s.checks y.race (s.spanOf y x) x (decide (y.race.state = .offTrack))

/-- The state in which stage 5 begins. -/
def State.checked (s : State) (y : Car) (x : Passage) : State :=
  (s.spanTallied y x (s.rejoin y x (s.markOf y x))).raiseAll (s.callsOf y x) x

theorem State.passStages_eq (s : State) (y : Car) (x : Passage) : s.passStages y x =
    ((((s.checked y x).stageLaps y x (s.spanOf y x) (s.markOf y x)).stageServing x).update x) := rfl

/-- Stages 2 to 4 keep the laps, the controller and the clocks, and add the span tallies. -/
theorem State.checked_spec (s : State) (y : Car) (x : Passage) : s.Alike Car.lapped (s.checked y x) ∧
    (s.checked y x).course.tallies = s.spanTallies y x ∧ (s.checked y x).time.green = s.time.green ∧
    (s.checked y x).time.session = s.time.session ∧ (s.checked y x).race = s.race := by
  obtain ⟨cars, tallies, green, session⟩ := s.rejoin_keepsLaps y x (s.markOf y x)
  have race := s.rejoin_race y x (s.markOf y x)
  have charges := State.raiseAll_charges (s.spanTallied y x (s.rejoin y x (s.markOf y x))) (s.callsOf y x) x
  rw [State.spanTallied_eq tallies] at charges
  obtain ⟨cars', tallies', green', session'⟩ := charges.keepsLaps
  have race' := charges.race
  unfold State.checked
  rw [State.spanTallied_eq tallies]
  exact ⟨cars.trans cars', tallies', green'.trans green, session'.trans session, race'.trans race⟩

/-! ## Stage 5 (R97 to R101) -/

/-- A counted lap does to the laps what `countLap` does, whatever it settles. -/
theorem State.countedLap_keepsLaps (s : State) (y : Car) (x : Passage) (f : LapFlags) (ticks : Option Nat) :
    State.KeepsLaps (s.modRace x.code (fun r => r.countLap f ticks (s.captureMs x.capture)))
      (s.countedLap y x f ticks) := by
  unfold State.countedLap
  dsimp only
  refine .after (State.markServing_keepsLaps _ _) ?_
  have ending (a : State) : a.KeepsLaps (if a.race.state.racing then a.serveTriggers x.code else a) := by
    split
    · exact (State.serveTriggers_charges a _).keepsLaps
    · exact .refl a
  refine .after (ending _) (.after (State.finishChecks_keepsLaps _ _) ?_)
  split
  · exact .after (State.resort_charges _ _).keepsLaps (State.append_charges _ _).keepsLaps
  · exact (State.append_charges _ _).keepsLaps

/-- The lap tallies once a lost lap is counted. -/
def State.lapTallies (s : State) (y : Car) (x : Passage) : LapTallies := { s.spanTallies y x with
  lost := s.course.tallies.lost + (if s.losesLap y x then 1 else 0) }

/-- Everything stage 5 can do (R97): a lap counted, one lost, or one opened or left as it is. -/
theorem State.stageLaps_cases (s u : State) (y : Car) (x : Passage)
    (neutral : u.isNeutral x.capture = s.isNeutral x.capture) (b : State)
    (hb : b = u.modRace x.code (fun r => r.turnLap (s.spanOf y x) (s.placeOf y x) x)) :
    (s.countsLap y x → u.stageLaps y x (s.spanOf y x) (s.markOf y x)
        = b.countedLap y x (s.flagsOf y x) (s.ticksOf y x)) ∧
    (s.losesLap y x → u.stageLaps y x (s.spanOf y x) (s.markOf y x)
        = ((b.append (.lostLap x.code y.number x.point (s.spanOf y x).missed.length 0 (u.captureMs x.capture))).tallyLap
          (fun v => { v with lost := v.lost + 1 })).markServing x.code) ∧
    (s.placeOf y x ≠ .neither → y.race.lapState = .closed →
      u.stageLaps y x (s.spanOf y x) (s.markOf y x) = b.markServing x.code) ∧
    (s.placeOf y x = .neither → u.stageLaps y x (s.spanOf y x) (s.markOf y x) = b) := by
  subst hb
  unfold State.stageLaps State.flagsOf State.countsLap State.losesLap
  dsimp only
  rw [neutral]
  have place : linePlace (s.spanOf y x) x.point = s.placeOf y x := rfl
  rw [place]
  cases hp : s.placeOf y x <;> simp +contextual [State.ticksOf, hp]

/-- The laps of its car after stage 5, and the lap tallies. -/
theorem State.stageLaps_spec {z : Car} (hz : u.car x.code = some z) (hl : z.lapped = y.lapped)
    (race : u.race = s.race) (green : u.time.green = s.time.green) (session : u.time.session = s.time.session) :
    (∃ w, (u.stageLaps y x (s.spanOf y x) (s.markOf y x)).car x.code = some w ∧
      w.lapped = Car.lapped { y with race := s.lapsAfter y x y.race }) ∧
    (u.stageLaps y x (s.spanOf y x) (s.markOf y x)).course.tallies = { u.course.tallies with
      lost := u.course.tallies.lost + (if s.losesLap y x then 1 else 0) } ∧
    (u.stageLaps y x (s.spanOf y x) (s.markOf y x)).time.green = s.time.green ∧
    (u.stageLaps y x (s.spanOf y x) (s.markOf y x)).time.session = s.time.session := by
  have ms : u.captureMs x.capture = s.captureMs x.capture := State.captureMs_congr green session _
  have neutral : u.isNeutral x.capture = s.isNeutral x.capture := by simp only [State.isNeutral, race]
  obtain ⟨b, hb⟩ : ∃ b, b = u.modRace x.code (fun r => r.turnLap (s.spanOf y x) (s.placeOf y x) x) := ⟨_, rfl⟩
  obtain ⟨counts, loses, closed, neither⟩ := s.stageLaps_cases u y x neutral b hb
  have turned : b.car x.code = some { z with race := z.race.turnLap (s.spanOf y x) (s.placeOf y x) x } := by
    rw [hb, State.modRace_car_self, hz]; rfl
  have course : b.course = u.course := by rw [hb]; simp
  have time : b.time = u.time := by rw [hb]; simp
  have bms : b.captureMs x.capture = s.captureMs x.capture := by rw [← ms, State.captureMs_congr] <;> rw [time]
  have after : Car.lapped { z with race := s.lapsAfter y x z.race } = Car.lapped { y with race := s.lapsAfter y x y.race } :=
    Car.lapped_change hl (s.lapsAfter_lapped y x)
  have kept {a c : State} (h : a.KeepsLaps c) (car : a.car x.code = some { z with race := s.lapsAfter y x z.race })
      (tallies : a.course.tallies = { u.course.tallies with
        lost := u.course.tallies.lost + (if s.losesLap y x then 1 else 0) }) (clocks : a.time = u.time) :
      (∃ w, c.car x.code = some w ∧ w.lapped = Car.lapped { y with race := s.lapsAfter y x y.race }) ∧
      c.course.tallies = { u.course.tallies with
        lost := u.course.tallies.lost + (if s.losesLap y x then 1 else 0) } ∧
      c.time.green = s.time.green ∧ c.time.session = s.time.session := by
    obtain ⟨w, hw, e⟩ := h.car_some car
    exact ⟨⟨w, hw, e.trans after⟩, h.tallies.trans tallies, h.green.trans (clocks ▸ green),
      h.session.trans (clocks ▸ session)⟩
  by_cases hc : s.countsLap y x
  · have unlost : ¬ s.losesLap y x := fun k => absurd k.2.2 (by rw [hc.2.2]; decide)
    rw [counts hc]
    refine kept (b.countedLap_keepsLaps y x _ _) ?_ (by simp [course, if_neg unlost]) (by simp [time])
    rw [State.modRace_car_self, turned, State.lapsAfter, if_pos hc, bms]
    rfl
  · have line : s.lapsAfter y x z.race = z.race.turnLap (s.spanOf y x) (s.placeOf y x) x := if_neg hc
    rw [← line] at turned
    by_cases hl : s.losesLap y x
    · rw [loses hl]
      exact kept (State.markServing_keepsLaps _ _) turned (by simp [State.tallyLap, course, if_pos hl])
        (by simp [State.tallyLap, time])
    · have tallies : b.course.tallies = { u.course.tallies with
          lost := u.course.tallies.lost + (if s.losesLap y x then 1 else 0) } := by simp [course, if_neg hl]
      by_cases hn : s.placeOf y x = .neither
      · rw [neither hn]
        exact kept (.refl b) turned tallies time
      · have shut : y.race.lapState = .closed := by
          by_contra open'
          cases hw : (s.spanOf y x).within
          · exact hl ⟨hn, open', hw⟩
          · exact hc ⟨hn, open', hw⟩
        rw [closed hn shut]
        exact kept (b.markServing_keepsLaps _) turned tallies time

/-! ## Stage 7 and the whole passage (R89, R104) -/

/-- The record of a car updated with its last passage (R104). -/
def State.lastSet (s : State) (x : Passage) (w : Car) : Car := { w with
  lastSeen := x.capture.time
  race := { w.race with
    last := some ⟨x.point, x.lane, x.capture, s.captureMs x.capture⟩
    silence := if s.updatesSilence w.race x.code then some (s.raceClock + s.silenceTicks) else w.race.silence } }

/-- Stage 7 updates the record of the car, and may recompute its row. -/
theorem State.update_charges {w : Car} (hw : u.car x.code = some w) : ∃ g : Car → Car, g w = u.lastSet x w ∧
    (∀ z, (g z).code = z.code) ∧ (u.modCar x.code g).Charges (u.update x) := by
  refine ⟨fun z => { z with
    lastSeen := x.capture.time
    race := { z.race with
      last := some ⟨x.point, x.lane, x.capture, u.captureMs x.capture⟩
      silence := if u.updatesSilence w.race x.code then some (u.raceClock + u.silenceTicks) else w.race.silence } },
    rfl, fun _ => rfl, ?_⟩
  unfold State.update
  simp only [hw]
  exact .ite (.refl _) (State.recomputeCar_charges _ _)

theorem State.update_spec {w : Car} (hw : u.car x.code = some w) : (∃ z, (u.update x).car x.code = some z ∧
    z.uncharged = (u.lastSet x w).uncharged) ∧ (u.update x).course = u.course ∧ (u.update x).race = u.race ∧
    (u.update x).time = u.time := by
  obtain ⟨g, hg, code, charges⟩ := State.update_charges hw
  have set : (u.modCar x.code g).car x.code = some (u.lastSet x w) := by
    rw [State.modCar_car_self code, hw, ← hg]; rfl
  exact ⟨charges.car_some set, by simp [charges.course], by simp [charges.race], by simp [charges.time]⟩

/-- A car of the same laps but for what is charged is one of the same laps. -/
theorem Car.lapped_of_uncharged {z w : Car} (h : z.uncharged = w.uncharged) : z.lapped = w.lapped :=
  show z.uncharged.lapped = w.uncharged.lapped from congrArg Car.lapped h

/-- What a passage let through leaves of the laps of its car, and the lap tallies. -/
theorem State.passStages_laps (hy : s.car x.code = some y) : (∃ z, (s.passStages y x).car x.code = some z ∧
    z.lapped = (s.passed y x).lapped) ∧ (s.passStages y x).course.tallies = s.lapTallies y x := by
  obtain ⟨cars, tallies, green, session, race⟩ := s.checked_spec y x
  obtain ⟨a, ha, same⟩ := State.Alike.car_some (f := Car.lapped) (fun _ => rfl) cars hy
  obtain ⟨⟨w, hw, laps⟩, tallied, green', session'⟩ := State.stageLaps_spec ha same race green session
  obtain ⟨b, hb⟩ : ∃ b, b = (s.checked y x).stageLaps y x (s.spanOf y x) (s.markOf y x) := ⟨_, rfl⟩
  rw [← hb] at hw tallied green' session'
  have serving := b.stageServing_keepsLaps x
  obtain ⟨v, hv, same'⟩ := serving.car_some hw
  obtain ⟨⟨z, hz, set⟩, course, -, -⟩ := State.update_spec hv
  have ms : (b.stageServing x).captureMs x.capture = s.captureMs x.capture :=
    State.captureMs_congr (serving.green.trans green') (serving.session.trans session') _
  rw [s.passStages_eq y x, ← hb]
  refine ⟨⟨z, hz, (Car.lapped_of_uncharged set).trans ?_⟩, ?_⟩
  · have view (c : Car) : Car.lapped (State.lastSet (b.stageServing x) x c) = { c.lapped with
        lastSeen := x.capture.time
        race := { c.lapped.race with
          last := some ⟨x.point, x.lane, x.capture, s.captureMs x.capture⟩ } } := by
      rw [← ms]; rfl
    rw [view, same', laps]
    rfl
  · rw [course, serving.tallies, tallied, tallies]
    rfl

/-- What a passage let through leaves of the laps of its car, and the lap tallies, whatever it closes. -/
theorem State.processPassage_laps (hy : s.car x.code = some y) (h : s.Admits y x) :
    (∃ z, (s.processPassage x).car x.code = some z ∧ z.lapped = (s.passed y x).lapped) ∧
      (s.processPassage x).course.tallies = s.lapTallies y x := by
  obtain ⟨⟨w, hw, laps⟩, tallies⟩ := State.passStages_laps hy
  have done := (s.passStages y x).doneTest_keepsLaps
  rw [State.processPassage_admits hy h]
  obtain ⟨z, hz, same⟩ := done.car_some hw
  exact ⟨⟨z, hz, same.trans laps⟩, done.tallies.trans tallies⟩

end Sys2Proof.Machine
end

section
/-! PROOFS. The span of a passage in numbers (R48, R93, R97), and the laps it counts, loses and opens (R97 to R101): O51
and O52. -/

set_option Elab.async false

namespace Sys2Proof.Machine

open Sys2Proof

variable {s t u : State} {y : Car} {x : Passage}

/-! ## Spans (R93, R97) -/

/-- The points strictly inside a span, one after the other from the one after its start. -/
theorem missedPoints_eq (count p q : Nat) : missedPoints count p q
    = (List.range (spanLength count p q - 1)).map (fun i => (p + (i + 1)) % count) := by
  unfold missedPoints spanSections
  cases spanLength count p q with
  | zero => rfl
  | succ n => rw [List.range_succ_eq_map]; simp [Function.comp_def]

theorem missedPoints_length (count p q : Nat) : (missedPoints count p q).length = spanLength count p q - 1 := by
  simp [missedPoints_eq]

/-- A span to another point is as long as the way to it in the lap, or in the next. -/
theorem spanLength_of {count p q : Nat} (hp : p < count) (hq : q < count) :
    spanLength count p q = if p < q then q - p else q + count - p := by
  unfold spanLength
  split_ifs with same later later
  · omega
  · omega
  · rw [show q + count - p = q - p + count by omega, Nat.add_mod_right, Nat.mod_eq_of_lt (by omega)]
  · exact Nat.mod_eq_of_lt (by omega)

/-- Point 0 lies strictly inside a span exactly when the span ends in the next lap, past it. -/
theorem zero_mem_missedPoints {count p q : Nat} (hp : p < count) (hq : q < count) (h0 : q ≠ 0) :
    0 ∈ missedPoints count p q ↔ q ≤ p := by
  rw [missedPoints_eq, spanLength_of hp hq, List.mem_map]
  constructor
  · rintro ⟨i, hi, zero⟩
    by_contra ahead
    rw [if_pos (by omega), List.mem_range] at hi
    rw [Nat.mod_eq_of_lt (by omega)] at zero
    omega
  · intro behind
    rw [if_neg (by omega)]
    exact ⟨count - p - 1, List.mem_range.mpr (by omega), by rw [show p + (count - p - 1 + 1) = count by omega,
      Nat.mod_self]⟩

theorem State.lengthTo_eq (s : State) (p q : Nat) : s.lengthTo p q = spanLength s.course.points.length p q := rfl

section
variable {p : Nat}

/-- The span of a passage from this point. -/
theorem State.spanOf_from (h : y.race.spanFrom = some p) : s.spanOf y x = ⟨true, s.spanned p (s.lengthTo p x.point),
    missedPoints s.course.points.length p x.point,
    decide ((missedPoints s.course.points.length p x.point).length ≤ s.course.settings.missTolerance)⟩ := by
  simp only [State.spanOf, State.measure, h, State.spanSectors_eq]
  rfl

theorem State.within_iff (h : y.race.spanFrom = some p) :
    (s.spanOf y x).within = true ↔ s.lengthTo p x.point ≤ s.course.settings.missTolerance + 1 := by
  rw [State.spanOf_from h, decide_eq_true_iff, missedPoints_length, State.lengthTo_eq]
  omega

theorem State.missed_length (h : y.race.spanFrom = some p) :
    (s.spanOf y x).missed.length = s.lengthTo p x.point - 1 := by
  rw [State.spanOf_from h]
  exact missedPoints_length _ _ _

theorem State.placeOf_reached (h0 : x.point = 0) : s.placeOf y x = .reached := if_pos h0

theorem State.placeOf_missed (h : y.race.spanFrom = some p) (hp : p < s.course.points.length)
    (hq : x.point < s.course.points.length) (h0 : x.point ≠ 0) (behind : x.point ≤ p) : s.placeOf y x = .missed := by
  have inside : (s.spanOf y x).missed.contains 0 = true := by
    rw [State.spanOf_from h]
    exact List.contains_iff_mem.mpr ((zero_mem_missedPoints hp hq h0).mpr behind)
  exact (if_neg h0).trans (if_pos inside)

theorem State.placeOf_neither (h : y.race.spanFrom = some p) (hq : x.point < s.course.points.length)
    (ahead : p < x.point) : s.placeOf y x = .neither := by
  have outside : ¬ (s.spanOf y x).missed.contains 0 = true := by
    rw [State.spanOf_from h, List.contains_iff_mem, zero_mem_missedPoints (by omega) hq (by omega)]
    omega
  exact (if_neg (by omega : x.point ≠ 0)).trans (if_neg outside)

/-- A passage that reaches or misses point 0. -/
theorem State.placeOf_line (h : y.race.spanFrom = some p) (hp : p < s.course.points.length)
    (hq : x.point < s.course.points.length) (line : x.point = 0 ∨ x.point ≤ p) :
    s.placeOf y x = if x.point = 0 then .reached else .missed := by
  by_cases h0 : x.point = 0
  · rw [if_pos h0]; exact State.placeOf_reached h0
  · rw [if_neg h0]; exact State.placeOf_missed h hp hq h0 (line.resolve_left h0)

end

theorem RacePart.spanFrom_last {r : RacePart} {l : LastPassage} (h : r.last = some l) : r.spanFrom = some l.point := by
  simp only [RacePart.spanFrom, h]

theorem RacePart.spanFrom_line {r : RacePart} (h : r.last = none) (hs : r.lapState ≠ .closed) : r.spanFrom = some 0 := by
  simp only [RacePart.spanFrom, h, if_neg hs]

/-- A car with no last passage and no lap has no span. -/
theorem State.spanOf_none (h : y.race.last = none) (hs : y.race.lapState = .closed) :
    s.spanOf y x = ⟨false, [], [], true⟩ := by
  simp only [State.spanOf, State.measure, RacePart.spanFrom, h, hs, if_true]

/-- Nothing beyond the tolerance is marked. -/
theorem State.markOf_beyond (h : (s.spanOf y x).within = false) : s.markOf y x = false := by
  simp [State.markOf, Span.implausible, h]

/-! ## Laps counted and turned (R97, R99, R100) -/

section
variable {r : RacePart} {f : LapFlags} {ticks : Option Nat} {ms : Nat}

/-- What a counted lap keeps of the lap opened at the line, and what it counts. -/
theorem RacePart.countLap_spec (r : RacePart) (f : LapFlags) (ticks : Option Nat) (ms : Nat) :
    (r.countLap f ticks ms).counted = min 65535 (r.counted + 1) ∧ (r.countLap f ticks ms).lastCountedMs = ms ∧
    (r.countLap f ticks ms).lastLapMs = ticks.map (fun v => min maxLapMs (v / 100)) ∧
    (r.countLap f ticks ms).lapState = r.lapState ∧ (r.countLap f ticks ms).lapStart = r.lapStart ∧
    (r.countLap f ticks ms).missed = r.missed := by
  unfold RacePart.countLap
  dsimp only
  split <;> exact ⟨rfl, rfl, rfl, rfl, rfl, rfl⟩

/-- A lap that is not eligible leaves reference and best lap. -/
theorem RacePart.countLap_ineligible (h : f.eligible = false) : (r.countLap f ticks ms).bestLapMs = r.bestLapMs ∧
    (r.countLap f ticks ms).refTicks = r.refTicks := by
  simp [RacePart.countLap, h]

/-- An untimed lap is not eligible. -/
theorem LapFlags.ineligible_of_untimed (h : f.timed = false) : f.eligible = false := by
  simp [LapFlags.eligible, h]

/-- An eligible lap becomes the reference, and the best when it is the shortest. -/
theorem RacePart.countLap_eligible {v : Nat} (h : f.eligible = true) (hv : v / 100 ≤ maxLapMs) :
    (r.countLap f (some v) ms).refTicks = some v ∧ (r.countLap f (some v) ms).bestLapMs =
      (if r.bestLapMs.all (fun b => decide (v / 100 < b)) = true then some (v / 100) else r.bestLapMs) := by
  cases hb : r.bestLapMs with
  | none => simp [RacePart.countLap, h, hb, Nat.min_eq_right hv]
  | some b =>
    simp only [RacePart.countLap, h, hb, if_true, Option.map_some, Option.getD_some, Nat.min_eq_right hv,
      Option.all_some, decide_eq_true_iff]
    exact ⟨trivial, trivial⟩

end

/-- The line turned: an open lap from point 0, untimed where point 0 was missed. -/
theorem RacePart.turnLap_line (r : RacePart) (sp : Span) (x : Passage) :
    (r.turnLap sp (if x.point = 0 then .reached else .missed) x).lapState
        = (if x.point = 0 then .openTimed else .openUntimed) ∧
    (r.turnLap sp (if x.point = 0 then .reached else .missed) x).lapStart
        = (if x.point = 0 then some ⟨x.capture.time, x.capture.neutral, x.capture.tag⟩ else none) ∧
    (r.turnLap sp (if x.point = 0 then .reached else .missed) x).missed = (if x.point = 0 then 0 else x.point - 1) := by
  split_ifs <;> exact ⟨rfl, rfl, rfl⟩

/-- Of a race part, the line turns lap state, lap start and missed points alone. -/
theorem RacePart.turnLap_keeps (r : RacePart) (sp : Span) (place : LinePlace) (x : Passage) :
    r.turnLap sp place x = { r with lapState := (r.turnLap sp place x).lapState
                                    lapStart := (r.turnLap sp place x).lapStart
                                    missed := (r.turnLap sp place x).missed } := by
  cases place <;> rfl

end Sys2Proof.Machine
end

section
/-! PROOFS. A timed lap and a late passage (R90, R93, R97 to R100, R130): O51. -/

set_option Elab.async false

namespace Sys2Proof.Machine

open Sys2Proof

variable {s t u : State} {y : Car} {x : Passage}

/-! ## What two cars of the same laps share -/

/-- The laps of two cars are the same, field by field. -/
structure Car.SameLaps (z w : Car) : Prop where
  lastSeen : z.lastSeen = w.lastSeen
  last : z.race.last = w.race.last
  counted : z.race.counted = w.race.counted
  lapState : z.race.lapState = w.race.lapState
  lapStart : z.race.lapStart = w.race.lapStart
  missed : z.race.missed = w.race.missed
  lastLapMs : z.race.lastLapMs = w.race.lastLapMs
  lastCountedMs : z.race.lastCountedMs = w.race.lastCountedMs
  bestLapMs : z.race.bestLapMs = w.race.bestLapMs
  refTicks : z.race.refTicks = w.race.refTicks

theorem Car.sameLaps {z w : Car} (h : z.lapped = w.lapped) : z.SameLaps w :=
  have field {α : Type} (f : Car → α) : f z.lapped = f w.lapped := congrArg f h
  ⟨(field fun c => c.lastSeen :), (field fun c => c.race.last :), (field fun c => c.race.counted :),
    (field fun c => c.race.lapState :), (field fun c => c.race.lapStart :),
    (field fun c => c.race.missed :), (field fun c => c.race.lastLapMs :),
    (field fun c => c.race.lastCountedMs :), (field fun c => c.race.bestLapMs :),
    (field fun c => c.race.refTicks :)⟩

/-- The lap a passage ends is timed when it reaches point 0 within the tolerance in a timed lap. -/
theorem State.ticksOf_timed {o : LapStart} (h0 : x.point = 0) (hw : (s.spanOf y x).within = true)
    (ht : y.race.lapState = .openTimed) (ho : y.race.lapStart = some o) : s.ticksOf y x
      = some ((x.capture.time - o.time).toNat - (x.capture.neutral - o.neutral).toNat) := by
  have timed : s.placeOf y x = .reached ∧ (s.spanOf y x).within = true ∧ y.race.lapState = .openTimed :=
    ⟨State.placeOf_reached h0, hw, ht⟩
  simp only [State.ticksOf, lapTicks, if_pos timed, ho, Option.map_some]
  rfl

theorem State.ticksOf_untimed (h : s.placeOf y x ≠ .reached ∨ y.race.lapState ≠ .openTimed) : s.ticksOf y x = none := by
  refine if_neg (fun timed => ?_)
  obtain ⟨reached, -, open'⟩ := timed
  exact h.elim (absurd reached) (absurd open')

/-! ## Cars that are done (R130) -/

/-- A car with whether it is entered and done alone. -/
def Car.doneView (x : Car) : Car := { x with
  lastSeen := 0
  race := { RacePart.initial with
    state := if x.race.state = .finished ∨ x.race.state = .retired then .retired else .idle } }

theorem Car.doneView_entered (x : Car) : x.doneView.entered = x.entered := rfl

theorem Car.doneView_done (x : Car) : (x.doneView.race.state = .finished ∨ x.doneView.race.state = .retired) ↔
    (x.race.state = .finished ∨ x.race.state = .retired) := by
  unfold Car.doneView
  split_ifs with done <;> simp [done]

/-- Whether a race is done is a matter of the cars' done views. -/
theorem State.raceDone_iff (s : State) : s.raceDone = true ↔
    ∀ e ∈ s.cars.map Car.doneView, e.entered = true → e.race.state = .finished ∨ e.race.state = .retired := by
  simp only [State.raceDone, List.all_eq_true, List.forall_mem_map, Car.doneView_entered, Car.doneView_done]
  refine forall₂_congr (fun e _ => ?_)
  cases he : e.entered <;> simp

theorem State.Alike.raceDone (h : s.Alike Car.doneView t) : t.raceDone = s.raceDone :=
  Bool.eq_iff_iff.mpr (by rw [State.raceDone_iff, State.raceDone_iff, h.cars])

theorem State.raceDone_of_done (h : ∀ e ∈ s.cars, e.entered = true → e.race.state = .finished ∨ e.race.state = .retired) :
    s.raceDone = true := by
  rw [State.raceDone_iff, List.forall_mem_map]
  exact fun e he k => e.doneView_done.mpr (h e he k)

theorem State.doneTest_undone (h : s.race.state ≠ .chequered ∨ s.raceDone = false) : s.doneTest = s := by
  refine if_neg (fun done => ?_)
  rcases h with h | h
  · exact h done.1
  · rw [h] at done; cases done.2

theorem State.doneTest_done (h : s.race.state = .chequered) (hd : s.raceDone = true) :
    s.doneTest = s.closeRace .finished :=
  if_pos ⟨h, hd⟩

theorem State.withPorts_self (s : State) : s.withPorts s.portA s.portB = s := rfl

/-- The race has been closed, with the ports it has. -/
theorem State.closeRace_closedWith (s : State) (r : StateReason) : s.closedWith (s.closeRace r) r := by
  have closed := s.closeRace_closed r s.portA s.portB (s.closeRace r).portA (s.closeRace r).portB
  rwa [State.withPorts_self, State.withPorts_self] at closed

/-! ## A late passage (R90) -/

/-- A change of a car changes nothing but the roster's slots. -/
theorem State.modCar_slots (s : State) (c : Code) (f : Car → Car) :
    s.modCar c f = { s with roster.slots := (s.modCar c f).roster.slots } := by
  unfold State.modCar
  split <;> rfl

/-- The state once a late passage has been counted. -/
def State.lateSeen (s : State) (x : Passage) : State :=
  (s.setLastSeen x.code x.capture.time).tallyLap (fun v => { v with late := v.late + 1 })

theorem State.phaseGate_late {l : LastPassage} (unfinished : y.race.state ≠ .finished)
    (unretired : y.race.state ≠ .retired) (point : x.point < s.course.points.length) (hl : y.race.last = some l)
    (late : s.sinceGreen x.capture.time ≤ s.sinceGreen l.capture.time) : s.phaseGate y x = s.lateSeen x := by
  have isLate : (match y.race.last with
      | some l => !s.laterThan x.capture.time l.capture.time
      | none => false) = true := by
    simpa [hl, State.laterThan] using late
  exact (if_neg unfinished).trans ((if_neg unretired).trans ((if_neg (Nat.not_le.mpr point)).trans (if_pos isLate)))

theorem State.lateSeen_frame (s : State) (x : Passage) : s.lateSeen x = { s with
    roster.slots := (s.lateSeen x).roster.slots, course.tallies.late := s.course.tallies.late + 1 } :=
  congrArg (fun u => State.tallyLap u (fun v => { v with late := v.late + 1 })) (s.modCar_slots x.code _)

theorem State.lateSeen_carSet (hy : s.car x.code = some y) :
    s.carSet (s.lateSeen x) x.code { y with lastSeen := x.capture.time } :=
  State.modCar_carSet (f := fun c => { c with lastSeen := x.capture.time }) (fun _ => rfl) hy

theorem State.lateSeen_alike (s : State) (x : Passage) : s.Alike Car.doneView (s.lateSeen x) :=
  State.Alike.modCar (g := fun c => { c with lastSeen := x.capture.time }) (fun _ => rfl) s x.code

theorem State.processPassage_late {l : LastPassage} (hy : s.car x.code = some y) (unfinished : y.race.state ≠ .finished)
    (unretired : y.race.state ≠ .retired) (point : x.point < s.course.points.length) (hl : y.race.last = some l)
    (late : s.sinceGreen x.capture.time ≤ s.sinceGreen l.capture.time) :
    s.processPassage x = (s.lateSeen x).doneTest := by
  rw [State.processPassage_of hy, State.phaseGate_late unfinished unretired point hl late]

end Sys2Proof.Machine

open Sys2Proof Sys2Proof.Machine

/-- Settles O51. -/
theorem passageAccounting : Obligations.PassageAccounting := by
  refine ⟨fun s y x l o hy hs hr h0 hp hl later since tag span timed ho => ?_,
    fun s y x l hy going unfinished unretired point hl late => ?_,
    fun s y x l hy hs done unfinished unretired point hl late => ?_⟩
  · have admits : s.Admits y x := State.admits_green hs hr (by omega) (State.later_of_last hl later) since (.inl tag)
    have start : y.race.spanFrom = some l.point := RacePart.spanFrom_last hl
    have within : (s.spanOf y x).within = true := by
      rw [State.within_iff start, State.lengthTo_eq, spanLength_of hp admits.point, h0]
      split_ifs at span ⊢ <;> omega
    have reached : s.placeOf y x = .reached := State.placeOf_reached h0
    have counts : s.countsLap y x := ⟨by rw [reached]; simp, by simp [timed], within⟩
    obtain ⟨⟨z, hz, laps⟩, -⟩ := State.processPassage_laps hy admits
    have same := Car.sameLaps laps
    have passed : (s.passed y x).race = { s.lapsAfter y x y.race with
      last := some ⟨x.point, x.lane, x.capture, s.captureMs x.capture⟩ } := rfl
    obtain ⟨counted, countedMs, lapMs, lapState, lapStart, missed⟩ := RacePart.countLap_spec
      (y.race.turnLap (s.spanOf y x) (s.placeOf y x) x) (s.flagsOf y x) (s.ticksOf y x) (s.captureMs x.capture)
    rw [State.lapsAfter, if_pos counts] at passed
    refine ⟨z, hz, ?_, ?_, ?_, ?_, ?_, ?_, ?_, same.lastSeen⟩
    · rw [same.counted, passed]
      exact counted.trans (by rw [RacePart.turnLap_keeps])
    · rw [same.lastLapMs, passed]
      refine lapMs.trans ?_
      rw [State.ticksOf_timed h0 within timed ho]
      rfl
    · rw [same.lastCountedMs, passed]
      exact countedMs
    · rw [same.lapState, passed]
      exact lapState.trans (by rw [reached]; rfl)
    · rw [same.lapStart, passed]
      exact lapStart.trans (by rw [reached]; rfl)
    · rw [same.missed, passed]
      exact missed.trans (by rw [reached]; rfl)
    · rw [same.last, passed, h0]
  · have open' : (s.lateSeen x).doneTest = s.lateSeen x := by
      refine State.doneTest_undone ?_
      by_cases hs : s.race.state = .chequered
      · exact .inr ((s.lateSeen_alike x).raceDone.trans (State.raceDone_of_running (going hs)))
      · exact .inl (by rw [s.lateSeen_frame x]; exact hs)
    rw [State.processPassage_late hy unfinished unretired point hl late, open']
    refine ⟨State.lateSeen_carSet hy, by rw [s.lateSeen_frame x], ?_⟩
    rw [s.lateSeen_frame x]
  · have closes : (s.lateSeen x).doneTest = (s.lateSeen x).closeRace .finished :=
      State.doneTest_done (by rw [s.lateSeen_frame x]; exact hs)
        ((s.lateSeen_alike x).raceDone.trans (State.raceDone_of_done done))
    have set := State.lateSeen_carSet hy
    have frame := s.lateSeen_frame x
    rw [State.processPassage_late hy unfinished unretired point hl late, closes]
    obtain ⟨u, hu⟩ : ∃ u, u = s.lateSeen x := ⟨_, rfl⟩
    rw [← hu] at set frame ⊢
    exact ⟨u, set, frame, u.closeRace_closedWith .finished⟩
end

section
/-! PROOFS. The lap table of a passage in GREEN (R93, R97 to R101): O52. -/

set_option Elab.async false

namespace Sys2Proof.Machine

open Sys2Proof

variable {s t u : State} {y : Car} {x : Passage}

/-! ## Flags of a timed lap (R99, R100) -/

theorem PhaseTag.underCaution_false_iff (k : PhaseTag) :
    k.underCaution = false ↔ k.race ≠ .caution ∧ ¬ (k.race = .chequered ∧ k.held = true) := by
  unfold PhaseTag.underCaution
  cases k.race <;> simp

theorem cautionFlag_false_iff (o : LapStart) (k : PhaseTag) : cautionFlag (some o) k = false ↔
    o.tag.cautionEpoch = k.cautionEpoch ∧ o.tag.underCaution = false ∧ k.underCaution = false := by
  simp [cautionFlag, and_assoc]

theorem neutralFlag_false_iff (o : LapStart) (k : PhaseTag) (neutral : Bool) : neutralFlag (some o) k neutral = false ↔
    o.tag.suspensionEpoch = k.suspensionEpoch ∧ o.tag.race ≠ .suspended ∧ k.race ≠ .suspended ∧ neutral = false := by
  simp [neutralFlag, and_assoc]

/-- A passage has the origin of a head's own reading, or is one predicted or assigned. -/
theorem PassageOrigin.unpredicted_iff (o : PassageOrigin) :
    (decide (o = .predicted) || decide (o = .assigned)) = false ↔ o = .coded ∨ o = .shared := by
  cases o <;> simp

theorem LapFlags.eligible_iff (f : LapFlags) : f.eligible = true ↔ f.timed = true ∧ f.caution = false ∧
    f.neutral = false ∧ f.overMax = false ∧ f.predicted = false ∧ f.serving = false := by
  simp [LapFlags.eligible, and_assoc]

/-- A timed lap in GREEN is eligible exactly when it carries none of the five flags. -/
theorem State.flagsOf_eligible_iff {o : LapStart} {ticks : Nat} (hs : s.race.state = .green)
    (hticks : s.ticksOf y x = some ticks) (ho : y.race.lapStart = some o) : (s.flagsOf y x).eligible = true ↔
      o.tag.cautionEpoch = x.capture.tag.cautionEpoch ∧ o.tag.race ≠ .caution ∧ x.capture.tag.race ≠ .caution ∧
      ¬ (o.tag.race = .chequered ∧ o.tag.held = true) ∧
      ¬ (x.capture.tag.race = .chequered ∧ x.capture.tag.held = true) ∧
      o.tag.suspensionEpoch = x.capture.tag.suspensionEpoch ∧ o.tag.race ≠ .suspended ∧
      x.capture.tag.race ≠ .suspended ∧ ticks / 100 ≤ 16777215 ∧ (x.origin = .coded ∨ x.origin = .shared) ∧
      y.race.serving = false := by
  have timed : (s.flagsOf y x).timed = true := by
    show (s.ticksOf y x).isSome = true
    rw [hticks]; rfl
  have caution : (s.flagsOf y x).caution = cautionFlag (some o) x.capture.tag := by
    rw [← ho]; rfl
  have neutral : (s.flagsOf y x).neutral = neutralFlag (some o) x.capture.tag (s.isNeutral x.capture) := by
    rw [← ho]; rfl
  have isNeutral : s.isNeutral x.capture = false ↔ x.capture.tag.race ≠ .suspended := by
    simp [State.isNeutral, hs]
  have overMax : (s.flagsOf y x).overMax = decide (maxLapMs < ticks / 100) := by
    show (match s.ticksOf y x with | some v => decide (maxLapMs < v / 100) | none => false) = _
    rw [hticks]
  have predicted : (s.flagsOf y x).predicted = (decide (x.origin = .predicted) || decide (x.origin = .assigned)) := rfl
  have serving : (s.flagsOf y x).serving = y.race.serving := rfl
  rw [LapFlags.eligible_iff, caution, neutral, overMax, predicted, serving, cautionFlag_false_iff,
    neutralFlag_false_iff, isNeutral, PassageOrigin.unpredicted_iff, PhaseTag.underCaution_false_iff,
    PhaseTag.underCaution_false_iff, decide_eq_false_iff_not, Nat.not_lt, maxLapMs]
  tauto

/-! ## A car with no lap (R97) -/

/-- With no span the passage lies at the line or nowhere. -/
theorem State.placeOf_none (h : y.race.last = none) (hs : y.race.lapState = .closed) :
    s.placeOf y x = if x.point = 0 then .reached else .neither := by
  simp only [State.placeOf, linePlace, State.spanOf_none h hs]
  rfl

theorem State.markOf_none (h : y.race.last = none) (hs : y.race.lapState = .closed) : s.markOf y x = false := by
  simp [State.markOf, State.spanOf_none h hs, Span.implausible]

/-! ## A lost lap whole (R97) -/

/-- A car with an empty serve queue has no head of it. -/
theorem State.queueHead_empty {c : Code} (h : s.serveQueue c = []) : s.queueHead c = none := by
  cases hq : s.queueHead c with
  | none => rfl
  | some r => exact absurd (State.mem_of_queueHead hq) (by rw [h]; exact List.not_mem_nil)

theorem State.stageServing_empty (h : s.serveQueue x.code = []) : s.stageServing x = s := by
  have stays : s.beginStopGo x.code = s := by simp [State.beginStopGo, State.queueHead_empty h]
  unfold State.stageServing
  split
  · split
    · exact stays
    · rfl
  · rfl

/-- A running car's passage beyond the tolerance is only tallied before stage 5. -/
theorem State.checked_beyond (hr : y.race.state = .running) (hw : (s.spanOf y x).within = false) :
    s.checked y x = { s with course := { s.course with tallies := s.spanTallies y x } } := by
  have calls : s.callsOf y x = [] := by
    unfold State.callsOf State.checks
    cases y.race.last <;> simp [hr, hw]
  simp only [State.checked, State.rejoin_of_running hr, calls, State.spanTallied_eq rfl, State.raiseAll,
    List.foldl_nil]

theorem State.update_journal_race (s : State) (x : Passage) :
    (s.update x).journal = s.journal ∧ (s.update x).race = s.race := by
  unfold State.update
  dsimp only
  repeat' split
  all_goals simp

/-- The notice of a lost lap is the one notice, and the race goes on. -/
theorem State.passStages_lost (hr : y.race.state = .running) (loses : s.losesLap y x)
    (h : s.serveQueue x.code = []) : (s.passStages y x).journal = s.journal.added s.raceMs
      (.lostLap x.code y.number x.point (s.spanOf y x).missed.length 0 (s.captureMs x.capture)) ∧
    (s.passStages y x).race = s.race := by
  rw [s.passStages_eq, State.checked_beyond hr loses.2.2]
  obtain ⟨u, hu⟩ : ∃ u : State, u = { s with course := { s.course with tallies := s.spanTallies y x } } := ⟨_, rfl⟩
  have ms : u.captureMs x.capture = s.captureMs x.capture := by rw [hu]; rfl
  have clock : u.raceMs = s.raceMs := by rw [hu]; rfl
  have journal : u.journal = s.journal := by rw [hu]
  have race : u.race = s.race := by rw [hu]
  have list : u.pen.list = s.pen.list := by rw [hu]
  have neutral : u.isNeutral x.capture = s.isNeutral x.capture := by rw [hu]; rfl
  rw [← hu]
  obtain ⟨b, hb⟩ : ∃ b, b = u.modRace x.code (fun r => r.turnLap (s.spanOf y x) (s.placeOf y x) x) := ⟨_, rfl⟩
  have brace : b.race = u.race := by rw [hb]; simp
  have bclock : b.raceMs = u.raceMs := State.raceMs_congr (by rw [hb]; simp) brace
  have bjournal : b.journal = u.journal := by rw [hb]; simp
  have blist : b.pen.list = u.pen.list := by rw [hb]; simp
  obtain ⟨-, lost, -⟩ := s.stageLaps_cases u y x neutral b hb
  have empty : State.serveQueue (((b.append (.lostLap x.code y.number x.point (s.spanOf y x).missed.length 0
      (u.captureMs x.capture))).tallyLap (fun v => { v with lost := v.lost + 1 })).markServing x.code) x.code = [] := by
    rw [State.serveQueue_congr (s := s), h]
    simp [State.markServing, State.tallyLap, blist, list]
  obtain ⟨noticed, going⟩ := State.update_journal_race (((b.append (.lostLap x.code y.number x.point
    (s.spanOf y x).missed.length 0 (u.captureMs x.capture))).tallyLap
      (fun v => { v with lost := v.lost + 1 })).markServing x.code) x
  rw [lost loses, State.stageServing_empty empty, noticed, going]
  constructor
  · rw [State.markServing, State.modRace_journal]
    show (b.append _).journal = _
    rw [State.append_frame, bclock, bjournal, clock, journal, ms]
  · rw [State.markServing, State.modRace_race]
    exact brace.trans race

/-! ## Laps after the line -/

theorem State.lapsAfter_counts (h : s.countsLap y x) (r : RacePart) : s.lapsAfter y x r =
    (r.turnLap (s.spanOf y x) (s.placeOf y x) x).countLap (s.flagsOf y x) (s.ticksOf y x) (s.captureMs x.capture) :=
  if_pos h

theorem State.lapsAfter_turns (h : ¬ s.countsLap y x) (r : RacePart) :
    s.lapsAfter y x r = r.turnLap (s.spanOf y x) (s.placeOf y x) x :=
  if_neg h

/-- Counted or not, a lap is open from the line. -/
theorem State.lapsAfter_line (place : s.placeOf y x = if x.point = 0 then .reached else .missed) (r : RacePart) :
    (s.lapsAfter y x r).lapState = (if x.point = 0 then .openTimed else .openUntimed) ∧
    (s.lapsAfter y x r).lapStart
      = (if x.point = 0 then some ⟨x.capture.time, x.capture.neutral, x.capture.tag⟩ else none) ∧
    (s.lapsAfter y x r).missed = (if x.point = 0 then 0 else x.point - 1) := by
  have turned := r.turnLap_line (s.spanOf y x) x
  rw [← place] at turned
  by_cases h : s.countsLap y x
  · obtain ⟨-, -, -, lapState, lapStart, missed⟩ := RacePart.countLap_spec
      (r.turnLap (s.spanOf y x) (s.placeOf y x) x) (s.flagsOf y x) (s.ticksOf y x) (s.captureMs x.capture)
    rw [State.lapsAfter_counts h, lapState, lapStart, missed]
    exact turned
  · rw [State.lapsAfter_turns h]
    exact turned

/-- A passage that counts no lap leaves what laps have counted. -/
theorem State.lapsAfter_uncounted (h : ¬ s.countsLap y x) (r : RacePart) :
    (s.lapsAfter y x r).counted = r.counted ∧ (s.lapsAfter y x r).lastLapMs = r.lastLapMs ∧
    (s.lapsAfter y x r).bestLapMs = r.bestLapMs ∧ (s.lapsAfter y x r).refTicks = r.refTicks := by
  rw [State.lapsAfter_turns h, RacePart.turnLap_keeps]
  exact ⟨rfl, rfl, rfl, rfl⟩

/-- A counted lap counts, at the time of its capture. -/
theorem State.lapsAfter_counted (h : s.countsLap y x) (r : RacePart) :
    (s.lapsAfter y x r).counted = min 65535 (r.counted + 1) ∧
    (s.lapsAfter y x r).lastCountedMs = s.captureMs x.capture ∧
    (s.lapsAfter y x r).lastLapMs = (s.ticksOf y x).map (fun v => min maxLapMs (v / 100)) := by
  obtain ⟨counted, countedMs, lapMs, -⟩ := RacePart.countLap_spec
    (r.turnLap (s.spanOf y x) (s.placeOf y x) x) (s.flagsOf y x) (s.ticksOf y x) (s.captureMs x.capture)
  rw [State.lapsAfter_counts h, counted, countedMs, lapMs, RacePart.turnLap_keeps]
  exact ⟨rfl, rfl, rfl⟩

/-- A counted lap that is not eligible leaves reference and best lap. -/
theorem State.lapsAfter_ineligible (h : s.countsLap y x) (f : (s.flagsOf y x).eligible = false) (r : RacePart) :
    (s.lapsAfter y x r).bestLapMs = r.bestLapMs ∧ (s.lapsAfter y x r).refTicks = r.refTicks := by
  obtain ⟨best, ref⟩ := RacePart.countLap_ineligible (r := r.turnLap (s.spanOf y x) (s.placeOf y x) x)
    (ticks := s.ticksOf y x) (ms := s.captureMs x.capture) f
  rw [State.lapsAfter_counts h, best, ref, RacePart.turnLap_keeps]
  exact ⟨rfl, rfl⟩

/-- A counted lap that is eligible is the reference, and the best when it is the shortest. -/
theorem State.lapsAfter_eligible {v : Nat} (h : s.countsLap y x) (f : (s.flagsOf y x).eligible = true)
    (hv : s.ticksOf y x = some v) (short : v / 100 ≤ maxLapMs) (r : RacePart) :
    (s.lapsAfter y x r).refTicks = some v ∧ (s.lapsAfter y x r).bestLapMs =
      (if r.bestLapMs.all (fun b => decide (v / 100 < b)) = true then some (v / 100) else r.bestLapMs) := by
  obtain ⟨ref, best⟩ := RacePart.countLap_eligible (r := r.turnLap (s.spanOf y x) (s.placeOf y x) x)
    (ms := s.captureMs x.capture) f short
  rw [State.lapsAfter_counts h, hv, ref, best, RacePart.turnLap_keeps]
  exact ⟨rfl, rfl⟩

/-- A lap that is not timed is not eligible. -/
theorem State.flagsOf_untimed (h : s.ticksOf y x = none) : (s.flagsOf y x).eligible = false :=
  LapFlags.ineligible_of_untimed (congrArg Option.isSome h)

/-! ## The passage in GREEN -/

theorem State.passed_race (s : State) (y : Car) (x : Passage) : (s.passed y x).race = { s.lapsAfter y x y.race with
    last := some ⟨x.point, x.lane, x.capture, s.captureMs x.capture⟩ } := rfl

/-- The journal of a passage that loses a lap in GREEN. -/
theorem State.processPassage_lost (hy : s.car x.code = some y) (admits : s.Admits y x) (hs : s.race.state = .green)
    (hr : y.race.state = .running) (loses : s.losesLap y x) (h : s.serveQueue x.code = []) :
    (s.processPassage x).journal = s.journal.added s.raceMs
      (.lostLap x.code y.number x.point (s.spanOf y x).missed.length 0 (s.captureMs x.capture)) := by
  obtain ⟨journal, race⟩ := State.passStages_lost hr loses h
  rw [State.processPassage_admits hy admits, State.doneTest_undone (.inl (by rw [race, hs]; simp)), journal]

end Sys2Proof.Machine

open Sys2Proof Sys2Proof.Machine

/-- Settles O52. -/
theorem lapTable : Obligations.LapTable := by
  refine ⟨fun s t y x p len ht hy hs hr hq hp from_ since tag line hlen => ?_,
    fun s t y x l o ticks clean ht hy hs hr h0 hp hl later since tag span timed ho hticks hclean => ?_,
    fun s t y x ht hy hs hr hq hl shut since tag => ?_, fun s t y x l ht hy hs hr hl ahead hq later since tag => ?_⟩
  · have start : y.race.spanFrom = some p := by
      rcases from_ with ⟨l, hl, rfl, -⟩ | ⟨hl, open', rfl⟩
      · exact RacePart.spanFrom_last hl
      · exact RacePart.spanFrom_line hl open'
    have later (l : LastPassage) (hl : y.race.last = some l) :
        s.sinceGreen l.capture.time < s.sinceGreen x.capture.time := by
      rcases from_ with ⟨k, hk, -, hlater⟩ | ⟨hk, -⟩ <;> rw [hk] at hl <;> cases hl
      exact hlater
    have admits : s.Admits y x := State.admits_green hs hr hq later since tag
    have place := State.placeOf_line start hp hq line
    have within := State.within_iff (s := s) (x := x) start
    have onLine : s.placeOf y x ≠ .neither := by rw [place]; split_ifs <;> simp
    obtain ⟨⟨z, hz, laps⟩, tallies⟩ := State.processPassage_laps hy admits
    have same := Car.sameLaps laps
    rw [← hlen] at within
    have loses : s.losesLap y x ↔ s.course.settings.missTolerance + 1 < len ∧ y.race.lapState ≠ .closed := by
      rw [State.losesLap, Bool.eq_false_iff, Ne, Ne, Ne, within]
      constructor
      · rintro ⟨-, open', beyond⟩; exact ⟨by omega, open'⟩
      · rintro ⟨beyond, open'⟩; exact ⟨onLine, open', by omega⟩
    obtain ⟨lapState, lapStart, missed⟩ := State.lapsAfter_line place y.race
    have race := s.passed_race y x
    rw [ht, tallies]
    refine ⟨z, hz, ?_, ?_, ?_, congrArg (s.course.tallies.relocated + ·) (if_congr within rfl rfl),
      congrArg (s.course.tallies.lost + ·) (if_congr loses rfl rfl), fun near open' => ?_, fun uncounted => ?_,
      fun beyond open' empty => ?_⟩
    · rw [same.lapState, race]; exact lapState
    · rw [same.lapStart, race]; exact lapStart
    · rw [same.missed, race]; exact missed
    · have counts : s.countsLap y x := ⟨onLine, open', within.mpr near⟩
      obtain ⟨counted, countedMs, lapMs⟩ := State.lapsAfter_counted counts y.race
      rw [same.counted, same.lastCountedMs, same.lastLapMs, same.bestLapMs, same.refTicks, race]
      refine ⟨counted, countedMs, fun untimed => ?_⟩
      have ticks : s.ticksOf y x = none := by
        refine State.ticksOf_untimed (untimed.imp (fun h0 => ?_) (fun h => by simp [h]))
        rw [place, if_neg h0]; simp
      rw [ticks] at lapMs
      exact ⟨lapMs, State.lapsAfter_ineligible counts (State.flagsOf_untimed ticks) y.race⟩
    · have uncounted : ¬ s.countsLap y x := fun counts => by
        obtain ⟨-, open', near⟩ := counts
        have := within.mp near
        rcases uncounted with beyond | shut
        · omega
        · exact open' shut
      rw [same.counted, same.lastLapMs, same.bestLapMs, same.refTicks, race]
      exact State.lapsAfter_uncounted uncounted y.race
    · have lost := State.processPassage_lost hy admits hs hr (loses.mpr ⟨beyond, open'⟩) empty
      rw [lost, State.missed_length start, ← hlen]
  · have start : y.race.spanFrom = some l.point := RacePart.spanFrom_last hl
    have admits : s.Admits y x := State.admits_green hs hr (by omega) (State.later_of_last hl later) since tag
    have within : (s.spanOf y x).within = true := (State.within_iff start).mpr (by rw [h0]; exact span)
    have reached : s.placeOf y x = .reached := State.placeOf_reached h0
    have counts : s.countsLap y x := ⟨by rw [reached]; simp, by simp [timed], within⟩
    have lap : s.ticksOf y x = some ticks := by rw [hticks]; exact State.ticksOf_timed h0 within timed ho
    obtain ⟨⟨z, hz, laps⟩, -⟩ := State.processPassage_laps hy admits
    have same := Car.sameLaps laps
    have race := s.passed_race y x
    obtain ⟨-, -, lapMs⟩ := State.lapsAfter_counted counts y.race
    have eligible := State.flagsOf_eligible_iff hs lap ho
    rw [← hclean] at eligible
    rw [ht]
    refine ⟨z, hz, ?_, ?_⟩
    · rw [same.lastLapMs, race]
      exact lapMs.trans (by rw [lap]; rfl)
    · rw [same.refTicks, same.bestLapMs, race]
      cases hc : clean with
      | true =>
        obtain ⟨-, -, -, -, -, -, -, -, short, -⟩ := hclean.mp hc
        obtain ⟨ref, best⟩ := State.lapsAfter_eligible counts (eligible.mpr hc) lap short y.race
        exact ⟨ref, best.trans (by simp)⟩
      | false =>
        have ineligible : (s.flagsOf y x).eligible = false := by
          rw [Bool.eq_false_iff, ne_eq, eligible, hc]; simp
        obtain ⟨best, ref⟩ := State.lapsAfter_ineligible counts ineligible y.race
        exact ⟨ref, best.trans (by simp)⟩
  · have admits : s.Admits y x := State.admits_green hs hr hq (State.later_of_none hl) since (.inl tag)
    have uncounted : ¬ s.countsLap y x := fun counts => counts.2.1 shut
    obtain ⟨⟨z, hz, laps⟩, tallies⟩ := State.processPassage_laps hy admits
    have same := Car.sameLaps laps
    have race := s.passed_race y x
    have unlost : ¬ s.losesLap y x := fun loses => loses.2.1 shut
    rw [ht]
    refine ⟨z, hz, ?_, ?_, ?_, ?_⟩
    · rw [same.counted, race]; exact (State.lapsAfter_uncounted uncounted y.race).1
    · rw [same.lapState, race]
      show (s.lapsAfter y x y.race).lapState = _
      rw [State.lapsAfter_turns uncounted, State.placeOf_none hl shut]
      split_ifs
      · rfl
      · exact shut
    · rw [same.lapStart, race]
      show (s.lapsAfter y x y.race).lapStart = _
      rw [State.lapsAfter_turns uncounted, State.placeOf_none hl shut]
      split_ifs <;> rfl
    · rw [tallies]
      simp [State.lapTallies, State.spanTallies, State.markOf_none hl shut, State.spanOf_none hl shut, if_neg unlost]
  · have start : y.race.spanFrom = some l.point := RacePart.spanFrom_last hl
    have admits : s.Admits y x := State.admits_green hs hr hq (State.later_of_last hl later) since (.inl tag)
    have neither : s.placeOf y x = .neither := State.placeOf_neither start hq ahead
    have uncounted : ¬ s.countsLap y x := fun counts => counts.1 neither
    have unlost : ¬ s.losesLap y x := fun loses => loses.1 neither
    have length : s.lengthTo l.point x.point = x.point - l.point := by
      rw [State.lengthTo_eq, spanLength_of (by omega) hq, if_pos ahead]
    have within := State.within_iff (s := s) (x := x) start
    rw [length] at within
    obtain ⟨⟨z, hz, laps⟩, tallies⟩ := State.processPassage_laps hy admits
    have same := Car.sameLaps laps
    have turned : (s.passed y x).race = { y.race.turnLap (s.spanOf y x) .neither x with
        last := some ⟨x.point, x.lane, x.capture, s.captureMs x.capture⟩ } := by
      rw [s.passed_race, State.lapsAfter_turns uncounted, neither]
    rw [ht, tallies]
    refine ⟨z, hz, ?_, ?_, ?_, ?_, ?_, congrArg (s.course.tallies.relocated + ·) (if_congr within rfl rfl)⟩
    · rw [same.counted, turned]; rfl
    · rw [same.lapState, turned]; rfl
    · rw [same.lapStart, turned]; rfl
    · rw [same.missed, turned, ← length, ← State.missed_length start]; rfl
    · simp [State.lapTallies, if_neg unlost]
end

section
/-! PROOFS. Countdown passages and jump handling (R91, R106, R121, R122): O54. -/

set_option Elab.async false

namespace Sys2Proof.Machine

open Sys2Proof

variable {s t u : State} {y z : Car} {x : Passage}

theorem State.carSet.trans {c : Code} (h : s.carSet t c y) (k : t.carSet u c z) : s.carSet u c z :=
  ⟨k.1, fun d hd => (k.2 d hd).trans (h.2 d hd)⟩

theorem State.modRace_carSet {c : Code} (h : s.car c = some y) (f : RacePart → RacePart) :
    s.carSet (s.modRace c f) c { y with race := f y.race } :=
  State.modCar_carSet (f := fun a => { a with race := f a.race }) (fun _ => rfl) h

/-- A command changes nothing but the roster's slots. -/
abbrev State.onlySlots (s t : State) : Prop := t = { s with roster.slots := t.roster.slots }

theorem State.onlySlots.trans (h : s.onlySlots t) (k : t.onlySlots u) : s.onlySlots u := by
  rw [State.onlySlots, k, h]

theorem State.modRace_onlySlots (s : State) (c : Code) (f : RacePart → RacePart) : s.onlySlots (s.modRace c f) :=
  s.modCar_slots c _

/-- A change of a car's race part that leaves it as little done as it was. -/
theorem State.modRace_doneView (s : State) (c : Code) {f : RacePart → RacePart} (h : ∀ r, (f r).state = r.state) :
    s.Alike Car.doneView (s.modRace c f) :=
  State.Alike.modCar (g := fun a => { a with race := f a.race }) (fun a => by simp only [Car.doneView, h]) s c

/-! ## The phase gate of a countdown passage (R91) -/

/-- The car of a countdown passage once it has been seen (R91). -/
def State.seenCar (s : State) (y : Car) (x : Passage) : Car := { y with
  lastSeen := x.capture.time
  race := { y.race with crossedEarly :=
    y.race.crossedEarly || decide (x.point = 0 ∧ s.course.settings.gridPosition = .behindLine) } }

/-- The state then. -/
def State.seenEarly (s : State) (x : Passage) : State :=
  let a := s.setLastSeen x.code x.capture.time
  if decide (x.point = 0) && decide (s.course.settings.gridPosition = .behindLine)
    then a.modRace x.code (fun r => { r with crossedEarly := true }) else a

theorem State.countdownPassage_eq (s : State) (x : Passage) : s.countdownPassage x = (s.seenEarly x).handleJump x := rfl

theorem State.seenEarly_frame (s : State) (x : Passage) : s.onlySlots (s.seenEarly x) := by
  unfold State.seenEarly
  dsimp only
  split
  · exact State.onlySlots.trans (s.setLastSeen_frame _ _) (State.modRace_onlySlots _ _ _)
  · exact s.setLastSeen_frame _ _

theorem State.seenEarly_carSet (hy : s.car x.code = some y) : s.carSet (s.seenEarly x) x.code (s.seenCar y x) := by
  have seen := State.setLastSeen_carSet hy x.capture.time
  unfold State.seenEarly State.seenCar
  by_cases early : x.point = 0 ∧ s.course.settings.gridPosition = .behindLine
  · have both : (decide (x.point = 0) && decide (s.course.settings.gridPosition = .behindLine)) = true := by
      simpa using early
    simp only [both, if_true, decide_eq_true early, Bool.or_true]
    exact seen.trans (State.modRace_carSet seen.1 _)
  · have neither : (decide (x.point = 0) && decide (s.course.settings.gridPosition = .behindLine)) = false := by
      simpa using early
    simp only [neither, Bool.false_eq_true, if_false, decide_eq_false early, Bool.or_false]
    exact seen

theorem State.seenEarly_alike (s : State) (x : Passage) : s.Alike Car.doneView (s.seenEarly x) := by
  have seen : s.Alike Car.doneView (s.setLastSeen x.code x.capture.time) :=
    State.Alike.modCar (g := fun c => { c with lastSeen := x.capture.time }) (fun _ => rfl) s x.code
  unfold State.seenEarly
  dsimp only
  split
  · exact seen.trans (State.modRace_doneView _ _ (fun _ => rfl))
  · exact seen

/-- A countdown passage that is a jump, or is not (R121). -/
theorem State.isJump_iff (s : State) (r : RacePart) (c : Capture) : s.isJump r c = true ↔ s.jumps r c := by
  unfold State.isJump State.jumps
  cases s.race.watchStart with
  | none => simp
  | some w => simp [and_comm, and_left_comm]

theorem State.jumps_congr {r q : RacePart} (h : t.race.watchStart = s.race.watchStart)
    (hr : r.jumpCalled = q.jumpCalled) (c : Capture) : t.jumps r c ↔ s.jumps q c := by
  simp only [State.jumps, h, hr]

/-! ## Jump handling (R121, R122) -/

/-- The state once a jump has been called. -/
abbrev State.jumpCalled (s : State) (x : Passage) : State :=
  s.modRace x.code (fun r => { r with jumpCalled := true })

theorem State.handleJump_none (hz : s.car x.code = some z) (h : ¬ s.jumps z.race x.capture) : s.handleJump x = s := by
  have jump : s.isJump z.race x.capture = false := Bool.eq_false_iff.mpr (fun e => h ((s.isJump_iff _ _).mp e))
  simp [State.handleJump, hz, jump]

theorem State.handleJump_calls (hz : s.car x.code = some z) (h : s.jumps z.race x.capture)
    (call : ¬ (s.race.state = .countdown ∧ s.course.settings.jump = .restart)) :
    s.handleJump x = (s.jumpCalled x).raiseCall 0 x.code x.point x.lane := by
  have jump : s.isJump z.race x.capture = true := (s.isJump_iff _ _).mpr h
  simp only [State.handleJump, hz, jump, if_true, if_neg call]
  rfl

theorem State.handleJump_aborts (hz : s.car x.code = some z) (h : s.jumps z.race x.capture)
    (abort : s.race.state = .countdown ∧ s.course.settings.jump = .restart) :
    s.handleJump x = ((s.jumpCalled x).append (.jumpAbort x.code z.number x.point x.lane)).abortToGrid .jump := by
  have jump : s.isJump z.race x.capture = true := (s.isJump_iff _ _).mpr h
  simp only [State.handleJump, hz, jump, if_true, if_pos abort]

/-- In COUNTDOWN a notice falls at race ms 0. -/
theorem State.raceMs_countdown (h : s.race.state = .countdown) : s.raceMs = 0 := by
  simp [State.raceMs, State.raceClock, h]

/-- A countdown is aborted to GRID, with the ports the part has. -/
theorem State.abortToGrid_abortedWith (h : s.race.state = .countdown) (r : StateReason) :
    s.abortedWith (s.abortToGrid r) r := by
  have aborted := State.abortToGrid_aborted h r s.portA s.portB (s.abortToGrid r).portA (s.abortToGrid r).portB
  rwa [State.withPorts_self, State.withPorts_self] at aborted

/-! ## A countdown passage after the green moment (R91, R106) -/

theorem State.late_of (later : ∀ l, y.race.last = some l → s.sinceGreen l.capture.time < s.sinceGreen x.capture.time) :
    ¬ (match y.race.last with
      | some l => !s.laterThan x.capture.time l.capture.time
      | none => false) = true :=
  Bool.eq_false_iff.mp (State.late_false later)

/-- In COUNTDOWN the phase gate takes a countdown passage. -/
theorem State.processPassage_countdown (hy : s.car x.code = some y) (unfinished : y.race.state ≠ .finished)
    (unretired : y.race.state ≠ .retired) (point : x.point < s.course.points.length)
    (later : ∀ l, y.race.last = some l → s.sinceGreen l.capture.time < s.sinceGreen x.capture.time)
    (hs : s.race.state = .countdown) : s.processPassage x = ((s.seenEarly x).handleJump x).doneTest := by
  have gate : s.phaseGate y x = s.countdownPassage x :=
    (if_neg unfinished).trans ((if_neg unretired).trans ((if_neg (Nat.not_le.mpr point)).trans
      ((if_neg (State.late_of later)).trans (if_pos hs))))
  rw [State.processPassage_of hy, gate, State.countdownPassage_eq]

/-- In a race the phase gate takes a passage captured in COUNTDOWN so. -/
theorem State.processPassage_lateCountdown (hy : s.car x.code = some y) (unfinished : y.race.state ≠ .finished)
    (unretired : y.race.state ≠ .retired) (point : x.point < s.course.points.length)
    (later : ∀ l, y.race.last = some l → s.sinceGreen l.capture.time < s.sinceGreen x.capture.time)
    (hs : s.race.state.racing = true) (tag : x.capture.tag.race = .countdown) :
    s.processPassage x = (s.lateCountdownPassage x).doneTest := by
  have begun : s.race.state ≠ .countdown := fun e => by rw [e] at hs; cases hs
  have gate : s.phaseGate y x = s.lateCountdownPassage x :=
    (if_neg unfinished).trans ((if_neg unretired).trans ((if_neg (Nat.not_le.mpr point)).trans
      ((if_neg (State.late_of later)).trans ((if_neg begun).trans (if_pos ⟨tag, hs⟩)))))
  rw [State.processPassage_of hy, gate]

/-- The lap the line opens for a car with no lap and no last passage (R106). -/
def RacePart.lineOpened (r : RacePart) (o : LapStart) : RacePart :=
  if r.lapState = .closed ∧ r.last = none then { r with lapState := .openTimed, lapStart := some o } else r

theorem State.lateCountdownPassage_eq (s : State) (x : Passage) : s.lateCountdownPassage x =
    if x.point = 0 ∧ s.course.settings.gridPosition = .behindLine then
      ((s.seenEarly x).handleJump x).modRace x.code (fun r => r.lineOpened ((s.seenEarly x).handleJump x).lineLap)
    else (s.seenEarly x).handleJump x := rfl

/-- Jump handling in a race: nothing, or a call. -/
theorem State.handleJump_race (hz : s.car x.code = some z) (hs : s.race.state ≠ .countdown) :
    ∃ u, s.onlySlots u ∧
      (¬ s.jumps z.race x.capture → u = s ∧ s.handleJump x = u) ∧
      (s.jumps z.race x.capture → u = s.jumpCalled x ∧ s.handleJump x = u.raiseCall 0 x.code x.point x.lane) ∧
      s.Alike Car.doneView (s.handleJump x) ∧ (s.handleJump x).race = s.race ∧ (s.handleJump x).time = s.time ∧
      ∃ w, (s.handleJump x).car x.code = some w ∧ w.race.lapState = z.race.lapState ∧ w.race.last = z.race.last := by
  by_cases jump : s.jumps z.race x.capture
  · have calls := State.handleJump_calls hz jump (fun h => hs h.1)
    have charges := (s.jumpCalled x).raiseCall_charges 0 x.code x.point x.lane
    have called := (State.modRace_carSet hz (fun r => { r with jumpCalled := true })).1
    obtain ⟨w, hw, same⟩ := charges.car_some called
    refine ⟨s.jumpCalled x, s.modRace_onlySlots _ _, fun h => absurd jump h, fun _ => ⟨rfl, calls⟩, ?_⟩
    rw [calls]
    have view : (s.jumpCalled x).Alike Car.doneView ((s.jumpCalled x).raiseCall 0 x.code x.point x.lane) :=
      State.Alike.coarser (g := Car.uncharged) charges.cars (fun _ => rfl)
    have before : s.Alike Car.doneView (s.jumpCalled x) := s.modRace_doneView x.code (fun _ => rfl)
    exact ⟨before.trans view, charges.race.trans (s.modRace_race _ _), charges.time.trans (s.modRace_time _ _), w, hw,
      (congrArg (fun c : Car => c.race.lapState) same :), (congrArg (fun c : Car => c.race.last) same :)⟩
  · have stays := State.handleJump_none hz jump
    refine ⟨s, rfl, fun _ => ⟨rfl, stays⟩, fun h => absurd h jump, ?_⟩
    rw [stays]
    exact ⟨rfl, rfl, rfl, z, hz, rfl, rfl⟩

/-- A lap opened by the line, for a car that has one to open. -/
theorem State.lineOpened_spec {w : Car} (hw : s.car x.code = some w) (o : LapStart) :
    (w.race.lapState = .closed ∧ w.race.last = none →
      s.onlySlots (s.modRace x.code (fun r => r.lineOpened o)) ∧
      s.carSet (s.modRace x.code (fun r => r.lineOpened o)) x.code { w with race := { w.race with
        lapState := .openTimed, lapStart := some o } }) ∧
    (¬ (w.race.lapState = .closed ∧ w.race.last = none) → s.modRace x.code (fun r => r.lineOpened o) = s) := by
  refine ⟨fun shut => ⟨s.modRace_onlySlots _ _, ?_⟩, fun open' => ?_⟩
  · have set := State.modRace_carSet hw (fun r => r.lineOpened o)
    have opened : w.race.lineOpened o = { w.race with lapState := .openTimed, lapStart := some o } := if_pos shut
    rwa [opened] at set
  · refine State.modCar_of_fixed (fun a ha => ?_)
    rw [hw] at ha
    cases ha
    exact congrArg (fun r => ({ w with race := r } : Car)) (if_neg open')

end Sys2Proof.Machine

open Sys2Proof Sys2Proof.Machine

/-- Settles O54. -/
theorem jumpHandling : Obligations.JumpHandling := by
  refine ⟨fun s t y z x ht hy hs unfinished unretired point later hz => ?_,
    fun s t y z x ht hy hs tag unfinished unretired point later hz => ?_⟩
  · rw [State.processPassage_countdown hy unfinished unretired point later hs] at ht
    obtain ⟨set, frame⟩ : s.carSet (s.seenEarly x) x.code z ∧ s.onlySlots (s.seenEarly x) :=
      ⟨hz ▸ State.seenEarly_carSet hy, s.seenEarly_frame x⟩
    obtain ⟨a, ha⟩ : ∃ a, a = s.seenEarly x := ⟨_, rfl⟩
    rw [← ha] at ht set frame
    have race : a.race = s.race := by rw [frame]
    have course : a.course = s.course := by rw [frame]
    have jump : a.jumps z.race x.capture ↔ s.jumps y.race x.capture :=
      State.jumps_congr (by rw [race]) (by rw [hz]) _
    have called : s.carSet (a.jumpCalled x) x.code { z with race := { z.race with jumpCalled := true } } :=
      set.trans (State.modRace_carSet set.1 _)
    have slots : s.onlySlots (a.jumpCalled x) := frame.trans (a.modRace_onlySlots _ _)
    refine ⟨fun still => ?_, fun jumps restart => ?_, fun jumps call => ?_⟩
    · rw [State.handleJump_none set.1 (fun h => still (jump.mp h)),
        State.doneTest_undone (.inl (by rw [race, hs]; simp))] at ht
      rw [ht]
      exact ⟨set, frame⟩
    · rw [State.handleJump_aborts set.1 (jump.mpr jumps) ⟨by rw [race, hs], by rw [course, restart]⟩] at ht
      obtain ⟨v, hv⟩ : ∃ v, v = a.jumpCalled x := ⟨_, rfl⟩
      rw [← hv] at ht called slots
      have counting : v.race.state = .countdown := by rw [slots]; exact hs
      have journal : (v.append (.jumpAbort x.code z.number x.point x.lane)).journal
          = s.journal.added 0 (.jumpAbort x.code y.number x.point x.lane) := by
        rw [State.append_frame, State.raceMs_countdown counting, slots, hz]
      have noticed : v.append (.jumpAbort x.code z.number x.point x.lane) = { s with
          roster.slots := (v.append (.jumpAbort x.code z.number x.point x.lane)).roster.slots
          journal := (v.append (.jumpAbort x.code z.number x.point x.lane)).journal
          portA := (v.append (.jumpAbort x.code z.number x.point x.lane)).portA
          portB := (v.append (.jumpAbort x.code z.number x.point x.lane)).portB } := by
        rw [State.append_frame, slots]
      obtain ⟨u, hu⟩ : ∃ u, u = v.append (.jumpAbort x.code z.number x.point x.lane) := ⟨_, rfl⟩
      have cars : u.roster = v.roster := by rw [hu, State.append_roster]
      rw [← hu] at ht journal noticed
      have aborted := State.abortToGrid_abortedWith (s := u) (by rw [hu, State.append_race]; exact counting) .jump
      rw [State.doneTest_undone (.inl (by rw [aborted.1]; simp))] at ht
      exact ⟨u, State.carSet_congr cars called, journal, noticed, ht ▸ aborted⟩
    · rw [State.handleJump_calls set.1 (jump.mpr jumps) (by rw [course, call]; simp)] at ht
      have charges := (a.jumpCalled x).raiseCall_charges 0 x.code x.point x.lane
      rw [State.doneTest_undone (.inl (by rw [charges.race, State.modRace_race, race, hs]; simp))] at ht
      exact ⟨_, called, slots, ht⟩
  · have racing : s.race.state.racing = true := by
      rcases hs with hs | hs | hs | ⟨hs, -⟩ <;> rw [hs] <;> rfl
    have begun : s.race.state ≠ .countdown := fun e => by rw [e] at racing; cases racing
    rw [State.processPassage_lateCountdown hy unfinished unretired point later racing tag,
      State.lateCountdownPassage_eq] at ht
    obtain ⟨set, frame⟩ : s.carSet (s.seenEarly x) x.code z ∧ s.onlySlots (s.seenEarly x) :=
      ⟨hz ▸ State.seenEarly_carSet hy, s.seenEarly_frame x⟩
    have alike := s.seenEarly_alike x
    obtain ⟨a, ha⟩ : ∃ a, a = s.seenEarly x := ⟨_, rfl⟩
    rw [← ha] at ht set frame alike
    have race : a.race = s.race := by rw [frame]
    have time : a.time = s.time := by rw [frame]
    have jump : a.jumps z.race x.capture ↔ s.jumps y.race x.capture :=
      State.jumps_congr (by rw [race]) (by rw [hz]) _
    obtain ⟨u, slots, still, jumps, handled, vrace, vtime, w, hw, lapState, last⟩ :=
      State.handleJump_race set.1 (by rw [race]; exact begun)
    obtain ⟨v, hv⟩ : ∃ v, v = a.handleJump x := ⟨_, rfl⟩
    rw [← hv] at ht still jumps handled vrace vtime hw
    have lap : v.lineLap = ⟨s.time.green, 0, ⟨.green, false, s.time.cautionEpoch, s.time.suspensionEpoch⟩⟩ := by
      rw [State.lineLap, vtime, time]
    obtain ⟨opens, stays⟩ := State.lineOpened_spec hw v.lineLap
    have undone {b : State} (hb : s.Alike Car.doneView b) (hr : b.race = s.race) : b.doneTest = b := by
      refine State.doneTest_undone ?_
      rcases hs with hs | hs | hs | ⟨-, going⟩
      · exact .inl (by rw [hr, hs]; simp)
      · exact .inl (by rw [hr, hs]; simp)
      · exact .inl (by rw [hr, hs]; simp)
      · exact .inr (hb.raceDone.trans (State.raceDone_of_running going))
    have vdone : v.doneTest = v := undone (alike.trans handled) (vrace.trans race)
    refine ⟨u, v, frame.trans slots, fun h => ?_, fun h => ?_, ?_⟩
    · obtain ⟨rfl, hvu⟩ := still (fun k => h (jump.mp k))
      exact ⟨set, hvu⟩
    · obtain ⟨rfl, hvu⟩ := jumps (jump.mpr h)
      exact ⟨set.trans (State.modRace_carSet set.1 _), hvu⟩
    · have shut : (w.race.lapState = .closed ∧ w.race.last = none) ↔ y.race.lapState = .closed ∧ y.race.last = none := by
        rw [lapState, last, hz]
      by_cases line : x.point = 0 ∧ s.course.settings.gridPosition = .behindLine
      · rw [if_pos line] at ht
        by_cases h : y.race.lapState = .closed ∧ y.race.last = none
        · obtain ⟨slots', opened⟩ := opens (shut.mpr h)
          rw [undone ((alike.trans handled).trans (State.modRace_doneView _ _ (fun r => by
            unfold RacePart.lineOpened; split <;> rfl))) (by rw [State.modRace_race, vrace, race])] at ht
          rw [← ht, lap] at opened
          rw [← ht] at slots'
          rw [if_pos ⟨line.1, line.2, h.1, h.2⟩]
          refine ⟨slots', fun w' hw' => ?_⟩
          rw [hw] at hw'
          cases hw'
          exact opened
        · rw [stays (fun k => h (shut.mp k)), vdone] at ht
          rw [if_neg (fun k => h ⟨k.2.2.1, k.2.2.2⟩)]
          exact ht
      · rw [if_neg line, vdone] at ht
        rw [if_neg (fun k => line ⟨k.1, k.2.1⟩)]
        exact ht
end

section
/-! PROOFS. A passage later in the lap: rejoin, mark and calls (R92 to R97, R104): O53. -/

set_option Elab.async false

namespace Sys2Proof.Machine

open Sys2Proof

variable {s t u : State} {y z : Car} {x : Passage} {l : LastPassage}

/-! ## A call raised leaves no record serving (R142, R143) -/

theorem State.confirmRecord_not_serving (s : State) (d : Decider) (r : Penalty) :
    (s.confirmRecord d r).2.1.state ≠ .serving := by
  unfold State.confirmRecord
  dsimp only
  repeat' split
  all_goals simp [Penalty.converted]

theorem State.reviewStep_not_serving {r : Penalty} (h : r.state ≠ .serving) (w : Nat) :
    (s.reviewStep w r).2.1.state ≠ .serving := by
  unfold State.reviewStep
  repeat' split
  · exact s.confirmRecord_not_serving _ r
  · exact h
  · simp [Penalty.waivedBy]
  · exact h
  · exact s.confirmRecord_not_serving _ r

theorem State.makeRoom_sublist {a : State} (h : s.makeRoom = some a) : a.pen.list.Sublist s.pen.list := by
  unfold State.makeRoom at h
  split at h
  · cases h; exact .refl _
  · split at h <;> cases h
    exact List.eraseP_sublist

theorem State.reviewStep_pen (s : State) (w : Nat) (r : Penalty) : (s.reviewStep w r).1.pen = s.pen := by
  rcases s.reviewStep_state w r with e | ⟨d, e⟩
  · rw [e]
  · rw [e, State.confirmRecord_state]; simp

theorem State.raiseCall_serving (k : Fin 6) (c : Code) (q : Nat) (lane : Option Lane) {r : Penalty}
    (hr : r ∈ (s.raiseCall k c q lane).pen.list) (serving : r.state = .serving) : r ∈ s.pen.list := by
  cases ha : s.makeRoom with
  | none =>
    rw [State.raiseCall_full ha] at hr
    exact hr
  | some a =>
    rw [State.raiseCall_of_room ha k c q lane rfl, State.joinRecord_pen, State.reviewStep_pen] at hr
    rcases List.mem_append.mp hr with old | new
    · exact (State.makeRoom_sublist ha).subset old
    · have fresh : (a.callRecord k c q lane).state ≠ .serving := by simp [State.callRecord, State.newRecord]
      rw [List.mem_singleton.mp new] at serving
      exact absurd serving (State.reviewStep_not_serving fresh _)

theorem State.raiseAll_serving (calls : List (Fin 6)) (x : Passage) (s : State) {r : Penalty}
    (hr : r ∈ (s.raiseAll calls x).pen.list) (serving : r.state = .serving) : r ∈ s.pen.list := by
  induction calls generalizing s with
  | nil => exact hr
  | cons k calls ih => exact State.raiseCall_serving k _ _ _ (ih (s.raiseCall k x.code x.point x.lane) hr) serving

theorem State.servingRecord_none_iff (c : Code) :
    s.servingRecord c = none ↔ ∀ r ∈ s.pen.list, r.state = .serving → r.code ≠ c := by
  simp only [State.servingRecord, List.find?_eq_none, Bool.and_eq_true, beq_iff_eq, not_and]
  exact forall₂_congr (fun r _ => ⟨fun h hs hc => h hc hs, fun h hc hs => h hs hc⟩)

theorem State.raiseAll_servingRecord {c : Code} (h : s.servingRecord c = none) (calls : List (Fin 6)) (x : Passage) :
    (s.raiseAll calls x).servingRecord c = none := by
  rw [State.servingRecord_none_iff] at h ⊢
  exact fun r hr hs => h r (State.raiseAll_serving calls x s hr hs) hs

/-! ## What the checks find (R92, R94 to R96) -/

theorem State.callsOn_of (hs : s.race.state = .green ∨ s.race.state = .caution ∨ s.race.state = .chequered)
    (tag : x.capture.tag.race = .green ∨ x.capture.tag.race = .caution ∨ x.capture.tag.race = .chequered) :
    s.callsOn x.capture = true := by
  rcases hs with hs | hs | hs <;> rcases tag with tag | tag | tag <;>
    simp [State.callsOn, State.isNeutral, hs, tag]

theorem trackChange_iff (a b : Option Lane) : trackChange a b = true ↔
    ∃ i j : Lane, a = some i ∧ b = some j ∧ i ≠ j ∧ i.val < 6 ∧ j.val < 6 := by
  cases a <;> cases b <;> simp [trackChange, isTrack_eq, and_assoc]

theorem PhaseTag.underCaution_iff (k : PhaseTag) :
    k.underCaution = true ↔ k.race = .caution ∨ k.race = .chequered ∧ k.held = true := by
  unfold PhaseTag.underCaution
  cases k.race <;> simp

theorem State.rejoinCall_iff (on : s.callsOn x.capture = true) (hl : y.race.last = some l) :
    s.rejoinCall y.race x = true ↔ (∃ a b : Lane, l.lane = some a ∧ x.lane = some b ∧ a ≠ b) ∧
      (s.course.sectors.getD l.point Sector.initial).laneRule = .closed := by
  simp only [State.rejoinCall, on, hl, Bool.true_and, Bool.and_eq_true, decide_eq_true_iff]
  refine and_congr_left' ?_
  cases l.lane <;> cases x.lane <;> simp

/-- The mark of a passage within the tolerance of a last passage. -/
theorem State.markOf_iff (hl : y.race.last = some l) (hw : (s.spanOf y x).within = true) : s.markOf y x = true ↔
    ¬ changePlausible (s.spanned l.point (s.lengthTo l.point x.point)) l.lane x.lane := by
  have start := RacePart.spanFrom_last hl
  have lane : y.race.lastLane = l.lane := by simp [RacePart.lastLane, hl]
  rw [← plausibleOver_iff, Bool.not_eq_true]
  unfold State.markOf Span.implausible
  rw [hw, State.spanOf_from start, lane, hl]
  simp

/-- The calls a passage within the tolerance finds, in order. -/
theorem State.callsOf_eq {off differ change : Bool} {sp : List Sector} {ticks : Nat} (hl : y.race.last = some l)
    (hw : (s.spanOf y x).within = true) (on : s.callsOn x.capture = true)
    (hoff : y.race.state = .running ∧ off = false ∨ y.race.state = .offTrack ∧ off = true)
    (hsp : (s.spanOf y x).sectors = sp) (hticks : spanTicks l x.capture = ticks)
    (hdiffer : differ = true ↔ ∃ a b : Lane, l.lane = some a ∧ x.lane = some b ∧ a ≠ b)
    (hchange : change = true ↔ ∃ a b : Lane, l.lane = some a ∧ x.lane = some b ∧ a ≠ b ∧ a.val < 6 ∧ b.val < 6) :
    s.callsOf y x =
      (if off = true ∧ differ = true ∧ (s.course.sectors.getD l.point Sector.initial).laneRule = .closed
        then [5] else [])
      ++ (if off = false ∧ change = true ∧ ∀ a ∈ sp, a.laneRule = .closed then [2] else [])
      ++ (if change = true ∧ (l.capture.tag.race = .caution
        ∨ l.capture.tag.race = .chequered ∧ l.capture.tag.held = true) then [3] else [])
      ++ (if off = false ∧ ticks < 100 * (sp.map Sector.minimum).sum then [1] else [])
      ++ (if off = false ∧ l.lane = some 6 ∧ x.lane = some 6 ∧ (∀ a ∈ sp, a.pitRule = .within)
        ∧ ticks < 100 * (sp.map Sector.pitMinimum).sum then [4] else []) := by
  have rejoined : decide (y.race.state = .offTrack) = off := by
    rcases hoff with ⟨h, rfl⟩ | ⟨h, rfl⟩ <;> simp [h]
  have track : trackChange l.lane x.lane = change := Bool.eq_iff_iff.mpr ((trackChange_iff _ _).trans hchange.symm)
  have rejoin : s.rejoinCall y.race x = true ↔ differ = true ∧
      (s.course.sectors.getD l.point Sector.initial).laneRule = .closed := by
    rw [State.rejoinCall_iff on hl, hdiffer]
  unfold State.callsOf State.checks
  rw [hl]
  simp only [hw, on, Bool.and_self, if_true, rejoined, track, hsp, hticks, List.append_assoc]
  refine congrArg₂ (· ++ ·) (if_congr ?_ rfl rfl) (congrArg₂ (· ++ ·) (if_congr ?_ rfl rfl)
    (congrArg₂ (· ++ ·) (if_congr ?_ rfl rfl) (congrArg₂ (· ++ ·) (if_congr ?_ rfl rfl) (if_congr ?_ rfl rfl))))
  · rw [Bool.and_eq_true_iff, rejoin]
  · simp [and_assoc]
  · rw [Bool.and_eq_true_iff, PhaseTag.underCaution_iff]
  · simp
  · simp only [Bool.and_eq_true_iff, decide_eq_true_iff, List.all_eq_true, Bool.not_eq_true', and_assoc]
    exact Iff.rfl

/-! ## Rejoin (R92) -/

/-- A car back on the track keeps its record but for its state, is noticed, and its row is recomputed. -/
theorem State.rejoin_spec (hy : s.car x.code = some y) {off : Bool}
    (hoff : y.race.state = .running ∧ off = false ∨ y.race.state = .offTrack ∧ off = true) (mark : Bool) :
    s.carSet (s.rejoin y x mark) x.code { y with race := { y.race with state := .running } } ∧
    (s.rejoin y x mark).journal = (if off then s.journal.added s.raceMs (.rejoin x.code y.number x.point x.lane
        x.origin (if mark then 64 else 0) x.capture.merged (s.captureMs x.capture)) else s.journal) ∧
    (off = false → (s.rejoin y x mark).power = s.power) ∧
    s.rejoin y x mark = { s with
      roster.slots := (s.rejoin y x mark).roster.slots, power := (s.rejoin y x mark).power
      journal := (s.rejoin y x mark).journal, portA := (s.rejoin y x mark).portA
      portB := (s.rejoin y x mark).portB } ∧
    s.Alike Car.doneView (s.rejoin y x mark) := by
  rcases hoff with ⟨hr, rfl⟩ | ⟨hr, rfl⟩
  · rw [State.rejoin_of_running hr]
    have same : ({ y with race := { y.race with state := .running } } : Car) = y := by rw [← hr]
    rw [same]
    exact ⟨⟨hy, fun _ _ => rfl⟩, rfl, fun _ => rfl, rfl, rfl⟩
  · obtain ⟨a, ha⟩ : ∃ a, a = s.modRace x.code (fun r => { r with state := .running }) := ⟨_, rfl⟩
    have eq : s.rejoin y x mark = (a.append (.rejoin x.code y.number x.point x.lane x.origin
        (BitVec.ofNat 8 (bitIf mark 64)) x.capture.merged (s.captureMs x.capture))).recomputeCar x.code := by
      simp only [State.rejoin, hr, ha]
    have set : s.carSet a x.code { y with race := { y.race with state := .running } } :=
      ha ▸ State.modRace_carSet hy _
    have slots : s.onlySlots a := ha ▸ s.modRace_onlySlots _ _
    have view : s.Alike Car.doneView a := by
      have same : a = s.modCar x.code (fun c => if c.race.state = .offTrack
          then { c with race := { c.race with state := .running } } else c) :=
        ha ▸ State.modCar_congr (fun c hc => by
          rw [hy] at hc
          cases hc
          exact (if_pos hr).symm)
      rw [same]
      refine State.Alike.modCar (fun c => ?_) s x.code
      split
      next off => simp [Car.doneView, off]
      next => rfl
    have clock : a.raceMs = s.raceMs := by rw [slots]; rfl
    have flags : BitVec.ofNat 8 (bitIf mark 64) = if mark then 64 else 0 := by cases mark <;> rfl
    rw [flags] at eq
    have roster : (s.rejoin y x mark).roster = a.roster := by rw [eq]; simp
    refine ⟨State.carSet_congr roster set, ?_, fun h => absurd h (by simp), ?_, view.trans (.of_roster roster)⟩
    · rw [eq, State.recomputeCar_journal, State.append_frame, clock, slots]
      rfl
    · have charges : a.Charges (s.rejoin y x mark) := by
        rw [eq]
        exact .after (State.recomputeCar_charges _ _) (a.append_charges _)
      have pen : (s.rejoin y x mark).pen = a.pen := by rw [eq]; simp
      have stand : (s.rejoin y x mark).stand = a.stand := by rw [eq]; simp
      exact State.ext_blocks (time := charges.time.trans (congrArg State.time slots :))
        (bus := charges.bus.trans (congrArg State.bus slots :))
        (former := charges.former.trans (congrArg State.former slots :))
        (roster := by rw [roster]; exact (congrArg State.roster slots :))
        (course := charges.course.trans (congrArg State.course slots :))
        (race := charges.race.trans (congrArg State.race slots :)) (pen := pen.trans (congrArg State.pen slots :))
        (stand := stand.trans (congrArg State.stand slots :))
        (pending := charges.pending.trans (congrArg State.pending slots :))

/-! ## The stages after the calls (R97, R104) -/

theorem State.update_rest (s : State) (x : Passage) : (s.update x).pen = s.pen ∧ (s.update x).journal = s.journal ∧
    (s.update x).race = s.race ∧ (s.update x).time = s.time ∧ (s.update x).course = s.course := by
  unfold State.update
  dsimp only
  repeat' split
  all_goals simp

theorem State.rejoin_course (s : State) (y : Car) (x : Passage) (mark : Bool) :
    (s.rejoin y x mark).course = s.course := by
  unfold State.rejoin
  split <;> simp

theorem State.checked_course (s : State) (y : Car) (x : Passage) :
    (s.checked y x).course = { s.course with tallies := s.spanTallies y x } := by
  have course := s.rejoin_course y x (s.markOf y x)
  unfold State.checked
  rw [(State.raiseAll_charges _ _ _).course, State.spanTallied_eq (by rw [course]), course]

theorem State.update_doneView (s : State) (x : Passage) : s.Alike Car.doneView (s.update x) := by
  have row (a : State) : a.Alike Car.doneView (a.recomputeCar x.code) := .of_roster (by simp)
  unfold State.update
  split
  next y hy =>
    have set := State.Alike.modCar (f := Car.doneView) (g := fun z => { z with
      lastSeen := x.capture.time
      race := { z.race with
        last := some ⟨x.point, x.lane, x.capture, s.captureMs x.capture⟩
        silence := if s.updatesSilence y.race x.code then some (s.raceClock + s.silenceTicks)
          else y.race.silence } }) (fun _ => rfl) s x.code
    dsimp only
    split
    · exact set
    · exact set.trans (row _)
  next => rfl

theorem State.stageServing_none (h : ∀ q, s.course.points[x.point]? = some q → q.serving = false) :
    s.stageServing x = s := by
  unfold State.stageServing
  split
  next q hq => simp [h q hq]
  next => rfl

/-- A passage at a later point of the same lap that is no serving point: its calls, its missed points, its update. -/
theorem State.passStages_neither (neither : s.placeOf y x = .neither)
    (h : ∀ q, s.course.points[x.point]? = some q → q.serving = false) : s.passStages y x =
      ((s.checked y x).modRace x.code (fun r => r.turnLap (s.spanOf y x) .neither x)).update x := by
  obtain ⟨-, -, -, -, race⟩ := s.checked_spec y x
  have neutral : (s.checked y x).isNeutral x.capture = s.isNeutral x.capture := by simp only [State.isNeutral, race]
  obtain ⟨-, -, -, stays⟩ := s.stageLaps_cases (s.checked y x) y x neutral _ rfl
  rw [s.passStages_eq, stays neither, neither, State.stageServing_none]
  rw [State.modRace_course, State.checked_course]
  exact h

theorem State.raceClock_congr (ht : t.time = s.time) (hr : t.race = s.race) : t.raceClock = s.raceClock := by
  simp only [State.raceClock, State.neutral, ht, hr]

/-- A running car in a race that serves no penalty has its silence timed anew (R104). -/
theorem State.updatesSilence_of {r : RacePart} {c : Code} (hr : r.state = .running)
    (hs : s.race.state.racing = true) (h : s.servingRecord c = none) : s.updatesSilence r c = true := by
  simp [State.updatesSilence, State.servesStopGo, hr, hs, h]

/-- Stages 2 to 4: the car back on the track, the span tallied, and the calls raised in order. -/
theorem State.checked_raised (hy : s.car x.code = some y) {off : Bool}
    (hoff : y.race.state = .running ∧ off = false ∨ y.race.state = .offTrack ∧ off = true) : ∃ u : State,
    s.checked y x = u.raiseAll (s.callsOf y x) x ∧
    s.carSet u x.code { y with race := { y.race with state := .running } } ∧
    u.course = { s.course with tallies := s.spanTallies y x } ∧
    u.journal = (if off then s.journal.added s.raceMs (.rejoin x.code y.number x.point x.lane
        x.origin (if s.markOf y x then 64 else 0) x.capture.merged (s.captureMs x.capture)) else s.journal) ∧
    (off = false → u.power = s.power) ∧
    u = { s with
      roster.slots := u.roster.slots, course := u.course, power := u.power, journal := u.journal
      portA := u.portA, portB := u.portB } ∧
    s.Alike Car.doneView u := by
  obtain ⟨set, journal, power, frame, view⟩ := State.rejoin_spec hy hoff (s.markOf y x)
  obtain ⟨a, ha⟩ : ∃ a, a = s.rejoin y x (s.markOf y x) := ⟨_, rfl⟩
  rw [← ha] at set journal power frame view
  have course : a.course = s.course := by rw [frame]
  refine ⟨{ a with course := { a.course with tallies := s.spanTallies y x } }, ?_, ?_, by rw [course], journal, power,
    ?_, view.trans (.of_roster rfl)⟩
  · rw [State.checked, ← ha, State.spanTallied_eq (by rw [course])]
  · exact State.carSet_congr (u := a) rfl set
  · exact (congrArg (fun k : State => { k with course := { a.course with tallies := s.spanTallies y x } }) frame :)

/-- What a passage at a later point of the same lap leaves of its car's record `r`, the silence deadline aside. -/
structure State.LaterInLap (s : State) (x : Passage) (missed : Nat) (r : RacePart) (z : Car) : Prop where
  lastSeen : z.lastSeen = x.capture.time
  state : z.race.state = r.state
  last : z.race.last = some ⟨x.point, x.lane, x.capture, s.captureMs x.capture⟩
  missed : z.race.missed = min 11 (r.missed + missed)
  lapState : z.race.lapState = r.lapState
  lapStart : z.race.lapStart = r.lapStart
  counted : z.race.counted = r.counted

/-- Stages 5 to 7 of such a passage. -/
theorem State.laterInLap_spec (hw : s.car x.code = some z) (span : Span) :
    ∃ w b, b = (s.modRace x.code (fun r => r.turnLap span .neither x)).update x ∧ b.car x.code = some w ∧
      s.LaterInLap x span.missed.length z.race w ∧ b.pen = s.pen ∧ b.journal = s.journal ∧ b.race = s.race ∧
      b.time = s.time ∧ b.course = s.course ∧ s.Alike Car.doneView b ∧
      (z.race.state = .running → s.race.state.racing = true → s.servingRecord x.code = none →
        w.race.silence = some (s.raceClock + s.silenceTicks)) := by
  obtain ⟨b, hb⟩ : ∃ b, b = s.modRace x.code (fun r => r.turnLap span .neither x) := ⟨_, rfl⟩
  have bcar : b.car x.code = some { z with race := z.race.turnLap span .neither x } := by
    rw [hb, State.modRace_car_self, hw]; rfl
  have brace : b.race = s.race := by rw [hb, State.modRace_race]
  have btime : b.time = s.time := by rw [hb, State.modRace_time]
  have bpen : b.pen = s.pen := by rw [hb, State.modRace_pen]
  have bcourse : b.course = s.course := by rw [hb, State.modRace_course]
  have turned : s.Alike Car.doneView b := hb ▸ State.modRace_doneView _ _ (fun _ => rfl)
  obtain ⟨pen, journal, race, time, course⟩ := b.update_rest x
  obtain ⟨⟨w, hw, same⟩, -⟩ := State.update_spec bcar
  have field {α : Type} (f : Car → α) : f w.uncharged = f (b.lastSet x _).uncharged := congrArg f same
  refine ⟨w, _, by rw [hb], hw, ⟨(field fun c => c.lastSeen :), (field fun c => c.race.state :), ?_,
    (field fun c => c.race.missed :), (field fun c => c.race.lapState :), (field fun c => c.race.lapStart :),
    (field fun c => c.race.counted :)⟩, pen.trans bpen, journal.trans (by rw [hb, State.modRace_journal]),
    race.trans brace, time.trans btime, course.trans bcourse, turned.trans (b.update_doneView x),
    fun running racing free => ?_⟩
  · refine (field fun c => c.race.last :).trans ?_
    rw [State.lastSet, State.captureMs_congr (s := s) (by rw [btime]) (by rw [btime])]
    rfl
  · have updates := State.updatesSilence_of (s := b) (r := z.race.turnLap span .neither x) running
      (by rw [brace]; exact racing) (by rw [State.servingRecord, bpen]; exact free)
    have timed : (b.lastSet x { z with race := z.race.turnLap span .neither x }).race.silence
        = some (b.raceClock + b.silenceTicks) := if_pos updates
    rw [State.raceClock_congr btime brace, State.silenceTicks, bcourse] at timed
    exact (field fun c => c.race.silence :).trans timed

end Sys2Proof.Machine

open Sys2Proof Sys2Proof.Machine

/-- Settles O53. -/
theorem rejoinAndChecks : Obligations.RejoinAndChecks := by
  intro s t y x l sp ticks mark differ change off calls ht hy hs tag hoff hl later since ahead point near noServing hsp
    hticks hmark hdiffer hchange hcalls
  have live : s.race.state = .green ∨ s.race.state = .caution ∨ s.race.state = .chequered :=
    hs.imp id (Or.imp id And.left)
  have racing : s.race.state.racing = true := by rcases live with h | h | h <;> rw [h] <;> rfl
  have going : y.race.state ≠ .finished ∧ y.race.state ≠ .retired := by
    rcases hoff with ⟨h, -⟩ | ⟨h, -⟩ <;> simp [h]
  have admits : s.Admits y x := ⟨going.1, going.2, point, State.later_of_last hl later,
    by rcases live with h | h | h <;> simp [h], since, tag.imp id (Or.imp id Or.inr)⟩
  have start : y.race.spanFrom = some l.point := RacePart.spanFrom_last hl
  have length : s.lengthTo l.point x.point = x.point - l.point := by
    rw [State.lengthTo_eq, spanLength_of (by omega) point, if_pos ahead]
  have missed : (s.spanOf y x).missed.length = x.point - l.point - 1 := by
    rw [State.missed_length start, length]
  have within : (s.spanOf y x).within = true := (State.within_iff start).mpr (length ▸ near)
  have neither : s.placeOf y x = .neither := State.placeOf_neither start point ahead
  have marked : s.markOf y x = mark := by
    rw [Bool.eq_iff_iff, State.markOf_iff hl within, length, ← hsp, hmark]
  have called : s.callsOf y x = calls := by
    rw [hcalls]
    exact State.callsOf_eq hl within (State.callsOn_of live tag) hoff
      (by rw [State.spanOf_from start, length, hsp]) hticks.symm hdiffer hchange
  have tallies : s.spanTallies y x = { s.course.tallies with
      implausible := s.course.tallies.implausible + (if mark then 1 else 0) } := by
    simp [State.spanTallies, within, marked]
  obtain ⟨u, checked, set, course, journal, power, frame, view⟩ := State.checked_raised hy hoff
  rw [called] at checked
  rw [marked] at journal
  rw [tallies] at course
  have charges := u.raiseAll_charges calls x
  obtain ⟨v, hv⟩ : ∃ v, v = u.raiseAll calls x := ⟨_, rfl⟩
  rw [← hv] at checked charges
  obtain ⟨w, hw, same⟩ := charges.car_some set.1
  have before {α : Type} (f : Car → α) : f w.uncharged = f (Car.uncharged _) := congrArg f same
  obtain ⟨z, b, hb, hz, lap, pen, jour, race, time, course', view', silence⟩ :=
    State.laterInLap_spec hw (s.spanOf y x)
  have vrace : v.race = s.race := charges.race.trans (by rw [frame])
  have vtime : v.time = s.time := charges.time.trans (by rw [frame])
  have done : s.Alike Car.doneView b :=
    view.trans ((State.Alike.coarser (g := Car.uncharged) charges.cars (fun _ => rfl)).trans view')
  have undone : b.doneTest = b := by
    refine State.doneTest_undone ?_
    rcases hs with h | h | ⟨-, running⟩
    · exact .inl (by rw [race, vrace, h]; simp)
    · exact .inl (by rw [race, vrace, h]; simp)
    · exact .inr (done.raceDone.trans (State.raceDone_of_running running))
  rw [State.processPassage_admits hy admits, State.passStages_neither neither noServing, checked, ← hb, undone] at ht
  subst ht
  refine ⟨u, v, z, set, course, journal, power, frame, hv, pen, jour, race.trans vrace, time.trans vtime,
    course'.trans charges.course, hz, lap.lastSeen, lap.state.trans (before fun c => c.race.state :), ?_, ?_,
    lap.lapState.trans (before fun c => c.race.lapState :), lap.lapStart.trans (before fun c => c.race.lapStart :),
    lap.counted.trans (before fun c => c.race.counted :), fun free => ?_⟩
  · rw [lap.last, State.captureMs_congr (s := s) (by rw [vtime]) (by rw [vtime])]
  · have kept : w.race.missed = y.race.missed := (before fun c => c.race.missed :)
    rw [lap.missed, missed, kept]
  · have noServe : v.servingRecord x.code = none := by
      have none_u : u.servingRecord x.code = none := by rw [frame]; exact free
      rw [hv]
      exact State.raiseAll_servingRecord none_u calls x
    have limit : v.silenceTicks = s.course.settings.silenceLimit * 10000 := by
      rw [State.silenceTicks, charges.course, course]; rfl
    rw [silence (before fun c => c.race.state :) (by rw [vrace]; exact racing) noServe, limit,
      State.raceClock_congr vtime vrace]
end

section
/-! PROOFS. The finish of a car (R101, R102, R129, R155, R180): the first three clauses of O55. -/

set_option Elab.async false

namespace Sys2Proof.Machine

open Sys2Proof

variable {s t u : State} {c : Code} {x y z : Car}

/-! ## The finish position and its notice (R180) -/

/-- A car that has finished at this place. -/
def Car.placed (x : Car) (n : Option Nat) : Car := { x with
  race := { x.race with state := .finished, silence := none, finishPos := n.or x.race.finishPos } }

/-- The car finishes, the place and the notice still to come. -/
abbrev State.stopped (s : State) (c : Code) : State :=
  s.modRace c (fun r => { r with state := .finished, silence := none })

theorem State.position_congr (h : t.stand = s.stand) (c : Code) : t.position c = s.position c := by
  rw [State.position, h, State.position]

/-- A finish position recorded: the place of the car, and its notice. -/
theorem State.recordFinish_spec (hx : s.car c = some x) :
    (s.recordFinish c).car c = some { x with race := { x.race with
      finishPos := (s.position c).or x.race.finishPos } } ∧
    (∀ n, s.position c = some n → (s.recordFinish c).journal = s.journal.added s.raceMs (.finish c x.number n
      x.race.counted x.race.effective x.race.adjustedTime x.race.lastCountedMs)) ∧
    (s.recordFinish c).pen = s.pen ∧ (s.recordFinish c).race = s.race ∧ (s.recordFinish c).time = s.time := by
  cases hn : s.position c with
  | none =>
    have same : s.recordFinish c = s := by simp only [State.recordFinish, hn]
    rw [same]
    exact ⟨hx, by simp, rfl, rfl, rfl⟩
  | some n =>
    obtain ⟨a, ha⟩ : ∃ a, a = s.modRace c (fun r => { r with finishPos := some n }) := ⟨_, rfl⟩
    have set : a.car c = some { x with race := { x.race with finishPos := some n } } := by
      rw [ha, State.modRace_car_self, hx]; rfl
    have clock : a.raceMs = s.raceMs := State.raceMs_congr (by rw [ha]; simp) (by rw [ha]; simp)
    have eq : s.recordFinish c = a.append (.finish c x.number n x.race.counted x.race.effective x.race.adjustedTime
        x.race.lastCountedMs) := by
      simp only [State.recordFinish, hn, ← ha, set]
      rfl
    rw [eq]
    refine ⟨?_, fun m hm => ?_, ?_, ?_, ?_⟩
    · rw [State.car_congr (State.append_roster _ _), set]; rfl
    · cases hm
      rw [State.append_frame, clock, ha, State.modRace_journal]
    · rw [State.append_pen, ha, State.modRace_pen]
    · rw [State.append_race, ha, State.modRace_race]
    · rw [State.append_time, ha, State.modRace_time]

/-- A car that finishes (R102). -/
theorem State.finishCar_spec (hx : s.car c = some x) :
    (s.finishCar c).car c = some (x.placed (s.position c)) ∧
    (∀ n, s.position c = some n → (s.finishCar c).journal = s.journal.added s.raceMs (.finish c x.number n
      x.race.counted x.race.effective x.race.adjustedTime x.race.lastCountedMs)) ∧
    (s.finishCar c).pen = s.pen ∧ (s.finishCar c).race = s.race ∧ (s.finishCar c).time = s.time := by
  obtain ⟨a, ha⟩ : ∃ a, a = s.stopped c := ⟨_, rfl⟩
  have stopped : a.car c = some { x with race := { x.race with state := .finished, silence := none } } := by
    rw [ha, State.modRace_car_self, hx]; rfl
  have place : a.position c = s.position c := State.position_congr (by rw [ha]; simp) c
  have clock : a.raceMs = s.raceMs := State.raceMs_congr (by rw [ha]; simp) (by rw [ha]; simp)
  obtain ⟨car, journal, pen, race, time⟩ := State.recordFinish_spec stopped
  have eq : s.finishCar c = (a.recordFinish c).recomputeCar c := by rw [ha]; rfl
  rw [place] at car journal
  rw [eq]
  refine ⟨?_, fun n hn => ?_, ?_, ?_, ?_⟩
  · rw [State.car_congr (State.recomputeCar_roster _ _), car]; rfl
  · rw [State.recomputeCar_journal, journal n hn, clock, ha, State.modRace_journal]
    rfl
  · rw [State.recomputeCar_pen, pen, ha, State.modRace_pen]
  · rw [State.recomputeCar_race, race, ha, State.modRace_race]
  · rw [State.recomputeCar_time, time, ha, State.modRace_time]

/-! ## The finish with its settlement (R155) -/

/-- A car that has finished, its serve queue settled. -/
def State.finished (s : State) (c : Code) : State := (s.finishCar c).settleCar c .finish

theorem State.finished_spec (hx : s.car c = some x) :
    (s.finished c).car c = some ((x.placed (s.position c)).withTime
      (clearedTime x.race.timePenalty (s.serveQueue c))) ∧
    (s.finished c).race = s.race ∧ (s.finished c).time = s.time ∧ (s.finished c).serveQueue c = [] ∧
    (s.finished c).pen.list = withCleared s.pen.list (s.serveQueue c) ∧
    (∀ n, s.position c = some n → s.serveQueue c = [] → (s.finished c).journal = s.journal.added s.raceMs
      (.finish c x.number n x.race.counted x.race.effective x.race.adjustedTime x.race.lastCountedMs)) := by
  obtain ⟨car, journal, pen, race, time⟩ := State.finishCar_spec hx
  have charges := (s.finishCar c).settleCar_charges c .finish
  have queue : (s.finishCar c).serveQueue c = s.serveQueue c := State.serveQueue_congr (by rw [pen]) c
  have settled := State.settleCar_car car .finish
  have list := (s.finishCar c).settleCar_list c .finish
  rw [queue] at settled list
  refine ⟨settled, charges.race.trans race, charges.time.trans time, State.settleCar_serveQueue _ _ _,
    list.trans (by rw [pen]), fun n hn empty => ?_⟩
  rw [State.finished, State.settleCar_empty (queue.trans empty), journal n hn]

/-- Each record of a settled queue, where identifiers are distinct (R154, R155). -/
theorem State.withCleared_penalty (nodup : (s.pen.list.map Penalty.id).Nodup)
    (list : t.pen.list = withCleared s.pen.list (s.serveQueue c)) (r : Penalty) (hr : r ∈ s.serveQueue c) :
    t.penalty r.id = some r.cleared := by
  have sub : (s.serveQueue c).Sublist s.pen.list := List.filter_sublist
  rw [State.penalty_eq, list]
  exact recordIn_withCleared (nodup.sublist (sub.map _)) (fun q hq => List.mem_map_of_mem (sub.subset hq)) r hr

/-! ## The finish checks (R102) -/

theorem State.isRunning_of (hx : s.car c = some x) : s.isRunning c = decide (x.race.state = .running) := by
  simp only [State.isRunning, hx]

theorem State.lapsLimitHit_iff (hx : s.car c = some x) : s.lapsLimitHit c = true ↔
    (s.race.state = .green ∨ s.race.state = .caution) ∧ s.course.settings.mode = .laps ∧
      s.course.settings.limit ≤ x.race.effective := by
  simp [State.lapsLimitHit, State.effectiveOf, hx, and_assoc]

theorem State.finishChecks_flagged (hx : s.car c = some x) (hr : x.race.state = .running)
    (hs : s.race.state = .chequered) : s.finishChecks c = s.finished c := by
  have running : s.isRunning c = true := by rw [State.isRunning_of hx, hr]; rfl
  have below : ¬ s.lapsLimitHit c = true := by rw [State.lapsLimitHit_iff hx, hs]; simp
  simp only [State.finishChecks, running, if_true, if_neg below, hs]
  rfl

theorem State.finishChecks_limit (hx : s.car c = some x) (hr : x.race.state = .running)
    (hs : s.race.state = .green ∨ s.race.state = .caution) (mode : s.course.settings.mode = .laps)
    (limit : s.course.settings.limit ≤ x.race.effective) : s.finishChecks c = s.enterChequered.finished c := by
  have running : s.isRunning c = true := by rw [State.isRunning_of hx, hr]; rfl
  have hit : s.lapsLimitHit c = true := (State.lapsLimitHit_iff hx).mpr ⟨hs, mode, limit⟩
  simp only [State.finishChecks, running, hit, if_true]
  rfl

theorem State.finishChecks_none (hx : s.car c = some x) (h : x.race.state ≠ .running
      ∨ s.race.state ≠ .chequered ∧ ((s.race.state ≠ .green ∧ s.race.state ≠ .caution)
        ∨ s.course.settings.mode = .time ∨ x.race.effective < s.course.settings.limit)) : s.finishChecks c = s := by
  rcases h with stopped | ⟨unflagged, below⟩
  · have running : s.isRunning c = false := by rw [State.isRunning_of hx]; exact decide_eq_false stopped
    simp [State.finishChecks, running]
  · have unhit : ¬ s.lapsLimitHit c = true := by
      rw [State.lapsLimitHit_iff hx]
      rintro ⟨live, laps, limit⟩
      rcases below with ⟨h, h'⟩ | h | h
      · exact live.elim h h'
      · rw [h] at laps; cases laps
      · omega
    simp only [State.finishChecks, if_neg unhit, if_neg unflagged, ite_self]

end Sys2Proof.Machine
end

section
/-! PROOFS. A lap counted under the flag, and the race it may close (R101, R102, R130): the rest of O55. -/

set_option Elab.async false

namespace Sys2Proof.Machine

open Sys2Proof

variable {s t u : State} {c : Code} {y z : Car} {x : Passage}

/-! ## The flag thrown by a finish (R129) -/

/-- The state under the flag, with a car still running. -/
theorem State.enterChequered_spec (hx : s.car c = some y) (he : y.entered = true) (hr : y.race.state = .running)
    (hs : s.race.state = .green ∨ s.race.state = .caution) :
    s.enterChequered.car c = some y ∧ s.enterChequered.stand = s.stand ∧ s.enterChequered.pen = s.pen ∧
    s.enterChequered.time = s.time ∧ s.enterChequered.raceMs = s.raceMs ∧
    s.enterChequered.race = { s.flagged.race with lamps := s.enterChequered.race.lamps } ∧
    s.enterChequered.journal = s.journal.added s.raceMs
      (.state s.race.state .chequered (decide (s.race.state = .caution)) none .limit) := by
  have going := State.enterChequered_of_running ⟨y, State.mem_cars_of_car hx, he, by simp [hr], by simp [hr]⟩
  have race : s.flagged.showState.race = { s.flagged.race with lamps := s.flagged.showState.race.lamps } := by
    rw [State.showState_race_lamps]
  have clocks : s.flagged.time = s.time := by simp [State.flagged]
  rw [going]
  refine ⟨?_, by simp [State.flagged], by simp [State.flagged],
    by rw [State.showState_time, clocks], ?_, race, ?_⟩
  · rw [State.car_congr (t := s) (by simp [State.flagged]), hx]
  · have state : s.flagged.showState.race.state = .chequered := by rw [race, State.flagged_race]
    rcases hs with h | h <;> simp [State.raceMs, State.raceClock, State.neutral, state, clocks, h]
  · rw [State.showState_journal, State.flagged_journal hs]

/-! ## One car among the cars -/

/-- A car looked up is one of the list, and a change of its record changes that place alone. -/
theorem State.modCar_cars (hx : s.car c = some y) (g : Car → Car) : ∃ before after,
    s.cars = before ++ y :: after ∧ (s.modCar c g).cars = before ++ g y :: after := by
  obtain ⟨i, hi, slot⟩ := State.find_of_car hx
  have bound : i.val < s.roster.slots.toList.length := by simp
  have at_ : s.roster.slots.toList[i.val] = some y := by rw [Vector.getElem_toList]; exact slot
  have split : s.roster.slots.toList = s.roster.slots.toList.take i.val ++ some y ::
      s.roster.slots.toList.drop (i.val + 1) := by
    rw [← at_, List.getElem_cons_drop, List.take_append_drop]
  have changed : (s.modCar c g).roster.slots.toList = s.roster.slots.toList.take i.val ++ some (g y) ::
      s.roster.slots.toList.drop (i.val + 1) := by
    have set : (s.modCar c g).roster.slots = s.roster.slots.set i.val (some (g y)) i.isLt := by
      simp only [State.modCar, hi, slot]
      rfl
    rw [set, Vector.toList_set, List.set_eq_take_append_cons_drop, if_pos bound]
  refine ⟨(s.roster.slots.toList.take i.val).filterMap id, (s.roster.slots.toList.drop (i.val + 1)).filterMap id,
    ?_, ?_⟩
  · rw [State.cars]
    conv_lhs => rw [split]
    simp
  · rw [State.cars, changed]
    simp

/-- A change seen through a view is a change of the view. -/
theorem State.modCar_view {f g k : Car → Car} (hf : ∀ a, (f a).code = a.code) (h : ∀ a, f (g a) = k (f a)) (s : State)
    (c : Code) : ((s.modCar c g).mapCars f).roster = ((s.mapCars f).modCar c k).roster := by
  have codes (i : Slot) : (s.mapCars f).roster.codeAt i = s.roster.codeAt i := by
    rw [Roster.codeAt, State.mapCars_slot, Roster.codeAt]
    cases s.roster.slots[i] <;> simp [hf]
  unfold State.modCar
  rw [Roster.find_congr codes]
  cases s.roster.find c with
  | none => rfl
  | some i =>
    simp only [State.mapCars_roster, Roster.mk.injEq, and_self, and_true]
    refine Vector.ext (fun j hj => ?_)
    rw [mapVec_getElem]
    by_cases hij : i.val = j
    · subst hij
      simp [Function.comp_def, h, mapVec_getElem]
    · simp [hij, mapVec_getElem]

/-! ## What follows a finish -/

/-- What follows a finish keeps the done views, the controller and the clocks, and the finished car finished. -/
structure State.Trails (c : Code) (s t : State) : Prop where
  view : s.Alike Car.doneView t
  race : t.race = s.race
  time : t.time = s.time
  stays : ∀ z, s.car c = some z → z.race.state = .finished ∧ z.race.silence = none →
    ∃ w, t.car c = some w ∧ w.race.state = .finished ∧ w.race.silence = none

theorem State.Trails.refl (s : State) : s.Trails c s := ⟨rfl, rfl, rfl, fun z hz h => ⟨z, hz, h⟩⟩

theorem State.Trails.trans (h : s.Trails c t) (k : t.Trails c u) : s.Trails c u :=
  ⟨h.view.trans k.view, k.race.trans h.race, k.time.trans h.time, fun z hz hf => by
    obtain ⟨w, hw, hfw⟩ := h.stays z hz hf
    exact k.stays w hw hfw⟩

theorem State.Charges.trails (h : s.Charges t) : s.Trails c t where
  view := State.Alike.coarser (g := Car.uncharged) h.cars (fun _ => rfl)
  race := h.race
  time := h.time
  stays := fun z hz hf => by
    obtain ⟨w, hw, same⟩ := h.car_some hz
    exact ⟨w, hw, (congrArg (fun a : Car => a.race.state) same :).trans hf.1,
      (congrArg (fun a : Car => a.race.silence) same :).trans hf.2⟩

theorem State.modRace_trails (s : State) (c : Code) {f : RacePart → RacePart} (state : ∀ r, (f r).state = r.state)
    (silence : ∀ r, r.silence = none → (f r).silence = none) : s.Trails c (s.modRace c f) where
  view := s.modRace_doneView c state
  race := s.modRace_race c f
  time := s.modRace_time c f
  stays := fun z hz hf =>
    ⟨_, (State.modRace_carSet hz f).1, (state z.race).trans hf.1, silence z.race hf.2⟩

theorem State.recordFinish_trails (s : State) (c : Code) : s.Trails c (s.recordFinish c) := by
  have placed (n : Nat) : s.Trails c (s.modRace c (fun r => { r with finishPos := some n })) :=
    s.modRace_trails c (fun _ => rfl) (fun _ h => h)
  unfold State.recordFinish
  dsimp only
  repeat' split
  · exact (placed _).trans (State.append_charges _ _).trails
  · exact placed _
  · exact .refl s

theorem State.finished_trails (s : State) (c : Code) : (s.stopped c).Trails c (s.finished c) :=
  ((s.stopped c).recordFinish_trails c).trans
    ((State.recomputeCar_charges _ c).trails.trans (State.settleCar_charges _ _ _).trails)

theorem State.beginStopGo_trails (s : State) (c : Code) : s.Trails c (s.beginStopGo c) := by
  have served : s.Trails c (s.modRace c (fun r => { r with silence := none, serving := true })) :=
    s.modRace_trails c (fun _ => rfl) (fun _ _ => rfl)
  unfold State.beginStopGo
  obtain ⟨a, ha⟩ : ∃ a, a = s.modRace c (fun r => { r with silence := none, serving := true }) := ⟨_, rfl⟩
  rw [← ha] at served ⊢
  repeat' split
  · exact served.trans (a.finishEvent_charges _ _ _).trails
  all_goals exact .refl s

theorem State.stageServing_trails (s : State) (x : Passage) : s.Trails x.code (s.stageServing x) := by
  unfold State.stageServing
  repeat' split
  · exact s.beginStopGo_trails x.code
  all_goals exact .refl s

theorem State.update_trails (s : State) (x : Passage) : s.Trails x.code (s.update x) where
  view := s.update_doneView x
  race := (s.update_rest x).2.2.1
  time := (s.update_rest x).2.2.2.1
  stays := fun z hz ⟨state, silence⟩ => by
    obtain ⟨⟨w, hw, same⟩, -⟩ := State.update_spec hz
    have untimed : s.updatesSilence z.race x.code = false := by simp [State.updatesSilence, state]
    refine ⟨w, hw, (congrArg (fun a : Car => a.race.state) same :).trans state,
      (congrArg (fun a : Car => a.race.silence) same :).trans ?_⟩
    exact (if_neg (by rw [untimed]; simp)).trans silence

/-! ## A lap counted under the flag (R101, R102) -/

/-- A counted lap as it stands when its finish checks are made, in a race. -/
def State.lapNoticed (s : State) (y : Car) (x : Passage) (f : LapFlags) (ticks : Option Nat) : State :=
  let ms := s.captureMs x.capture
  let a := s.modRace x.code (fun r => r.countLap f ticks ms)
  let r := ((a.car x.code).map Car.race).getD RacePart.initial
  (a.append (.lap x.code y.number r.counted r.effective (r.lastLapMs.getD 0) f.toByte x.point x.lane
    x.origin x.capture.merged ms)).resort .lap

theorem RacePart.countLap_state (r : RacePart) (f : LapFlags) (ticks : Option Nat) (ms : Nat) :
    (r.countLap f ticks ms).state = r.state := by
  unfold RacePart.countLap
  dsimp only
  split <;> rfl

theorem State.lapNoticed_spec {w : Car} (hw : s.car x.code = some w) (y : Car) (f : LapFlags) (ticks : Option Nat) :
    s.Alike Car.doneView (s.lapNoticed y x f ticks) ∧ (s.lapNoticed y x f ticks).race = s.race ∧
    (s.lapNoticed y x f ticks).time = s.time ∧
    ∃ v, (s.lapNoticed y x f ticks).car x.code = some v ∧ v.race.state = w.race.state := by
  obtain ⟨a, ha⟩ : ∃ a, a = s.modRace x.code (fun r => r.countLap f ticks (s.captureMs x.capture)) := ⟨_, rfl⟩
  have view : s.Alike Car.doneView a := ha ▸ s.modRace_doneView _ (fun r => r.countLap_state _ _ _)
  have car := ha ▸ (State.modRace_carSet hw (fun r => r.countLap f ticks (s.captureMs x.capture))).1
  have roster : (s.lapNoticed y x f ticks).roster = a.roster := by
    rw [ha, State.lapNoticed, State.resort_roster, State.append_roster]
  refine ⟨view.trans (.of_roster roster), by simp [State.lapNoticed], by simp [State.lapNoticed], _,
    (State.car_congr roster _).trans car, w.race.countLap_state _ _ _⟩

/-- Under the flag a counted lap of a running car finishes it. -/
theorem State.countedLap_flagged (hs : s.race.state = .chequered) {w : Car} (hw : s.car x.code = some w)
    (hr : w.race.state = .running) (y : Car) (f : LapFlags) (ticks : Option Nat) :
    State.Trails x.code ((s.lapNoticed y x f ticks).finished x.code) (s.countedLap y x f ticks) := by
  obtain ⟨-, race, -, v, hv, state⟩ := State.lapNoticed_spec hw y f ticks
  have finishes := State.finishChecks_flagged hv (state.trans hr) (by rw [race, hs])
  have racing : s.race.state.racing = true := by rw [hs]; rfl
  have eq : s.countedLap y x f ticks = State.markServing
      (if ((s.lapNoticed y x f ticks).finished x.code).race.state.racing
        then ((s.lapNoticed y x f ticks).finished x.code).serveTriggers x.code
        else (s.lapNoticed y x f ticks).finished x.code) x.code := by
    unfold State.countedLap
    simp only [racing, if_true]
    rw [← finishes]
    rfl
  rw [eq]
  refine .trans ?_ (State.modRace_trails _ _ (fun _ => rfl) (fun _ h => h))
  split
  · exact (State.serveTriggers_charges _ _).trails
  · exact .refl _

/-- The state in which stage 5 begins has the done views, the controller and the clocks, and a running car. -/
theorem State.checked_running (hy : s.car x.code = some y) {off : Bool}
    (hoff : y.race.state = .running ∧ off = false ∨ y.race.state = .offTrack ∧ off = true) :
    s.Alike Car.doneView (s.checked y x) ∧ (s.checked y x).time = s.time ∧
    ∃ w, (s.checked y x).car x.code = some w ∧ w.race.state = .running := by
  obtain ⟨u, checked, set, -, -, -, frame, view⟩ := State.checked_raised hy hoff
  have charges := u.raiseAll_charges (s.callsOf y x) x
  have called : u.Alike Car.doneView (u.raiseAll (s.callsOf y x) x) :=
    State.Alike.coarser (g := Car.uncharged) charges.cars (fun _ => rfl)
  obtain ⟨w, hw, same⟩ := charges.car_some set.1
  rw [checked]
  exact ⟨view.trans called, charges.time.trans (by rw [frame]), w, hw, (congrArg (fun a : Car => a.race.state) same :)⟩

/-- A lap counted under the flag: the car stops, and what follows keeps it finished. -/
theorem State.passStages_flagged (hy : s.car x.code = some y) {off : Bool}
    (hoff : y.race.state = .running ∧ off = false ∨ y.race.state = .offTrack ∧ off = true)
    (hs : s.race.state = .chequered) (counts : s.countsLap y x) : ∃ (a : State) (w : Car),
      s.Alike Car.doneView a ∧ a.race = s.race ∧ a.time = s.time ∧ a.car x.code = some w ∧
      (a.stopped x.code).Trails x.code (s.passStages y x) := by
  obtain ⟨-, -, -, -, race⟩ := s.checked_spec y x
  obtain ⟨view, time, w, hw, running⟩ := State.checked_running hy hoff
  obtain ⟨v, hv⟩ : ∃ v, v = s.checked y x := ⟨_, rfl⟩
  obtain ⟨b, hb⟩ : ∃ b, b = v.modRace x.code (fun r => r.turnLap (s.spanOf y x) (s.placeOf y x) x) := ⟨_, rfl⟩
  have stages := s.passStages_eq y x
  rw [← hv] at race view time hw stages
  have neutral : v.isNeutral x.capture = s.isNeutral x.capture := by simp only [State.isNeutral, race]
  rw [(s.stageLaps_cases v y x neutral b hb).1 counts] at stages
  have brace : b.race = s.race := by rw [hb, State.modRace_race, race]
  have btime : b.time = s.time := by rw [hb, State.modRace_time, time]
  have bview : v.Alike Car.doneView b := hb ▸ v.modRace_doneView _ (fun r => by rw [RacePart.turnLap_keeps])
  have bcar : b.car x.code = some { w with race := w.race.turnLap (s.spanOf y x) (s.placeOf y x) x } := by
    rw [hb, State.modRace_car_self, hw]; rfl
  have brunning : (w.race.turnLap (s.spanOf y x) (s.placeOf y x) x).state = .running := by
    rw [RacePart.turnLap_keeps]; exact running
  obtain ⟨noticed, nrace, ntime, z, hz, -⟩ := State.lapNoticed_spec bcar y (s.flagsOf y x) (s.ticksOf y x)
  have counted := State.countedLap_flagged (by rw [brace, hs]) bcar brunning y (s.flagsOf y x) (s.ticksOf y x)
  refine ⟨_, z, view.trans (bview.trans noticed), nrace.trans brace, ntime.trans btime, hz, ?_⟩
  rw [stages]
  exact (State.finished_trails _ _).trans (counted.trans ((State.stageServing_trails _ _).trans
    (State.update_trails _ _)))

/-! ## The cars that are done when it is over (R130) -/

/-- A car seen as done. -/
def Car.seenDone (x : Car) : Car := { x with race := { x.race with state := .retired } }

/-- A race in which one car has just stopped is done when every other is. -/
theorem State.raceDone_stopped {before after : List Car} {w : Car} (hy : s.car x.code = some y)
    (split : s.cars = before ++ y :: after) (view : s.Alike Car.doneView u) (hw : u.car x.code = some w)
    (trails : (u.stopped x.code).Trails x.code t) : t.raceDone = true ↔
      ∀ e ∈ before ++ after, e.entered = true → e.race.state = .finished ∨ e.race.state = .retired := by
  have shown : ((u.stopped x.code).mapCars Car.doneView).roster =
      ((u.mapCars Car.doneView).modCar x.code Car.seenDone).roster :=
    State.modCar_view (f := Car.doneView)
      (g := fun a => { a with race := { a.race with state := .finished, silence := none } })
      (fun _ => rfl) (fun a => by simp [Car.doneView, Car.seenDone]) u x.code
  have cw : (u.mapCars Car.doneView).car x.code = some w.doneView := by
    rw [State.mapCars_car (f := Car.doneView) (fun _ => rfl), hw]; rfl
  obtain ⟨b, a, here, there⟩ := State.modCar_cars cw Car.seenDone
  have now : t.cars.map Car.doneView = b ++ w.doneView.seenDone :: a := by
    rw [← State.mapCars_cars, State.cars_congr (Eq.trans trails.view shown), there]
  have same : w.doneView = y.doneView := by
    obtain ⟨w', hw', same⟩ := view.car_some (f := Car.doneView) (fun _ => rfl) hy
    rw [hw] at hw'
    cases hw'
    exact same
  have others : (b ++ a).Perm ((before ++ after).map Car.doneView) := by
    have lists : b ++ y.doneView :: a = before.map Car.doneView ++ y.doneView :: after.map Car.doneView := by
      rw [← same, ← here, State.mapCars_cars, view.cars, split, same]
      simp
    have moved := List.perm_middle.symm.trans ((List.Perm.of_eq lists).trans List.perm_middle)
    rw [List.map_append]
    exact moved.cons_inv
  have mine : w.doneView.seenDone.race.state = .finished ∨ w.doneView.seenDone.race.state = .retired := .inr rfl
  have all := (List.perm_middle (l₁ := b) (l₂ := a) (a := w.doneView.seenDone)).trans (others.cons _)
  rw [State.raceDone_iff, now]
  simp only [all.mem_iff, List.forall_mem_cons, mine, implies_true, true_and, List.forall_mem_map, Car.doneView_entered,
    Car.doneView_done]

/-- A passage from the last one that reaches or misses point 0 within the tolerance counts the lap (R97). -/
theorem State.countsLap_of {l : LastPassage} (admits : s.Admits y x) (hl : y.race.last = some l)
    (lpoint : l.point < s.course.points.length) (line : x.point = 0 ∨ x.point ≤ l.point)
    (near : s.lengthTo l.point x.point ≤ s.course.settings.missTolerance + 1) (open_ : y.race.lapState ≠ .closed) :
    s.countsLap y x := by
  have start : y.race.spanFrom = some l.point := RacePart.spanFrom_last hl
  refine ⟨?_, open_, (State.within_iff start).mpr near⟩
  rw [State.placeOf_line start lpoint admits.point line]
  split <;> simp

end Sys2Proof.Machine

open Sys2Proof Sys2Proof.Machine

/-- Settles O55. -/
theorem finishing : Obligations.Finishing := by
  refine ⟨fun s t c x ht hx hr hs => ?_, fun s t c x ht hx hr he hs mode limit => ?_,
    fun s c x hx h => State.finishChecks_none hx h,
    fun s t y x l before after ht hy split hs hoff point lpoint hl later since tag line near open_ => ?_⟩
  · obtain ⟨car, race, time, queue, list, journal⟩ := State.finished_spec hx
    rw [ht, State.finishChecks_flagged hx hr hs]
    refine ⟨_, car, rfl, rfl, rfl, fun n hn => ?_, race, time, queue, fun bound => clearedTime_eq bound _,
      fun nodup => State.withCleared_penalty nodup list, journal⟩
    rw [hn]; rfl
  · obtain ⟨car, stand, pen, clocks, ms, race, journal⟩ := State.enterChequered_spec hx he hr hs
    rw [ht, State.finishChecks_limit hx hr hs mode limit]
    obtain ⟨u, hu⟩ : ∃ u, u = s.enterChequered := ⟨_, rfl⟩
    rw [← hu] at car stand pen clocks ms race journal ⊢
    have place : u.position c = s.position c := State.position_congr stand c
    have queued : u.serveQueue c = s.serveQueue c := State.serveQueue_congr (by rw [pen]) c
    obtain ⟨car', race', time', queue', -, journal'⟩ := State.finished_spec car
    rw [place, queued, journal, ms] at journal'
    refine ⟨?_, time'.trans clocks, queue', ⟨_, car', rfl, rfl, fun n hn => ?_⟩, journal'⟩
    · rw [race', race, State.flagged_race]
    · rw [place, hn]; rfl
  · have admits : s.Admits y x := ⟨by rcases hoff with h | h <;> simp [h], by rcases hoff with h | h <;> simp [h],
      point, State.later_of_last hl later, by simp [hs], since, tag⟩
    have counts := State.countsLap_of admits hl lpoint line near open_
    have going : ∃ off, y.race.state = .running ∧ off = false ∨ y.race.state = .offTrack ∧ off = true :=
      hoff.elim (fun h => ⟨false, .inl ⟨h, rfl⟩⟩) (fun h => ⟨true, .inr ⟨h, rfl⟩⟩)
    obtain ⟨off, hoff⟩ := going
    obtain ⟨a, w, view, arace, atime, hw, trails⟩ := State.passStages_flagged hy hoff hs counts
    have done := State.raceDone_stopped hy split view hw trails
    obtain ⟨v, hv, finished, silent⟩ := trails.stays _ (State.modRace_carSet hw _).1 ⟨rfl, rfl⟩
    have race : (s.passStages y x).race = s.race := trails.race.trans ((a.modRace_race _ _).trans arace)
    have time : (s.passStages y x).time = s.time := trails.time.trans ((a.modRace_time _ _).trans atime)
    obtain ⟨⟨z', hz', laps⟩, -⟩ := State.processPassage_laps hy admits
    rw [State.processPassage_admits hy admits] at ht hz'
    rw [ht]
    obtain ⟨b, hb⟩ : ∃ b, b = s.passStages y x := ⟨_, rfl⟩
    rw [← hb] at done hv race time hz' ⊢
    have flagged : b.race.state = .chequered := by rw [race, hs]
    refine ⟨?_, fun all => ?_, fun ⟨e, he, entered, unfinished, unretired⟩ => ?_⟩
    · obtain ⟨z, hz, same⟩ := State.doneTest_car hv silent
      rw [hz] at hz'
      obtain rfl : z = z' := Option.some.inj hz'
      exact ⟨z, hz, (congrArg (fun a : Car => a.race.state) same :).trans finished,
        (congrArg (fun a : Car => a.race.silence) same :).trans silent,
        (Car.sameLaps laps).counted.trans (State.lapsAfter_counted counts y.race).1⟩
    · obtain ⟨closed, -, -, -, -, -, fixed, -⟩ := b.closeRace_closedWith .finished
      rw [State.doneTest_done flagged (done.mpr all), closed]
      exact ⟨rfl, rfl, fixed⟩
    · have undone : b.raceDone = false := by
        rw [← Bool.not_eq_true, done]
        exact fun all => (all e he entered).elim unfinished unretired
      rw [State.doneTest_undone (.inr undone)]
      exact ⟨race, time⟩
end
